-- ==== Sys2Proof/Word.lean ====
section
/-! DEFINITION. The word types of the KD42 model: bytes and words of the link and of the trip store
(spec 00 "Names": a word is 16 bits; spec 12: multi-byte values). -/

namespace Sys2Proof

/-- One byte of the link, of a table image or of result data. -/
abbrev Byte := BitVec 8

/-- A 16-bit word (spec 00, "Names"). -/
abbrev Word := BitVec 16

/-- A 32-bit number: the pace count, supervisor time, a trip number, the data of an event record. -/
abbrev DWord := BitVec 32

/-- A VDL header sequence, 12 bits (R177, R189). -/
abbrev Seq := BitVec 12

end Sys2Proof
end

