-- ==== Sys2Proof/Syntax.lean ====
section
/-! DEFINITION. The commands of the KD42: one constructor of `Instr` per row of spec/opcode_table.json,
with the operands the frame, the request or the line event brings (spec 11, spec 12). -/

namespace Sys2Proof

/-- The two motors; motor A is served by port M0, motor B by port M1 (spec 00, "Names"). -/
inductive Motor where
  | A | B
  deriving DecidableEq, Repr

/-- The four VDL ports (spec 00, "How the part is reached"). -/
inductive Port where
  | S | M0 | M1 | H
  deriving DecidableEq, Repr

/-- Why an arriving frame is refused, or that an accepted one left a gap (R178, R179, R180). -/
inductive LinkReason where
  | crc | length | kind | channel | gap
  deriving DecidableEq, Repr

/-- An accepted REQUEST frame less its request code: header sequence, tag and argument bytes (spec 12.2).
The number of argument bytes is checked by the request handler (R184), not here. -/
structure Request where
  seq  : Seq
  tag  : Word
  args : List Byte
  deriving DecidableEq, Repr

/-- The payload of a FEEDBACK frame, field by field (spec 12.2), with its header sequence. -/
structure FeedbackFrame where
  seq      : Seq
  id       : Word
  iq       : Word
  speed    : Word
  dcLink   : Word
  temp     : Word
  modState : Byte
  fault    : Word
  deriving DecidableEq, Repr

/-- What an accepted frame brings, by its kind (R178, spec 12.2): the commands of the rows that arrive as
frames, the requests not yet told apart by their codes. -/
inductive Arrival where
  | setpoint (seq : Seq) (mode flags : Byte) (tReq : Word) (supTime : DWord)
  | request (code : Byte) (r : Request)
  | feedback (m : Motor) (f : FeedbackFrame)
  | vibSample (c : Fin 6) (seq : Seq) (samples : Vector Word 8)
  | position (seq : Seq) (angle : Word)
  deriving DecidableEq, Repr

/-- The commands: what can reach the part from outside or come due inside it, each one whole and
indivisible step (spec 95). -/
inductive Instr where
  /-- SETPOINT (R29): sequence, mode byte, flag byte, torque request, supervisor time. -/
  | setpoint (seq : Seq) (mode flags : Byte) (tReq : Word) (supTime : DWord)
  /-- FEEDBACK (R51) on M0 for motor A, on M1 for motor B. -/
  | feedback (m : Motor) (f : FeedbackFrame)
  /-- VIBSAMPLE (R73) on an H channel 0 to 5: sequence and eight samples, oldest first. -/
  | vibSample (c : Fin 6) (seq : Seq) (samples : Vector Word 8)
  /-- POSITION (R89) on H channel 7: sequence and shell angle. -/
  | position (seq : Seq) (angle : Word)
  /-- REFUSED_FRAME (R178): the port and the frame's bytes, header to closing CRC. -/
  | refusedFrame (p : Port) (bytes : List Byte)
  /-- REQUEST_UNKNOWN_CODE (R184): the request code and the rest of the request. -/
  | requestUnknownCode (code : Byte) (r : Request)
  /-- IDENTIFY (R185). -/
  | identify (r : Request)
  /-- STATUS_CLEAR (R186). -/
  | statusClear (r : Request)
  /-- RESTART (R187). -/
  | restart (r : Request)
  /-- TABLE_OPEN (R166). -/
  | tableOpen (r : Request)
  /-- TABLE_WRITE (R167). -/
  | tableWrite (r : Request)
  /-- TABLE_ABORT (R168). -/
  | tableAbort (r : Request)
  /-- TABLE_COMMIT (R169 to R171). -/
  | tableCommit (r : Request)
  /-- TABLE_READ (R173). -/
  | tableRead (r : Request)
  /-- LOCK_SET (R174). -/
  | lockSet (r : Request)
  /-- LOCK_CLEAR (R174). -/
  | lockClear (r : Request)
  /-- TRIP_RESET (R107, R108). -/
  | tripReset (r : Request)
  /-- TRIP_READ (R144). -/
  | tripRead (r : Request)
  /-- STORE_TRIM (R145). -/
  | storeTrim (r : Request)
  /-- STORE_ERASE_ALL (R146). -/
  | storeEraseAll (r : Request)
  /-- STORE_BLANK_CHECK (R147). -/
  | storeBlankCheck (r : Request)
  /-- STORE_STATUS (R148). -/
  | storeStatus (r : Request)
  /-- EVENT_READ (R156). -/
  | eventRead (r : Request)
  /-- EVENT_MARK (R157). -/
  | eventMark (r : Request)
  /-- VIB_RESTART (R83). -/
  | vibRestart (r : Request)
  /-- HARDWARE_RESET (R188): the RESET line is asserted and released. -/
  | hardwareReset
  /-- LOCK_LINE_CHANGE (R175): the level the LOCK line takes. -/
  | lockLineChange (asserted : Bool)
  /-- BRK_TIME_EXPIRY (R13). -/
  | brkTimeExpiry
  /-- BRK_REST_EXPIRY (R14). -/
  | brkRestExpiry
  /-- STOP_TIME_EXPIRY (R17). -/
  | stopTimeExpiry
  /-- STALL_TIMER_EXPIRY (R42). -/
  | stallTimerExpiry
  /-- SETPOINT_TIMER_EXPIRY (R43). -/
  | setpointTimerExpiry
  /-- FEEDBACK_TIMER_EXPIRY (R65) of one regulator. -/
  | feedbackTimerExpiry (m : Motor)
  /-- SILENCE_TIMER_EXPIRY (R81) of one channel. -/
  | silenceTimerExpiry (c : Fin 6)
  /-- POSITION_TIMER_EXPIRY (R94). -/
  | positionTimerExpiry
  /-- POST_LIMIT_EXPIRY (R118). -/
  | postLimitExpiry
  /-- PULSE_TIMER_EXPIRY (R160). -/
  | pulseTimerExpiry
  /-- SCAN_END (R131). -/
  | scanEnd
  /-- PROGRAM_COMPLETION (R137, R138): whether the cells took every word programmed. -/
  | programCompletion (took : Bool)
  /-- ERASE_COMPLETION (R142): whether the bank verified as erased. -/
  | eraseCompletion (verified : Bool)
  /-- BLANK_CHECK_COMPLETION (R147). -/
  | blankCheckCompletion
  /-- TRANSMISSION_END (R183) of the S transmitter. -/
  | transmissionEnd
  /-- VCMD_TRANSMISSION_END (R177) of the M0 (motor A) or M1 (motor B) transmitter. -/
  | vcmdTransmissionEnd (m : Motor)
  deriving DecidableEq, Repr

end Sys2Proof
end

