-- ==== Sys2Proof/Decode.lean ====
section
/-! DEFINITION. From bits to commands.  No row of spec/opcode_table.json gives bits, so
`decodeTableWord` spells no command.  What the part itself decodes are the frames of its ports: the link
checks of R178, the frame and payload layouts of spec 12.1 to 12.3 (R189), and the frame builder of the
outbound side. -/

namespace Sys2Proof

/-- No row of the table gives bits, so no word spells a command. -/
def decodeTableWord (_nbits _w : Nat) : Option Instr := none

/-! ### Bytes, high byte first (spec 12, first paragraph) -/

def be16 (hi lo : Byte) : Word := hi ++ lo

def be32 (b3 b2 b1 b0 : Byte) : DWord := be16 b3 b2 ++ be16 b1 b0

def hiByte (w : Word) : Byte := w.extractLsb' 8 8

def loByte (w : Word) : Byte := w.extractLsb' 0 8

def bytes16 (w : Word) : List Byte := [hiByte w, loByte w]

def bytes32 (d : DWord) : List Byte := bytes16 (d.extractLsb' 16 16) ++ bytes16 (d.extractLsb' 0 16)

/-! ### The CRC (R178, check 1) -/

/-- One bit of the CRC over x^16 + x^12 + x^5 + 1. -/
def crcShift (c : Word) : Word :=
  if c.msb then (c <<< 1) ^^^ 0x1021#16 else c <<< 1

/-- One byte of the CRC, high bit first. -/
def crcByte (c : Word) (b : Byte) : Word :=
  [0, 1, 2, 3, 4, 5, 6, 7].foldl (fun c (_ : Nat) => crcShift c) (c ^^^ (b.setWidth 16 <<< 8))

/-- The CRC-16 of a run of bytes, started from FFFFh, nothing reflected and nothing XORed at the end. -/
def crc16 (bs : List Byte) : Word := bs.foldl crcByte 0xFFFF#16

/-! ### The frame (spec 12.1) -/

/-- The kind code of a frame's first byte. -/
def frameKind (b0 : Byte) : Nat := (b0.extractLsb' 4 4).toNat

/-- The channel of a frame's first byte. -/
def frameChannel (b0 : Byte) : BitVec 4 := b0.extractLsb' 0 4

/-- A whole frame: header, payload, CRC (spec 12.1). -/
def buildFrame (kind channel : BitVec 4) (seq : Seq) (payload : List Byte) : List Byte :=
  let body := (kind ++ channel) :: bytes16 (seq.setWidth 16) ++ BitVec.ofNat 8 payload.length :: payload
  body ++ bytes16 (crc16 body)

/-- The frame's closing CRC stands where its length byte puts it and equals the CRC of what precedes it.
A run of bytes with no room for a header and a CRC, or whose number of bytes is not the one its length
byte gives, fails this check (assumption 9). -/
def crcHolds (bytes : List Byte) : Bool :=
  match bytes with
  | _ :: _ :: _ :: n :: _ =>
    bytes.length == n.toNat + 6 &&
      bytes.drop (n.toNat + 4) == bytes16 (crc16 (bytes.take (n.toNat + 4)))
  | _ => false

/-- The kind code is one the link knows (spec 12.1). -/
def knownKind (kind : Nat) : Bool := 1 ≤ kind && kind ≤ 8

/-- The payload lengths the kinds allow (spec 12.1). -/
def lengthAllowed (kind n : Nat) : Bool :=
  match kind with
  | 1 => n == 8
  | 2 => 3 ≤ n && n ≤ 32
  | 3 => n == 26
  | 4 => 4 ≤ n && n ≤ 32
  | 5 => n == 13
  | 6 => n == 7
  | 7 => n == 16
  | 8 => n == 2
  | _ => false

/-- The kinds taken on each port (R178, check 3). -/
def kindTaken (p : Port) (kind : Nat) : Bool :=
  match p with
  | .S => kind == 1 || kind == 2
  | .M0 | .M1 => kind == 5
  | .H => kind == 7 || kind == 8

/-- The channels a taken kind may arrive on (R178, check 4). -/
def channelTaken (kind channel : Nat) : Bool :=
  match kind with
  | 7 => channel ≤ 5
  | 8 => channel == 7
  | _ => channel == 0

/-- The checks of R178 in their order: the reason of the first that fails, none for an accepted frame.
The length of a frame of an unknown kind is not checked (R189). -/
def checkFrame (p : Port) (bytes : List Byte) : Option LinkReason :=
  if crcHolds bytes then
    match bytes with
    | b0 :: _ :: _ :: n :: _ =>
      let kind := frameKind b0
      if knownKind kind && !lengthAllowed kind n.toNat then some .length
      else if !kindTaken p kind then some .kind
      else if !channelTaken kind (frameChannel b0).toNat then some .channel
      else none
    | _ => some .crc
  else some .crc

/-- The channel a LINK_ERR record names: that of the frame's first byte, 0 where there is none. -/
def arrivalChannel (bytes : List Byte) : BitVec 4 :=
  match bytes with
  | b0 :: _ => frameChannel b0
  | [] => 0

/-! ### Commands of accepted frames (spec 12.2, 12.3) -/

/-- The command of a request code (spec 12.3); a code that names no request is
REQUEST_UNKNOWN_CODE (R184). -/
def requestCommand (code : Byte) (r : Request) : Instr :=
  match code.toNat with
  | 1 => .identify r
  | 2 => .statusClear r
  | 3 => .restart r
  | 4 => .tableOpen r
  | 5 => .tableWrite r
  | 6 => .tableCommit r
  | 7 => .tableAbort r
  | 8 => .tableRead r
  | 9 => .lockSet r
  | 10 => .lockClear r
  | 11 => .tripReset r
  | 12 => .tripRead r
  | 13 => .storeTrim r
  | 14 => .storeEraseAll r
  | 15 => .storeBlankCheck r
  | 16 => .storeStatus r
  | 17 => .eventRead r
  | 18 => .eventMark r
  | 19 => .vibRestart r
  | _ => .requestUnknownCode code r

/-- The code names a request (spec 12.3). -/
def namesRequest (code : Byte) : Bool := 1 ≤ code.toNat && code.toNat ≤ 19

/-- What an accepted frame's payload brings, by kind, port and channel; none where the payload is not of
the kind's length or the port has no such owner. -/
def payloadArrival (p : Port) (kind channel : Nat) (seq : Seq) (payload : List Byte) : Option Arrival :=
  match kind, payload with
  | 1, [mode, flags, q1, q0, t3, t2, t1, t0] =>
    some (.setpoint seq mode flags (be16 q1 q0) (be32 t3 t2 t1 t0))
  | 2, code :: g1 :: g0 :: args => some (.request code { seq := seq, tag := be16 g1 g0, args := args })
  | 5, [d1, d0, q1, q0, s1, s0, v1, v0, t1, t0, ms, f1, f0] =>
    let frame : FeedbackFrame :=
      { seq := seq, id := be16 d1 d0, iq := be16 q1 q0, speed := be16 s1 s0, dcLink := be16 v1 v0,
        temp := be16 t1 t0, modState := ms, fault := be16 f1 f0 }
    match p with
    | .M0 => some (.feedback .A frame)
    | .M1 => some (.feedback .B frame)
    | .S | .H => none
  | 7, [a1, a0, b1, b0, c1, c0, d1, d0, e1, e0, f1, f0, g1, g0, h1, h0] =>
    if hc : channel < 6 then
      some (.vibSample ⟨channel, hc⟩ seq
        #v[be16 a1 a0, be16 b1 b0, be16 c1 c0, be16 d1 d0, be16 e1 e0, be16 f1 f0, be16 g1 g0, be16 h1 h0])
    else none
  | 8, [a1, a0] => some (.position seq (be16 a1 a0))
  | _, _ => none

/-- What an arriving frame brings where the link accepts it (R178).  Only the low 12 bits of the sequence
word are taken (R189). -/
def decodeArrival (p : Port) (bytes : List Byte) : Option Arrival :=
  match checkFrame p bytes, bytes with
  | none, b0 :: s1 :: s0 :: n :: rest =>
    payloadArrival p (frameKind b0) (frameChannel b0).toNat ((be16 s1 s0).setWidth 12) (rest.take n.toNat)
  | _, _ => none

/-- The command of an accepted frame. -/
def arrivalCommand (a : Arrival) : Instr :=
  match a with
  | .setpoint seq mode flags tReq supTime => .setpoint seq mode flags tReq supTime
  | .request code r => requestCommand code r
  | .feedback m f => .feedback m f
  | .vibSample c seq samples => .vibSample c seq samples
  | .position seq angle => .position seq angle

/-- The command an arriving frame is: the owner's command where the link accepts it, REFUSED_FRAME where
it does not (R178). -/
def decodeFrame (p : Port) (bytes : List Byte) : Instr :=
  match decodeArrival p bytes with
  | some a => arrivalCommand a
  | none => .refusedFrame p bytes

/-! ### Frames as their senders build them (spec 12.1, 12.2) -/

/-- The port an arrival comes in on. -/
def arrivalPort (a : Arrival) : Port :=
  match a with
  | .setpoint .. | .request .. => .S
  | .feedback .A _ => .M0
  | .feedback .B _ => .M1
  | .vibSample .. | .position .. => .H

/-- The payload of a FEEDBACK frame. -/
def feedbackPayload (f : FeedbackFrame) : List Byte :=
  bytes16 f.id ++ bytes16 f.iq ++ bytes16 f.speed ++ bytes16 f.dcLink ++ bytes16 f.temp
  ++ [f.modState] ++ bytes16 f.fault

/-- The payload of a VIBSAMPLE frame. -/
def samplesPayload (v : Vector Word 8) : List Byte :=
  bytes16 v[0] ++ bytes16 v[1] ++ bytes16 v[2] ++ bytes16 v[3] ++ bytes16 v[4] ++ bytes16 v[5]
  ++ bytes16 v[6] ++ bytes16 v[7]

/-- The bytes of the frame that brings an arrival. -/
def encodeArrival (a : Arrival) : List Byte :=
  match a with
  | .setpoint seq mode flags tReq supTime =>
    buildFrame 1 0 seq ([mode, flags] ++ bytes16 tReq ++ bytes32 supTime)
  | .request code r => buildFrame 2 0 r.seq (code :: bytes16 r.tag ++ r.args)
  | .feedback _ f => buildFrame 5 0 f.seq (feedbackPayload f)
  | .vibSample c seq samples => buildFrame 7 (BitVec.ofNat 4 c.val) seq (samplesPayload samples)
  | .position seq angle => buildFrame 8 7 seq (bytes16 angle)

end Sys2Proof
end

