-- ==== Sys2Proof/Config.lean ====
section
/-! DEFINITION. What the manual leaves open and the model keeps free: constants with no body. -/

namespace Sys2Proof

/-- The word at an offset of a store slot whose bank is being erased, or whose bank's erase failed its
verification or was cut off: R128 and R142 do not say what such a slot reads as.  The first argument
is the model's tag of the slot's content (`NvSlot.unknown`), the second the word offset.
Free value, assumption 3. -/
opaque Config.freeNvWord : Nat → Nat → Word

end Sys2Proof
end

