-- ==== Sys2Proof/Machine/State.lean ====
section
/-! DEFINITION. The state of the KD42, block by block as spec 00 "Block overview" lists them, and the
state right after hardware reset.  Quantities in pu, torques and temperatures are `Int`; counts, levels
and durations are `Nat`; what wraps or is compared bit by bit (pace count, supervisor time, trip
numbers, sequences, event data) is a bit vector. -/

namespace Sys2Proof.Machine

/-! ### Names the manual gives to values -/

/-- The seven drive states (R2). -/
inductive DriveState where
  | off | ready | breakaway | resting | run | stopping | tripped
  deriving DecidableEq, Repr

/-- A timer (spec 00, "Timers"): stopped, or running with the duration it was started with, in the unit
the owning table field has.  Time itself is not modelled: the expiry is a command (assumption 2). -/
inductive Timer where
  | stopped
  | running (duration : Nat)
  deriving DecidableEq, Repr

/-- The field that set the derate (R25, R32). -/
inductive Tightest where
  | none | vib | thermA | thermB
  deriving DecidableEq, Repr

/-- The modulator state of a FEEDBACK frame (R50). -/
inductive ModState where
  | notReady | ready | running | fault
  deriving DecidableEq, Repr

/-- The classification of a vibration channel (R71, R72). -/
inductive ChannelState where
  | off | silent | normal | alert | danger
  deriving DecidableEq, Repr

/-- Whether arriving frames enter the window or are passed over (R71). -/
inductive Phase where
  | gather | skip
  deriving DecidableEq, Repr

/-- The five tables (spec 00, "Tables"). -/
inductive TableId where
  | gain | limit | vib | event | drive
  deriving DecidableEq, Repr

/-- The nine cause kinds in the order of R99's table. -/
inductive CauseKind where
  | overtorque | stall | breakawayFail | overtemp | modFault | fbLost | supLost | vibDanger | extTrip
  deriving DecidableEq, Repr

/-- Where a cause or an event comes from (R99, R153, spec 12 "Value codes").  `mark` is the source an
EVENT_MARK request gives (R157). -/
inductive Source where
  | none
  | motor (m : Motor)
  | channel (c : Fin 6)
  | bank (b : Fin 4)
  | port (p : Port)
  | table (t : TableId)
  | mark (code : BitVec 4)
  deriving DecidableEq, Repr

/-- The sixteen event kinds in the order of their numbers (spec 9.1). -/
inductive EventKind where
  | mark | tlim | vclip | fbMiss | linkErr | spMiss | vibState | ringState
  | brkStart | brkEnd | driveState | trip | tripReset | table | store | overwrite
  deriving DecidableEq, Repr

/-- The trip recorder's states (R113). -/
inductive RecorderState where
  | armed | post | frozen | writing | done
  deriving DecidableEq, Repr

/-- Why the post part of a trip record ended (R117, R118). -/
inductive PostReason where
  | target | limit
  deriving DecidableEq, Repr

/-- The state of a store slot (R127). -/
inductive SlotState where
  | blank | writing | valid | void
  deriving DecidableEq, Repr

/-- The state of a store bank (R128). -/
inductive BankState where
  | blank | open | full | erasing | eraseSuspended | needsErase | retired
  deriving DecidableEq, Repr

/-- The store activity (R128). -/
inductive Activity where
  | idle | scanning | programming | erasing | blankChecking
  deriving DecidableEq, Repr

/-- The store mode, a DRIVE field (R129). -/
inductive StoreMode where
  | wrap | keep
  deriving DecidableEq, Repr

/-- What the event ring does when full, an EVENT field (R155). -/
inductive RingMode where
  | wrap | hold
  deriving DecidableEq, Repr

/-- How the ALERT line shows the ALERT condition, an EVENT field (R159, R160). -/
inductive AlertMode where
  | level | pulse
  deriving DecidableEq, Repr

/-- The motor set, a DRIVE field (R45). -/
inductive MotorSet where
  | ab | a | b
  deriving DecidableEq, Repr

/-- The answer codes in the order of R184's table. -/
inductive AnswerCode where
  | ok | adjusted | accepted | busy | noBuffer | inUse | badTable | badLength | locked | running
  | causeActive | recording | bankBusy | noRecord | scanning | notTripped | badRequest
  deriving DecidableEq, Repr

/-! ### Run controller (R2, R8, R10, R24) -/

structure RunController where
  state     : DriveState
  runEdge   : Bool
  attempts  : Nat
  /-- BRK_TIME. -/
  brkTimer  : Timer
  /-- BRK_REST. -/
  restTimer : Timer
  /-- STOP_TIME. -/
  stopTimer : Timer
  deriving DecidableEq, Repr

/-! ### Torque limiter (R25, R48) -/

/-- The limit stack record (R25). -/
structure LimitStack where
  baseFwd   : Int
  baseRev   : Int
  vibDerate : Int
  thermA    : Int
  thermB    : Int
  derate    : Int
  tightest  : Tightest
  lFwd      : Int
  lRev      : Int
  limiting  : Bool
  deriving DecidableEq, Repr

structure TorqueLimiter where
  stack      : LimitStack
  tReq       : Int
  tCmd       : Int
  supTime    : DWord
  shareA     : Int
  shareB     : Int
  iqRefA     : Int
  iqRefB     : Int
  tMeas      : Int
  /-- The overtorque persistence count. -/
  otCount    : Nat
  /-- STALL_TIME. -/
  stallTimer : Timer
  /-- The setpoint-miss count. -/
  missCount  : Nat
  /-- SP_TIMEOUT. -/
  spTimer    : Timer
  /-- The SUP_LOST condition. -/
  supLost    : Bool
  deriving DecidableEq, Repr

/-! ### Current regulators (R50, R70) -/

structure Regulator where
  /-- Feedback seen since hardware reset. -/
  seen      : Bool
  lastSeq   : Seq
  idMeas    : Int
  iqMeas    : Int
  speed     : Int
  dcLink    : Int
  temp      : Int
  modState  : ModState
  faultCode : Word
  therm     : Int
  /-- The d-axis integrator, in pu × 4096. -/
  intD      : Int
  /-- The q-axis integrator, in pu × 4096. -/
  intQ      : Int
  /-- The gain band of the last PI computation. -/
  band      : Fin 8
  vdLast    : Int
  vqLast    : Int
  /-- The feedback-miss count. -/
  missCount : Nat
  /-- FB_TIMEOUT. -/
  fbTimer   : Timer
  overtemp  : Bool
  modFault  : Bool
  fbLost    : Bool
  deriving DecidableEq, Repr

/-! ### Vibration watch (R71, R86) -/

structure Channel where
  state        : ChannelState
  phase        : Phase
  /-- Sum of the squares of the samples gathered in the present window. -/
  acc          : Nat
  frames       : Nat
  overrange    : Bool
  persist      : Nat
  lastLevel    : Nat
  silenceTimer : Timer
  /-- The VIB_DANGER condition. -/
  danger       : Bool
  deriving DecidableEq, Repr

structure VibWatch where
  channels : Vector Channel 6
  /-- The vibration derate last delivered. -/
  derate   : Int
  deriving DecidableEq, Repr

/-! ### Load profile unit (R88, R98) -/

structure LoadProfile where
  /-- The angle reference is present. -/
  refPresent : Bool
  lastAngle  : Word
  /-- POS_TIMEOUT. -/
  posTimer   : Timer
  acc        : Vector Nat 16
  cnt        : Vector Nat 16
  avg        : Vector Nat 16
  ecc        : Nat
  eccValid   : Bool
  ringAlert  : Bool
  deriving DecidableEq, Repr

/-! ### Trip controller (R100, R111) -/

/-- A cause is identified by its kind together with its source (R99). -/
structure CauseId where
  kind   : CauseKind
  source : Source
  deriving DecidableEq, Repr

/-- An entry of the cause list, every field taken at the delivery that made it (R100). -/
structure CauseEntry where
  id      : CauseId
  pace    : DWord
  value   : DWord
  supTime : DWord
  deriving DecidableEq, Repr

structure TripController where
  latch         : Bool
  list          : List CauseEntry
  overflowCount : Nat
  overflowSet   : List CauseId
  /-- The active-condition set, in the order R107 searches it. -/
  active        : List CauseId
  /-- The EXT_TRIP condition. -/
  extTrip       : Bool
  /-- The TRIP line is asserted. -/
  tripLine      : Bool
  deriving DecidableEq, Repr

/-! ### Trip recorder (R113, R125) -/

/-- One entry of the history ring (R114). -/
structure Snapshot where
  pace  : Word
  tCmd  : Int
  lFwd  : Int
  iqA   : Int
  iqB   : Int
  vqA   : Int
  vqB   : Int
  speed : Int
  deriving DecidableEq, Repr

/-- The trigger copy (R116, step 4). -/
structure TriggerCopy where
  pace     : DWord
  supTime  : DWord
  lFwd     : Int
  derate   : Int
  attempts : Nat
  dcA      : Int
  tempA    : Int
  dcB      : Int
  tempB    : Int
  deriving DecidableEq, Repr

/-- A trip record: header, causes, snapshots (R119). -/
structure TripRecord where
  tripNumber    : DWord
  trigger       : TriggerCopy
  preCount      : Nat
  postCount     : Nat
  reason        : PostReason
  /-- The valid flags of tables 1 to 5. -/
  valid         : Vector Bool 5
  /-- The versions of tables 1 to 5. -/
  versions      : Vector Word 5
  levels        : Vector Nat 6
  channelStates : Vector ChannelState 6
  ecc           : Nat
  eccValid      : Bool
  avg           : Vector Nat 16
  causes        : List CauseEntry
  overflowCount : Nat
  snapshots     : List Snapshot
  deriving DecidableEq, Repr

structure Recorder where
  state      : RecorderState
  /-- The history ring, oldest first. -/
  ring       : List Snapshot
  preCount   : Nat
  postCount  : Nat
  postTarget : Nat
  /-- POST_LIMIT. -/
  postTimer  : Timer
  trigger    : TriggerCopy
  ramRecord  : Option TripRecord
  deriving DecidableEq, Repr

/-! ### Trip store (R127 to R129) -/

/-- The content of one slot's 2160 words.  `words l` holds the words of `l` from offset 0 and FFFFh
beyond them, and `l` never ends in FFFFh, so that equal contents are equal data; `unknown t l` is a content
the manual does not state, whose words are `Config.freeNvWord t` (assumption 3), programmed over with the words of
`l` (R127). -/
inductive NvSlot where
  | words (l : List Word)
  | unknown (tag : Nat) (l : List Word)
  deriving DecidableEq, Repr

/-- One bank of the non-volatile memory: eight slots and the stamp area (R127). -/
structure NvBank where
  slots : Vector NvSlot 8
  /-- The bank stamp with its erase count; `none` is an absent stamp. -/
  stamp : Option Nat
  /-- The number marks written, at most sixteen, in the order they were written. -/
  marks : List DWord
  deriving DecidableEq, Repr

/-- What the index holds of a slot (R129). -/
structure SlotIndex where
  state  : SlotState
  number : Option DWord
  deriving DecidableEq, Repr

/-- What the index holds of a bank (R129). -/
structure BankIndex where
  state      : BankState
  eraseCount : Nat
  validCount : Nat
  slots      : Vector SlotIndex 8
  marks      : List DWord
  deriving DecidableEq, Repr

/-- The pending offer of the index (R129): a new record is the recorder's RAM record. -/
inductive Offer where
  | none
  | newRecord
  | retry (number : DWord)
  deriving DecidableEq, Repr

/-- The program in flight (R136): its slot, its trip number, and whether it is the retry. -/
structure Program where
  bank   : Fin 4
  slot   : Fin 8
  number : DWord
  retry  : Bool
  deriving DecidableEq, Repr

structure TripStore where
  /-- The four banks in non-volatile memory; kept across hardware reset. -/
  nv           : Vector NvBank 4
  /-- The model's own: the next tag of an unknown slot content (assumption 3). -/
  nextTag      : Nat
  banks        : Vector BankIndex 4
  current      : Fin 4
  queue        : List (Fin 4)
  /-- The erase-all flag. -/
  eraseAll     : Bool
  offer        : Offer
  program      : Option Program
  nextNumber   : DWord
  overwritten  : Nat
  missed       : Nat
  programFails : Nat
  eraseFails   : Nat
  /-- PROGRAM_FAIL. -/
  programFail  : Bool
  /-- ERASE_FAIL. -/
  eraseFail    : Bool
  activity     : Activity
  busy         : Option (Fin 4)
  deriving DecidableEq, Repr

/-! ### Event log (R150, R153) -/

structure EventRecord where
  kind   : EventKind
  source : Source
  flags  : Word
  pace   : DWord
  data1  : DWord
  data2  : DWord
  deriving DecidableEq, Repr

structure EventLog where
  /-- The counter of each kind, by the kind's number. -/
  counters    : Vector Nat 16
  /-- The event ring, oldest first. -/
  ring        : List EventRecord
  missed      : Nat
  /-- EVENT_MISSED. -/
  eventMissed : Bool
  /-- The ALERT condition as last judged. -/
  alertCond   : Bool
  pulseTimer  : Timer
  /-- The ALERT line is asserted. -/
  alertLine   : Bool
  deriving DecidableEq, Repr

/-! ### Table manager (R164): the tables' fields -/

/-- One gain band (R68).  Band 7's upper speed is kept as loaded. -/
structure GainBand where
  upper : Int
  kpD   : Int
  kpQ   : Int
  kiD   : Int
  kiQ   : Int
  vdLim : Int
  vqLim : Int
  idRef : Int
  deriving DecidableEq, Repr

structure GainTable where
  bands : Vector GainBand 8
  deriving DecidableEq, Repr

/-- One point of the LIMIT curve (R31, R47). -/
structure LimitPoint where
  speed : Int
  fwd   : Int
  rev   : Int
  deriving DecidableEq, Repr

structure LimitTable where
  points : List LimitPoint
  deriving DecidableEq, Repr

/-- A channel entry of the VIB table (R84). -/
structure ChannelConfig where
  enable      : Bool
  required    : Bool
  /-- W, frames in a window. -/
  window      : Nat
  /-- G, frames passed over between windows. -/
  gap         : Nat
  alert       : Nat
  danger      : Nat
  clear       : Nat
  persist     : Nat
  factor      : Int
  silenceTime : Nat
  deriving DecidableEq, Repr

/-- The VIB table: channel part (R84) and shell part (R97). -/
structure VibTable where
  channels   : Vector ChannelConfig 6
  ringAlert  : Nat
  ringClear  : Nat
  posTimeout : Nat
  deriving DecidableEq, Repr

/-- The EVENT table (R152). -/
structure EventTable where
  intervals     : Vector Nat 16
  ringMode      : RingMode
  fillThreshold : Nat
  alertMode     : AlertMode
  pulseWidth    : Nat
  deriving DecidableEq, Repr

/-- The DRIVE table, fields in image order (spec 12.4; R45, R69, R124, R129, R182). -/
structure DriveTable where
  motorSet    : MotorSet
  paceMotor   : Motor
  shareA      : Int
  kti         : Int
  iqMax       : Int
  brkLimit    : Int
  brkSpeed    : Nat
  brkTime     : Nat
  brkRest     : Nat
  brkRetries  : Nat
  stallSpeed  : Nat
  stallTime   : Nat
  otLevel     : Int
  otPersist   : Nat
  otEccMax    : Int
  spTimeout   : Nat
  spLossLimit : Nat
  stopSpeed   : Nat
  stopTime    : Nat
  smCap       : Int
  thermStart  : Int
  thermEnd    : Int
  fbTimeout   : Nat
  fbLossLimit : Nat
  preCount    : Nat
  postLimit   : Nat
  storeMode   : StoreMode
  reportPass  : Nat
  reportMask  : Nat
  deriving DecidableEq, Repr

/-- An accepted image with the version of its header (R164). -/
structure Active (α : Type) where
  version : Word
  table   : α
  deriving DecidableEq, Repr

/-- A FILLING staging buffer (R164).  Its content is a list of (position, byte) pairs with strictly
rising positions: a position listed is marked written, one not listed is unwritten and its byte is 0. -/
structure Staging where
  table   : TableId
  version : Word
  length  : Nat
  cells   : List Host.Cell
  deriving DecidableEq, Repr

structure TableManager where
  /-- The active GAIN image; `none` is a clear valid flag. -/
  gain     : Option (Active GainTable)
  limit    : Option (Active LimitTable)
  vib      : Option (Active VibTable)
  /-- The active EVENT image, valid from hardware reset (R152). -/
  event    : Active EventTable
  drive    : Option (Active DriveTable)
  /-- The lock bits of tables 1 to 5. -/
  locks    : Vector Bool 5
  /-- Staging buffer 0; `none` is FREE. -/
  buf0     : Option Staging
  /-- Staging buffer 1; `none` is FREE. -/
  buf1     : Option Staging
  /-- The level of the LOCK line. -/
  lockLine : Bool
  deriving DecidableEq, Repr

/-! ### Link interface and request handler (R177, R183, R188) -/

/-- A VCMD frame less its link header (spec 12.2). -/
structure Vcmd where
  seq   : Seq
  vd    : Int
  vq    : Int
  block : Bool
  deriving DecidableEq, Repr

/-- An ANSWER frame less its link header (R184). -/
structure Answer where
  code   : Byte
  tag    : Word
  answer : AnswerCode
  data   : List Byte
  deriving DecidableEq, Repr

/-- The five sticky flags (R186). -/
structure Sticky where
  requestOverrun : Bool
  linkErrSeen    : Bool
  eventMissed    : Bool
  programFail    : Bool
  eraseFail      : Bool
  deriving DecidableEq, Repr

/-- A REPORT frame less its link header (R182). -/
structure Report where
  drive       : DriveState
  trip        : Bool
  firstCause  : Option CauseId
  tCmd        : Int
  lFwd        : Int
  lRev        : Int
  iqA         : Int
  iqB         : Int
  speed       : Int
  channels    : Vector ChannelState 6
  ecc         : Nat
  eccValid    : Bool
  ringAlert   : Bool
  fill        : Nat
  activity    : Activity
  busy        : Option (Fin 4)
  sticky      : Sticky
  skipped     : Nat
  deriving DecidableEq, Repr

/-- The S transmitter: idle, or sending a frame under its outbound sequence (R177, R183). -/
inductive STransmitter where
  | idle
  | report (seq : Seq) (r : Report)
  | answer (seq : Seq) (a : Answer)
  deriving DecidableEq, Repr

/-- The transmitter of M0 or M1: the VCMD being sent under its outbound sequence, and those formed
behind it, oldest first (R177). -/
structure VcmdTransmitter where
  sending : Option (Seq × Vcmd)
  waiting : List Vcmd
  deriving DecidableEq, Repr

/-- Position in the report pattern (R182). -/
inductive ReportPhase where
  | pass | mask
  deriving DecidableEq, Repr

structure Link where
  /-- Receive references of channel 0 of S, M0 and M1. -/
  refS        : Option Seq
  refM0       : Option Seq
  refM1       : Option Seq
  /-- Receive references of the eight channels of H. -/
  refH        : Vector (Option Seq) 8
  /-- Error counts of S, M0, M1, H. -/
  errors      : Vector Nat 4
  /-- Gap counts of S, M0, M1, H. -/
  gaps        : Vector Nat 4
  /-- Outbound sequences: what the next frame on the port will carry. -/
  outS        : Seq
  outM0       : Seq
  outM1       : Seq
  paceCount   : DWord
  reportPhase : ReportPhase
  /-- The remaining count of the report phase. -/
  remaining   : Nat
  /-- The skipped-report count. -/
  skipped     : Nat
  sTx         : STransmitter
  m0Tx        : VcmdTransmitter
  m1Tx        : VcmdTransmitter
  /-- The pending-answer slot. -/
  slot        : Option Answer
  /-- REQUEST_OVERRUN. -/
  overrun     : Bool
  /-- LINK_ERR_SEEN. -/
  linkErrSeen : Bool
  deriving DecidableEq, Repr

/-- The whole part, and the queue of commands waiting to be taken, first in first out (assumption 1). -/
structure State where
  run      : RunController
  lim      : TorqueLimiter
  regA     : Regulator
  regB     : Regulator
  vib      : VibWatch
  load     : LoadProfile
  trip     : TripController
  recorder : Recorder
  store    : TripStore
  log      : EventLog
  tab      : TableManager
  link     : Link
  pending  : List Instr
  deriving DecidableEq, Repr

/-- Faults.  The manual describes no event that stops the part: every command has a next state, so no
constructor is needed (INVENTORY.md, "Faults"). -/
inductive Fault where
  deriving DecidableEq, Repr

/-- Refusals.  No meaning of this model refuses. -/
inductive Refusal where
  /-- Raised by `exec` alone, for a command whose meaning has not been written yet.  Safe: nothing can be
  proved of such a command. -/
  | notModelled (mnemonic : String)
  deriving DecidableEq, Repr

/-! ### Reset values -/

/-- R24. -/
def RunController.reset : RunController where
  state := .off
  runEdge := false
  attempts := 0
  brkTimer := .stopped
  restTimer := .stopped
  stopTimer := .stopped

/-- R48. -/
def TorqueLimiter.reset : TorqueLimiter where
  stack :=
    { baseFwd := 0, baseRev := 0, vibDerate := 4096, thermA := 4096, thermB := 4096, derate := 4096,
      tightest := .none, lFwd := 0, lRev := 0, limiting := false }
  tReq := 0
  tCmd := 0
  supTime := 0
  shareA := 0
  shareB := 0
  iqRefA := 0
  iqRefB := 0
  tMeas := 0
  otCount := 0
  stallTimer := .stopped
  missCount := 0
  spTimer := .stopped
  supLost := false

/-- R70. -/
def Regulator.reset : Regulator where
  seen := false
  lastSeq := 0
  idMeas := 0
  iqMeas := 0
  speed := 0
  dcLink := 0
  temp := 0
  modState := .notReady
  faultCode := 0
  therm := 4096
  intD := 0
  intQ := 0
  band := 0
  vdLast := 0
  vqLast := 0
  missCount := 0
  fbTimer := .stopped
  overtemp := false
  modFault := false
  fbLost := false

/-- R86, one channel. -/
def Channel.reset : Channel where
  state := .off
  phase := .gather
  acc := 0
  frames := 0
  overrange := false
  persist := 0
  lastLevel := 0
  silenceTimer := .stopped
  danger := false

/-- R86. -/
def VibWatch.reset : VibWatch where
  channels := Vector.replicate 6 Channel.reset
  derate := 4096

/-- R98. -/
def LoadProfile.reset : LoadProfile where
  refPresent := false
  lastAngle := 0
  posTimer := .stopped
  acc := Vector.replicate 16 0
  cnt := Vector.replicate 16 0
  avg := Vector.replicate 16 0
  ecc := 0
  eccValid := false
  ringAlert := false

/-- R111. -/
def TripController.reset : TripController where
  latch := false
  list := []
  overflowCount := 0
  overflowSet := []
  active := []
  extTrip := false
  tripLine := false

/-- The trigger copy after hardware reset, all values 0 (R125). -/
def TriggerCopy.reset : TriggerCopy where
  pace := 0
  supTime := 0
  lFwd := 0
  derate := 0
  attempts := 0
  dcA := 0
  tempA := 0
  dcB := 0
  tempB := 0

/-- R125. -/
def Recorder.reset : Recorder where
  state := .armed
  ring := []
  preCount := 0
  postCount := 0
  postTarget := 0
  postTimer := .stopped
  trigger := TriggerCopy.reset
  ramRecord := none

/-- An erased slot: every word reads FFFFh (R127). -/
def NvSlot.erased : NvSlot := .words []

/-- A bank of erased words with no stamp and no number mark: the model's content of the memory of a part
that has never run (assumption 4). -/
def NvBank.erased : NvBank where
  slots := Vector.replicate 8 NvSlot.erased
  stamp := none
  marks := []

/-- The index entry of a bank that has not been classified (assumption 6). -/
def BankIndex.unclassified : BankIndex where
  state := .needsErase
  eraseCount := 0
  validCount := 0
  slots := Vector.replicate 8 { state := .void, number := none }
  marks := []

/-- The store right after hardware reset over a given memory (R129, R143): the index empty and the
activity SCANNING.  That the current bank is 0 and the next trip number 0 until the scan ends is the model's
choice (assumption 33), as are the entries of the banks (assumption 6). -/
def TripStore.afterReset (nv : Vector NvBank 4) (nextTag : Nat) : TripStore where
  nv := nv
  nextTag := nextTag
  banks := Vector.replicate 4 BankIndex.unclassified
  current := 0
  queue := []
  eraseAll := false
  offer := .none
  program := none
  nextNumber := 0
  overwritten := 0
  missed := 0
  programFails := 0
  eraseFails := 0
  programFail := false
  eraseFail := false
  activity := .scanning
  busy := none

/-- R162. -/
def EventLog.reset : EventLog where
  counters := Vector.replicate 16 0
  ring := []
  missed := 0
  eventMissed := false
  alertCond := false
  pulseTimer := .stopped
  alertLine := false

/-- The EVENT table's defaults (R152): interval 63 for TLIM and VCLIP, 0 for the others. -/
def EventTable.default : EventTable where
  intervals := #v[0, 63, 63, 0, 0, 0, 0, 0, 0, 0, 0, 0, 0, 0, 0, 0]
  ringMode := .wrap
  fillThreshold := 96
  alertMode := .level
  pulseWidth := 100

/-- R176, with the LOCK line at a given level (assumption 5). -/
def TableManager.afterReset (lockLine : Bool) : TableManager where
  gain := none
  limit := none
  vib := none
  event := { version := 0, table := EventTable.default }
  drive := none
  locks := Vector.replicate 5 false
  buf0 := none
  buf1 := none
  lockLine := lockLine

/-- R188.  That the transmitters of M0 and M1 are empty, their VCMD frames discarded, is the model's choice
(assumption 38): the rule's table names the S transmitter and the slot alone. -/
def Link.reset : Link where
  refS := none
  refM0 := none
  refM1 := none
  refH := Vector.replicate 8 none
  errors := Vector.replicate 4 0
  gaps := Vector.replicate 4 0
  outS := 0
  outM0 := 0
  outM1 := 0
  paceCount := 0
  reportPhase := .pass
  remaining := 0
  skipped := 0
  sTx := .idle
  m0Tx := { sending := none, waiting := [] }
  m1Tx := { sending := none, waiting := [] }
  slot := none
  overrun := false
  linkErrSeen := false

/-- Every block at its reset values (R24, R48, R70, R86, R98, R111, R125, R129, R162, R176, R188), over
what a hardware reset does not touch: the memory of the store, the level of the LOCK line and the
commands that wait. -/
def State.afterReset (nv : Vector NvBank 4) (nextTag : Nat) (lockLine : Bool) (pending : List Instr) :
    State where
  run := RunController.reset
  lim := TorqueLimiter.reset
  regA := Regulator.reset
  regB := Regulator.reset
  vib := VibWatch.reset
  load := LoadProfile.reset
  trip := TripController.reset
  recorder := Recorder.reset
  store := TripStore.afterReset nv nextTag
  log := EventLog.reset
  tab := TableManager.afterReset lockLine
  link := Link.reset
  pending := pending

/-- The part right after its first hardware reset: a store memory of erased words without stamps
(assumption 4), the LOCK line released (assumption 5), no command waiting. -/
def State.reset : State := State.afterReset (Vector.replicate 4 NvBank.erased) 0 false []

end Sys2Proof.Machine
end

