-- ==== Sys2Proof/Machine/Arith.lean ====
section
/-! DEFINITION. The arithmetic of the rules, over plain numbers: every division truncates toward zero and
every product is formed in full width (R1). -/

namespace Sys2Proof.Machine

/-- "Clamp to [a, b]" (R1). -/
def clamp (lo hi x : Int) : Int :=
  if x < lo then lo else if hi < x then hi else x

/-- A count that rises by `by_` and stays at 65535 once reached. -/
def riseBy (n by_ : Nat) : Nat := min (n + by_) 65535

/-- The magnitude of a pu value; −32768 has magnitude 32768 (R30, R59). -/
def mag (x : Int) : Nat := x.natAbs

/-- The two's-complement data word of an event or a cause. -/
def data32 (x : Int) : DWord := BitVec.ofInt 32 x

/-- The unsigned data word of a count. -/
def count32 (n : Nat) : DWord := BitVec.ofNat 32 n

/-! ### The limit curve (R31) -/

/-- Interpolation along a segment at speed magnitude `m`. -/
def interpolate (s0 s1 v0 v1 m : Int) : Int :=
  v0 + ((v1 - v0) * (m - s0)).tdiv (s1 - s0)

/-- The forward and reverse base limits of a curve at a speed magnitude: the last point or beyond, or the
segment that holds the magnitude.  An empty list, which no accepted table holds (R47), gives 0. -/
def curveAt : List LimitPoint → Int → Int × Int
  | [], _ => (0, 0)
  | [p], _ => (p.fwd, p.rev)
  | p :: q :: rest, m =>
    if m < q.speed then
      (interpolate p.speed q.speed p.fwd q.fwd m, interpolate p.speed q.speed p.rev q.rev m)
    else curveAt (q :: rest) m

/-! ### Derate and limits (R32, R33) -/

/-- The delivered derates that count, in the order VIB, THERM_A, THERM_B (R32). -/
def countingDerates (set : MotorSet) (vib thermA thermB : Int) : List (Tightest × Int) :=
  match set with
  | .ab => [(.vib, vib), (.thermA, thermA), (.thermB, thermB)]
  | .a => [(.vib, vib), (.thermA, thermA)]
  | .b => [(.vib, vib), (.thermB, thermB)]

/-- The least of the derates that count (R32). -/
def leastDerate (set : MotorSet) (vib thermA thermB : Int) : Int :=
  match set with
  | .ab => min vib (min thermA thermB)
  | .a => min vib thermA
  | .b => min vib thermB

/-- The field that supplied the least derate: NONE at 4096, else the first that holds it (R32). -/
def tightestOf (derate : Int) (counting : List (Tightest × Int)) : Tightest :=
  if derate = 4096 then .none
  else ((counting.find? fun d => d.2 = derate).map Prod.fst).getD .none

/-- A limit in force: the base limit times the derate, capped where a cap applies (R33). -/
def limitInForce (base derate : Int) (cap : Option Int) : Int :=
  let l := (base * derate).tdiv 4096
  match cap with
  | some c => if c < l then c else l
  | none => l

/-! ### Shares and references (R36, R37) -/

/-- The shares of a command (R36). -/
def sharesOf (set : MotorSet) (shareA tCmd : Int) : Int × Int :=
  match set with
  | .ab => ((tCmd * shareA).tdiv 4096, tCmd - (tCmd * shareA).tdiv 4096)
  | .a => (tCmd, 0)
  | .b => (0, tCmd)

/-- The q-axis current reference of a share (R37). -/
def iqRefOf (share kti iqMax : Int) : Int := clamp (-iqMax) iqMax ((share * kti).tdiv 4096)

/-- The torque of one motor formed from its measured q-axis current (R38). -/
def motorTorque (iqMeas kti : Int) : Int := (iqMeas * 4096).tdiv kti

/-- The overtorque allowance (R39). -/
def allowance (otLevel otEccMax : Int) (ecc : Nat) (eccValid : Bool) : Int :=
  if eccValid then otLevel + min (ecc : Int) otEccMax else otLevel

/-! ### Thermal derate (R53) -/

def thermalDerate (t start stop : Int) : Int :=
  if t ≤ start then 4096
  else if t < stop then (4096 * (stop - t)).tdiv (stop - start)
  else 0

/-! ### The PI law (R61 to R63) -/

/-- What one axis of the PI law gives. -/
structure AxisResult where
  /-- The output voltage. -/
  v    : Int
  /-- The output before its clamp. -/
  raw  : Int
  /-- The integrator afterwards. -/
  int  : Int
  deriving DecidableEq, Repr

/-- One axis of the PI law: reference, measurement, integrator, gains and limit. -/
def piAxis (ref meas int kp ki lim : Int) : AxisResult :=
  let e := clamp (-32767) 32767 (ref - meas)
  let p := (kp * e).tdiv 4096
  let int1 := clamp (-(lim * 4096)) (lim * 4096) int
  let int2 := clamp (-(lim * 4096)) (lim * 4096) (int1 + ki * e)
  let raw := p + int2.tdiv 4096
  { v := clamp (-lim) lim raw
    raw := raw
    int := if (lim < raw ∧ 0 < e) ∨ (raw < -lim ∧ e < 0) then int1 else int2 }

/-- The band of a speed magnitude: the first of bands 0 to 6 whose upper speed exceeds it, else 7 (R59). -/
def bandOf (g : GainTable) (m : Nat) : Fin 8 :=
  (([0, 1, 2, 3, 4, 5, 6] : List (Fin 8)).find? fun b => (m : Int) < g.bands[b].upper).getD 7

/-! ### Vibration levels (R74, R75) -/

/-- One bit of the integer square root: `r` with the bit of weight 2^`k` added where the square allows. -/
def sqrtBits (n : Nat) : Nat → Nat → Nat
  | 0, r => r
  | k + 1, r => sqrtBits n k (if (r + 2 ^ k) * (r + 2 ^ k) ≤ n then r + 2 ^ k else r)

/-- The integer square root of a mean square (R75, step 2); exact for every number below 2^32, and a mean
square is at most 2^30. -/
def isqrt (n : Nat) : Nat := sqrtBits n 16 0

/-- The sum of the squares of a frame's eight samples (R74). -/
def sumSquares (samples : Vector Word 8) : Nat :=
  samples.toList.foldl (fun a w => a + w.toInt.natAbs * w.toInt.natAbs) 0

/-- Some sample of a frame is at full scale (R74). -/
def hasFullScale (samples : Vector Word 8) : Bool :=
  samples.toList.any fun w => w.toInt == -32768 || w.toInt == 32767

/-- The level of a window before the overrange lift (R75, steps 1 and 2). -/
def windowLevel (acc window : Nat) : Nat := isqrt (acc / (8 * window))

/-- The overrange lift (R75, step 3). -/
def liftLevel (overrange : Bool) (alert level : Nat) : Nat :=
  if overrange ∧ level < alert then alert else level

end Sys2Proof.Machine
end

