-- ==== Sys2Proof/Machine/Memory.lean ====
section
/-! DEFINITION. The part's two addressed stores: the positions of a staging buffer (R164, R166, R167) and
the words of a store slot (R127), each with its canonical form. -/

namespace Sys2Proof.Machine

/-! ### Staging buffers: positions and bytes -/

/-- The canonical form: strictly rising positions. -/
def Cells.wf : List Host.Cell → Bool
  | [] => true
  | [_] => true
  | c :: d :: rest => c.1 < d.1 && Cells.wf (d :: rest)

/-- The byte written at a position, none where the position is not marked written. -/
def Cells.read : List Host.Cell → Nat → Option Byte
  | [], _ => none
  | c :: rest, a => if c.1 = a then some c.2 else Cells.read rest a

/-- The content of a position: an unwritten one holds 0 (R166). -/
def Cells.byte (cells : List Host.Cell) (a : Nat) : Byte := (Cells.read cells a).getD 0

/-- The last write to a position holds (R167). -/
def Cells.write : List Host.Cell → Nat → Byte → List Host.Cell
  | [], a, b => [(a, b)]
  | c :: rest, a, b =>
    if a < c.1 then (a, b) :: c :: rest
    else if a = c.1 then (a, b) :: rest
    else c :: Cells.write rest a b

/-- A run of bytes stored at a position and the positions after it. -/
def Cells.writeAll : List Host.Cell → Nat → List Byte → List Host.Cell
  | cells, _, [] => cells
  | cells, a, b :: bs => Cells.writeAll (Cells.write cells a b) (a + 1) bs

/-- The count of bytes written: the number of positions marked (R164). -/
def Staging.written (b : Staging) : Nat := b.cells.length

/-- The highest position marked (R164); 0 where none is. -/
def Staging.highest (b : Staging) : Nat := (b.cells.getLast?.map Prod.fst).getD 0

/-- The lowest position below the declared length that is not marked written (R169, step 2). -/
def Staging.firstUnwritten (b : Staging) : Option Nat :=
  (List.range b.length).find? fun a => (Cells.read b.cells a).isNone

/-- The bytes of the image below the declared length. -/
def Staging.image (b : Staging) : List Byte := (List.range b.length).map (Cells.byte b.cells)

/-! ### Store slots: words -/

/-- An erased word (R127). -/
def erasedWord : Word := 0xFFFF#16

/-- The number of words of a slot (R127). -/
def slotWords : Nat := 2160

/-- The word at an offset of a slot. -/
def NvSlot.word (n : NvSlot) (o : Nat) : Word :=
  match n with
  | .words l => l.getD o erasedWord
  | .unknown tag l => Config.freeNvWord tag o &&& l.getD o erasedWord

/-- A list of words without the erased words at its end. -/
def dropErased : List Word → List Word
  | [] => []
  | w :: ws =>
    match dropErased ws with
    | [] => if w = erasedWord then [] else [w]
    | v :: vs => w :: v :: vs

/-- Words programmed over words: a bit that is 0 in either is 0, and beyond a list's end stands the erased word, which
changes nothing (R127). -/
def programOver : List Word → List Word → List Word
  | [], new => new
  | v :: old, [] => v :: old
  | v :: old, w :: new => (v &&& w) :: programOver old new

/-- A slot programmed with words from offset 0: bits turn from 1 to 0 alone (R127). -/
def NvSlot.program (n : NvSlot) (new : List Word) : NvSlot :=
  match n with
  | .words old => .words (dropErased (programOver old new))
  | .unknown tag old => .unknown tag (dropErased (programOver old new))

/-- The 2160 words of a slot that holds words from offset 0: the erased word beyond them. -/
def slotImage (l : List Word) : List Word := (l ++ List.replicate slotWords erasedWord).take slotWords

/-- The canonical form: no erased word at the end of the list, and no more words than a slot has. -/
def NvSlot.wf : NvSlot → Bool
  | .words l | .unknown _ l => l.getLast? != some erasedWord && l.length ≤ slotWords

/-- The first word of a slot that is not erased, from offset 0 (R147). -/
def NvSlot.firstProgrammed (n : NvSlot) : Option Nat :=
  match n with
  | .words l => l.findIdx? fun w => w != erasedWord
  | .unknown _ _ => (List.range slotWords).find? fun o => n.word o != erasedWord

end Sys2Proof.Machine
end

