-- ==== Sys2Proof/Machine/Operands.lean ====
section
/-! DEFINITION. The codes of the named values and the layouts of outbound frames, answers, event records
and trip records (spec 12; R189, R190). -/

namespace Sys2Proof.Machine

/-- A pu value, a torque or a temperature as a two's-complement word. -/
def word16 (x : Int) : Word := BitVec.ofInt 16 x

/-- A count as a word. -/
def count16 (n : Nat) : Word := BitVec.ofNat 16 n

/-- A count as a byte. -/
def count8 (n : Nat) : Byte := BitVec.ofNat 8 n

/-- The weight of one flag bit. -/
def bit (b : Bool) (k : Nat) : Nat := if b then 2 ^ k else 0

/-! ### Value codes (spec 12.2) -/

def DriveState.code : DriveState → Nat
  | .off => 0 | .ready => 1 | .breakaway => 2 | .resting => 3 | .run => 4 | .stopping => 5 | .tripped => 6

/-- The value that stands for a refused RUN in a DRIVE_STATE record (R9, R22). -/
def runRefusedCode : Nat := 15

def ChannelState.code : ChannelState → Nat
  | .off => 0 | .silent => 1 | .normal => 2 | .alert => 3 | .danger => 4

def CauseKind.code : CauseKind → Nat
  | .overtorque => 1 | .stall => 2 | .breakawayFail => 3 | .overtemp => 4 | .modFault => 5
  | .fbLost => 6 | .supLost => 7 | .vibDanger => 8 | .extTrip => 9

def motorCode : Motor → Nat
  | .A => 0 | .B => 1

def portCode : Port → Nat
  | .S => 0 | .M0 => 1 | .M1 => 2 | .H => 3

def TableId.code : TableId → Nat
  | .gain => 1 | .limit => 2 | .vib => 3 | .event => 4 | .drive => 5

def Source.code : Source → BitVec 4
  | .none => 15
  | .motor m => BitVec.ofNat 4 (motorCode m)
  | .channel c => BitVec.ofNat 4 c.val
  | .bank b => BitVec.ofNat 4 b.val
  | .port p => BitVec.ofNat 4 (portCode p)
  | .table t => BitVec.ofNat 4 t.code
  | .mark n => n

def EventKind.index : EventKind → Fin 16
  | .mark => 0 | .tlim => 1 | .vclip => 2 | .fbMiss => 3 | .linkErr => 4 | .spMiss => 5 | .vibState => 6
  | .ringState => 7 | .brkStart => 8 | .brkEnd => 9 | .driveState => 10 | .trip => 11 | .tripReset => 12
  | .table => 13 | .store => 14 | .overwrite => 15

def Activity.code : Activity → Nat
  | .idle => 0 | .scanning => 1 | .programming => 2 | .erasing => 3 | .blankChecking => 4

def BankState.code : BankState → Nat
  | .blank => 0 | .open => 1 | .full => 2 | .erasing => 3 | .eraseSuspended => 4 | .needsErase => 5
  | .retired => 6

def RecorderState.code : RecorderState → Nat
  | .armed => 0 | .post => 1 | .frozen => 2 | .writing => 3 | .done => 4

def AnswerCode.code : AnswerCode → Nat
  | .ok => 0 | .adjusted => 1 | .accepted => 2 | .busy => 3 | .noBuffer => 4 | .inUse => 5
  | .badTable => 6 | .badLength => 7 | .locked => 8 | .running => 9 | .causeActive => 10
  | .recording => 11 | .bankBusy => 12 | .noRecord => 13 | .scanning => 14 | .notTripped => 15
  | .badRequest => 16

/-- The modulator state of a FEEDBACK frame; a value that names none is NOT_READY (R51). -/
def ModState.ofByte (b : Byte) : ModState :=
  match b.toNat with
  | 1 => .ready
  | 2 => .running
  | 3 => .fault
  | _ => .notReady

/-- The table a number names (R164). -/
def TableId.ofByte (b : Byte) : Option TableId :=
  match b.toNat with
  | 1 => some .gain
  | 2 => some .limit
  | 3 => some .vib
  | 4 => some .event
  | 5 => some .drive
  | _ => none

/-- Tables 1 to 5 as places 0 to 4 of the lock bits and of a trip record's flags and versions. -/
def TableId.index : TableId → Fin 5
  | .gain => 0 | .limit => 1 | .vib => 2 | .event => 3 | .drive => 4

/-- Port S, M0, M1, H as places 0 to 3 of the error and gap counts. -/
def portIndex : Port → Fin 4
  | .S => 0 | .M0 => 1 | .M1 => 2 | .H => 3

/-- The port of a motor's modulator (spec 00, "Names"). -/
def portOf : Motor → Port
  | .A => .M0
  | .B => .M1

/-! ### Reasons carried in event flags (spec 12.2 "Event codes") -/

/-- The reasons of a DRIVE_STATE event (R22). -/
inductive DriveReason where
  | conditions | runTaken | runRefused | speedReached | attemptTimeout | restEnd | stopTaken | runInStop
  | stopSpeed | stopTimer | trip | tripReset | restart
  deriving DecidableEq, Repr

def DriveReason.code : DriveReason → Nat
  | .conditions => 0 | .runTaken => 1 | .runRefused => 2 | .speedReached => 3 | .attemptTimeout => 4
  | .restEnd => 5 | .stopTaken => 6 | .runInStop => 7 | .stopSpeed => 8 | .stopTimer => 9 | .trip => 10
  | .tripReset => 11 | .restart => 12

/-- Where a breakaway attempt began (R11, R23). -/
inductive AttemptOrigin where
  | fromReady | fromStopping | afterRest
  deriving DecidableEq, Repr

def AttemptOrigin.code : AttemptOrigin → Nat
  | .fromReady => 0 | .fromStopping => 1 | .afterRest => 2

/-- How a breakaway ended (R15, R23). -/
inductive BreakawayEnd where
  | success | fail | abandoned
  deriving DecidableEq, Repr

def BreakawayEnd.code : BreakawayEnd → Nat
  | .success => 0 | .fail => 1 | .abandoned => 2

/-- Why a channel changed state (R80). -/
inductive VibReason where
  | window | silence | restart | commit
  deriving DecidableEq, Repr

def VibReason.code : VibReason → Nat
  | .window => 0 | .silence => 1 | .restart => 2 | .commit => 3

/-- Why the ring alert changed (R95). -/
inductive RingReason where
  | revolution | timeout | commit
  deriving DecidableEq, Repr

def RingReason.code : RingReason → Nat
  | .revolution => 0 | .timeout => 1 | .commit => 2

/-- What a STORE event reports (R149). -/
inductive StoreFlag where
  | scanDone | written | programFail | missed | erased | eraseFail | blankCheck
  deriving DecidableEq, Repr

def StoreFlag.code : StoreFlag → Nat
  | .scanDone => 0 | .written => 1 | .programFail => 2 | .missed => 3 | .erased => 4 | .eraseFail => 5
  | .blankCheck => 6

def linkReasonCode : LinkReason → Nat
  | .crc => 0 | .length => 1 | .kind => 2 | .channel => 3 | .gap => 4

def Tightest.code : Tightest → Nat
  | .none => 0 | .vib => 1 | .thermA => 2 | .thermB => 3

/-- The flags of a TLIM event: the direction in bit 0, tightest in bits 5 and 4 (R35). -/
def tlimFlags (rev : Bool) (t : Tightest) : Word := count16 (bit rev 0 + t.code * 16)

/-- The flags of a LINK_ERR event: the reason in bits 7 to 4, the channel in bits 3 to 0 (R180). -/
def linkErrFlags (r : LinkReason) (channel : BitVec 4) : Word :=
  count16 (linkReasonCode r * 16 + channel.toNat)

/-- The data1 of a VIB_STATE event: old state high, new state low (spec 12.2). -/
def vibStateData (old new : ChannelState) : DWord := count32 (old.code * 65536 + new.code)

/-- A bank and slot, or a slot and word, as one data word (spec 12.2). -/
def pairData (hi lo : Nat) : DWord := count32 (hi * 65536 + lo)

/-- The data2 of a BLANK_CHECK event for a blank bank (spec 12.2). -/
def blankData : DWord := 0xFFFFFFFF#32

/-! ### Outbound frames (spec 12.2) -/

def boolByte (b : Bool) : Byte := if b then 1 else 0

/-- A busy bank in four bits, 15 for none. -/
def busyCode (b : Option (Fin 4)) : Nat := (b.map Fin.val).getD 15

/-- Activity in bits 7 to 4, busy bank in bits 3 to 0 (REPORT byte 22, STORE_STATUS byte 0). -/
def activityByte (a : Activity) (busy : Option (Fin 4)) : Byte := count8 (a.code * 16 + busyCode busy)

/-- The five sticky flags in the bits of REPORT byte 23. -/
def Sticky.byte (f : Sticky) : Byte :=
  count8 (bit f.requestOverrun 0 + bit f.linkErrSeen 1 + bit f.eventMissed 2 + bit f.programFail 3
    + bit f.eraseFail 4)

/-- The 26 payload bytes of a REPORT frame. -/
def Report.payload (r : Report) : List Byte :=
  [count8 r.drive.code,
   count8 (bit r.trip 0 + bit r.eccValid 1 + bit r.ringAlert 2),
   count8 ((r.firstCause.map fun c => c.kind.code).getD 0),
   (((r.firstCause.map CauseId.source).getD .none).code).setWidth 8]
  ++ bytes16 (word16 r.tCmd) ++ bytes16 (word16 r.lFwd) ++ bytes16 (word16 r.lRev)
  ++ bytes16 (word16 r.iqA) ++ bytes16 (word16 r.iqB) ++ bytes16 (word16 r.speed)
  ++ [count8 (r.channels[0].code * 16 + r.channels[1].code),
      count8 (r.channels[2].code * 16 + r.channels[3].code),
      count8 (r.channels[4].code * 16 + r.channels[5].code),
      count8 r.fill]
  ++ bytes16 (count16 (min r.ecc 65535))
  ++ [activityByte r.activity r.busy, r.sticky.byte]
  ++ bytes16 (count16 r.skipped)

/-- The payload bytes of an ANSWER frame. -/
def Answer.payload (a : Answer) : List Byte :=
  a.code :: bytes16 a.tag ++ count8 a.answer.code :: a.data

/-- The seven payload bytes of a VCMD frame. -/
def Vcmd.payload (v : Vcmd) : List Byte :=
  bytes16 (v.seq.setWidth 16) ++ bytes16 (word16 v.vd) ++ bytes16 (word16 v.vq) ++ [boolByte v.block]

/-- The bytes on the wire of what the S transmitter sends, in the frame of spec 12.1.  Channel 0 is the
model's choice (assumption 37): no rule gives the channel of an outbound frame. -/
def STransmitter.wire : STransmitter → List Byte
  | .idle => []
  | .report seq r => buildFrame 3 0 seq r.payload
  | .answer seq a => buildFrame 4 0 seq a.payload

/-- The bytes on the wire of what an M port's transmitter sends, in the frame of spec 12.1.  Channel 0 is the
model's choice (assumption 37). -/
def VcmdTransmitter.wire (t : VcmdTransmitter) : List Byte :=
  match t.sending with
  | none => []
  | some (seq, v) => buildFrame 6 0 seq v.payload

/-- An event record in the 12 bytes of an EVENT_READ answer (R190). -/
def EventRecord.compact (e : EventRecord) : List Byte :=
  [count8 (e.kind.index.val * 16 + e.source.code.toNat), loByte e.flags]
  ++ bytes16 (e.pace.extractLsb' 0 16) ++ bytes32 e.data1 ++ bytes32 e.data2

/-! ### The trip record in words (spec 12.5) -/

/-- A 32-bit value as two words, high word first. -/
def words32 (d : DWord) : List Word := [d.extractLsb' 16 16, d.extractLsb' 0 16]

/-- The header marker (word 0). -/
def headerMarker : Word := 0xA5C3#16

/-- The completion marker (word 47). -/
def completionMarker : Word := 0x5A3C#16

/-- The offset of the completion marker. -/
def completionOffset : Nat := 47

/-- A used cause slot. -/
def CauseEntry.words (c : CauseEntry) : List Word :=
  count16 (c.id.kind.code * 256 + c.id.source.code.toNat) :: words32 c.pace ++ words32 c.value
  ++ words32 c.supTime ++ [0]

/-- A snapshot. -/
def Snapshot.words (s : Snapshot) : List Word :=
  [s.pace, word16 s.tCmd, word16 s.lFwd, word16 s.iqA, word16 s.iqB, word16 s.vqA, word16 s.vqB,
   word16 s.speed]

/-- The 48 header words. -/
def TripRecord.headerWords (r : TripRecord) : List Word :=
  [headerMarker] ++ words32 r.tripNumber ++ words32 r.trigger.pace ++ words32 r.trigger.supTime
  ++ [word16 r.trigger.lFwd, word16 r.trigger.derate, count16 r.trigger.attempts,
      word16 r.trigger.dcA, word16 r.trigger.tempA, word16 r.trigger.dcB, word16 r.trigger.tempB,
      count8 r.preCount ++ count8 r.postCount,
      count8 r.causes.length ++ count8 r.overflowCount,
      count16 (bit r.valid[0] 0 + bit r.valid[1] 1 + bit r.valid[2] 2 + bit r.valid[3] 3 + bit r.valid[4] 4
        + bit r.eccValid 8 + bit (r.reason == .limit) 12)]
  ++ r.versions.toList
  ++ r.levels.toList.map count16
  ++ [count16 (r.channelStates[0].code * 4096 + r.channelStates[1].code * 256
        + r.channelStates[2].code * 16 + r.channelStates[3].code),
      count16 (r.channelStates[4].code * 4096 + r.channelStates[5].code * 256),
      count16 r.ecc]
  ++ r.avg.toList.map count16
  ++ [completionMarker]

/-- The 64 words of the cause slots; an unused one holds FFFFh. -/
def TripRecord.causeWords (r : TripRecord) : List Word :=
  ((r.causes.take 8).map CauseEntry.words).flatten
  ++ List.replicate (8 * (8 - (r.causes.take 8).length)) erasedWord

/-- All words of a record. -/
def TripRecord.words (r : TripRecord) : List Word :=
  r.headerWords ++ r.causeWords ++ (r.snapshots.map Snapshot.words).flatten

/-- The word at an offset of a record held in RAM (R122). -/
def TripRecord.word (r : TripRecord) (o : Nat) : Word := r.words.getD o erasedWord

/-- The eight offsets a TRIP_READ answers: from the offset to the end of its aligned group of `l` words,
then from the group's start (R144). -/
def burstOffsets (offset l : Nat) : List Nat :=
  (List.range 8).map fun i => offset - offset % l + (offset % l + i) % l

/-- The words placed in a slot at the acceptance of a record (R136, step 3). -/
def headerPlaced (number : DWord) : List Word := headerMarker :: words32 number

end Sys2Proof.Machine
end

