-- ==== Sys2Proof/Machine/Images.lean ====
section
/-! DEFINITION. Table images: the bytes of a field, the ranges and defaults of every field, the hard
errors, and the fields of each table (spec 12.4; R45, R47, R68, R69, R84, R97, R124, R129, R152, R165,
R170, R182). -/

namespace Sys2Proof.Machine

/-! ### Fields and bytes -/

/-- The form of a field: two bytes signed, two bytes unsigned (a range that reaches above 32767), or the
four bytes of STOP_TIME (spec 12.4). -/
inductive FieldForm where
  | s16 | u16 | u32
  deriving DecidableEq, Repr

/-- What a commit does with a field's value: clamp it to a range, replace a value that names no option
0 to n − 1 by a default, or keep it. -/
inductive FieldRule where
  | clamp (lo hi : Int)
  | option (n default : Int)
  | keep
  deriving DecidableEq, Repr

/-- A field of an image: its form and its rule. -/
structure Field where
  form : FieldForm
  rule : FieldRule
  deriving DecidableEq, Repr

def FieldRule.apply (r : FieldRule) (x : Int) : Int :=
  match r with
  | .clamp lo hi => Machine.clamp lo hi x
  | .option n d => if 0 ≤ x ∧ x < n then x else d
  | .keep => x

/-- The values of a run of fields. -/
def parseFields : List Field → List Byte → List Int
  | f :: fs, bs =>
    match f.form, bs with
    | .s16, h :: l :: rest => (be16 h l).toInt :: parseFields fs rest
    | .u16, h :: l :: rest => ((be16 h l).toNat : Int) :: parseFields fs rest
    | .u32, a :: b :: c :: d :: rest => ((be32 a b c d).toNat : Int) :: parseFields fs rest
    | _, _ => []
  | [], _ => []

/-- The bytes of a run of fields. -/
def encodeFields : List Field → List Int → List Byte
  | f :: fs, x :: xs =>
    (match f.form with
      | .s16 => bytes16 (BitVec.ofInt 16 x)
      | .u16 => bytes16 (BitVec.ofInt 16 x)
      | .u32 => bytes32 (BitVec.ofInt 32 x)) ++ encodeFields fs xs
  | _, _ => []

/-! ### The fields of each table -/

def s16 (lo hi : Int) : Field := { form := .s16, rule := .clamp lo hi }

def u16 (lo hi : Int) : Field := { form := .u16, rule := .clamp lo hi }

def opt (n default : Int) : Field := { form := .s16, rule := .option n default }

/-- A field that is checked by a hard error, or not used, and never changed. -/
def kept : Field := { form := .s16, rule := .keep }

/-- One gain band (R68): the upper speed is not clamped. -/
def gainBandFields : List Field :=
  [kept, s16 0 32767, s16 0 32767, s16 0 8191, s16 0 8191, s16 256 8191, s16 256 8191, s16 0 8191]

def gainFields : List Field := (List.replicate 8 gainBandFields).flatten

/-- The point count and n points (R47): the count and the speeds are not clamped. -/
def limitFields (n : Nat) : List Field :=
  kept :: (List.replicate n [kept, s16 0 16384, s16 0 16384]).flatten

/-- One channel entry (R84). -/
def channelFields : List Field :=
  [opt 2 0, opt 2 0, s16 16 1024, s16 0 1024, u16 0 32768, u16 0 32768, u16 0 32768, s16 1 8, s16 0 4096,
   s16 5 5000]

/-- Six channel entries and the shell part (R84, R97). -/
def vibFields : List Field :=
  (List.replicate 6 channelFields).flatten ++ [s16 0 16384, s16 0 16384, u16 100 60000]

/-- Sixteen intervals, ring mode, fill threshold, alert mode, pulse width (R152): TLIM and VCLIP are raised
to 63, and the six kinds from DRIVE_STATE to OVERWRITE are forced to 0. -/
def eventFields : List Field :=
  [u16 0 65535, u16 63 65535, u16 63 65535] ++ List.replicate 7 (u16 0 65535) ++ List.replicate 6 (u16 0 0)
  ++ [opt 2 0, s16 1 128, opt 2 0, s16 1 1000]

/-- The 29 DRIVE fields (R45, R69, R124, R129, R182) in image order (spec 12.4). -/
def driveFields : List Field :=
  [opt 3 0, opt 2 0, s16 0 4096, s16 1024 16384, s16 1024 24576, s16 4096 12288, s16 16 1024,
   s16 500 20000, u16 1000 60000, s16 1 5, s16 8 512, s16 200 10000, s16 4096 16384, s16 1 16, s16 0 4096,
   s16 1 1000, s16 1 255, s16 8 1024, { form := .u32, rule := .clamp 1000 600000 }, s16 1024 16384,
   s16 20 140, s16 30 150, s16 100 5000, s16 1 64, s16 32 224, s16 100 10000, opt 2 0, s16 0 255, s16 0 255]

/-- The number of points a LIMIT image of a declared length holds (R165). -/
def limitPoints (len : Nat) : Nat := (len - 8) / 6

/-- The fields of an image of a table at a declared length. -/
def fieldsOf (t : TableId) (len : Nat) : List Field :=
  match t with
  | .gain => gainFields
  | .limit => limitFields (limitPoints len)
  | .vib => vibFields
  | .event => eventFields
  | .drive => driveFields

/-- The declared lengths allowed for a table (R165). -/
def lengthOk (t : TableId) (len : Nat) : Bool :=
  match t with
  | .gain => len == 134
  | .limit => 20 ≤ len && len ≤ 104 && (len - 8) % 6 == 0
  | .vib => len == 132
  | .event => len == 46
  | .drive => len == 66

/-! ### Validation (R170) -/

/-- The value of field `k`. -/
def fieldAt (xs : List Int) (k : Nat) : Int := xs.getD k 0

/-- The fields after clamping and replacing, each on its own. -/
def clampFields (fs : List Field) (xs : List Int) : List Int :=
  List.zipWith (fun f x => f.rule.apply x) fs xs

/-- The pace motor forced to the single motor of the set (R45), and REPORT_PASS raised to 1 where a
nonzero REPORT_MASK stands beside 0 (R182). -/
def forceDrive (xs : List Int) : List Int :=
  let xs := if fieldAt xs 0 = 1 then xs.set 1 0 else if fieldAt xs 0 = 2 then xs.set 1 1 else xs
  if fieldAt xs 27 = 0 ∧ 0 < fieldAt xs 28 then xs.set 27 1 else xs

/-- The accepted values of an image without a hard error. -/
def acceptedFields (t : TableId) (len : Nat) (xs : List Int) : List Int :=
  let ys := clampFields (fieldsOf t len) xs
  match t with
  | .drive => forceDrive ys
  | _ => ys

/-- The upper speed of a GAIN band is a hard error (R68). -/
def gainOffends (xs : List Int) (b : Nat) : Bool :=
  let u := fieldAt xs (8 * b)
  u < 1 || 32767 < u || (1 ≤ b && u ≤ fieldAt xs (8 * (b - 1)))

/-- The speed of a LIMIT point is a hard error (R47). -/
def limitOffends (xs : List Int) (i : Nat) : Bool :=
  let s := fieldAt xs (1 + 3 * i)
  s < 0 || 8191 < s || (i == 0 && s != 0) || (1 ≤ i && s ≤ fieldAt xs (1 + 3 * (i - 1)))

/-- The field of a VIB channel entry that is a hard error after clamping: ALERT above DANGER, else CLEAR
above ALERT (R84). -/
def channelOffends (ys : List Int) (c : Nat) : Option Nat :=
  if fieldAt ys (10 * c + 5) < fieldAt ys (10 * c + 4) then some (10 * c + 4)
  else if fieldAt ys (10 * c + 4) < fieldAt ys (10 * c + 6) then some (10 * c + 6)
  else none

/-- The index of the first offending field, from the values as written (`xs`) and after clamping (`ys`). -/
def hardError (t : TableId) (len : Nat) (xs ys : List Int) : Option Nat :=
  match t with
  | .gain => ((List.range 7).find? (gainOffends xs)).map (8 * ·)
  | .limit =>
    let n := fieldAt xs 0
    if n < 2 ∨ 16 < n ∨ 8 + 6 * n ≠ len then some 0
    else ((List.range (limitPoints len)).find? (limitOffends xs)).map fun i => 1 + 3 * i
  | .vib =>
    match (List.range 6).findSome? (channelOffends ys) with
    | some k => some k
    | none => if fieldAt ys 60 < fieldAt ys 61 then some 61 else none
  | .event => none
  | .drive => if fieldAt ys 21 ≤ fieldAt ys 20 then some 20 else none

/-- What validation gives: a hard error with the field's index, or the accepted values with the number of
fields whose value changed. -/
inductive Validated where
  | bad (index : Nat)
  | good (fields : List Int) (adjusted : Nat)
  deriving DecidableEq, Repr

/-- The number of places at which two lists differ. -/
def countChanged : List Int → List Int → Nat
  | x :: xs, y :: ys => (if x = y then 0 else 1) + countChanged xs ys
  | _, _ => 0

def validate (t : TableId) (len : Nat) (image : List Byte) : Validated :=
  let xs := parseFields (fieldsOf t len) (image.drop 6)
  let ys := acceptedFields t len xs
  match hardError t len xs ys with
  | some k => .bad k
  | none => .good ys (countChanged xs ys)

/-! ### Tables and their fields -/

/-- The value of an unsigned or non-negative field. -/
def natAt (xs : List Int) (k : Nat) : Nat := (fieldAt xs k).toNat

def GainTable.ofFields (xs : List Int) : GainTable where
  bands := Vector.ofFn fun b : Fin 8 =>
    { upper := fieldAt xs (8 * b.val), kpD := fieldAt xs (8 * b.val + 1), kpQ := fieldAt xs (8 * b.val + 2),
      kiD := fieldAt xs (8 * b.val + 3), kiQ := fieldAt xs (8 * b.val + 4),
      vdLim := fieldAt xs (8 * b.val + 5), vqLim := fieldAt xs (8 * b.val + 6),
      idRef := fieldAt xs (8 * b.val + 7) }

def GainBand.toFields (g : GainBand) : List Int :=
  [g.upper, g.kpD, g.kpQ, g.kiD, g.kiQ, g.vdLim, g.vqLim, g.idRef]

def GainTable.toFields (g : GainTable) : List Int := (g.bands.toList.map GainBand.toFields).flatten

/-- The points of a run of fields. -/
def pointsOf : List Int → List LimitPoint
  | s :: f :: r :: rest => { speed := s, fwd := f, rev := r } :: pointsOf rest
  | _ => []

def LimitTable.ofFields (xs : List Int) : LimitTable where
  points := pointsOf xs.tail

def LimitPoint.toFields (p : LimitPoint) : List Int := [p.speed, p.fwd, p.rev]

def LimitTable.toFields (l : LimitTable) : List Int :=
  (l.points.length : Int) :: (l.points.map LimitPoint.toFields).flatten

def boolOf (x : Int) : Bool := x == 1

def ofBool (b : Bool) : Int := if b then 1 else 0

def ChannelConfig.ofFields (xs : List Int) (k : Nat) : ChannelConfig where
  enable := boolOf (fieldAt xs k)
  required := boolOf (fieldAt xs (k + 1))
  window := natAt xs (k + 2)
  gap := natAt xs (k + 3)
  alert := natAt xs (k + 4)
  danger := natAt xs (k + 5)
  clear := natAt xs (k + 6)
  persist := natAt xs (k + 7)
  factor := fieldAt xs (k + 8)
  silenceTime := natAt xs (k + 9)

def ChannelConfig.toFields (c : ChannelConfig) : List Int :=
  [ofBool c.enable, ofBool c.required, c.window, c.gap, c.alert, c.danger, c.clear, c.persist, c.factor,
   c.silenceTime]

def VibTable.ofFields (xs : List Int) : VibTable where
  channels := Vector.ofFn fun c : Fin 6 => ChannelConfig.ofFields xs (10 * c.val)
  ringAlert := natAt xs 60
  ringClear := natAt xs 61
  posTimeout := natAt xs 62

def VibTable.toFields (v : VibTable) : List Int :=
  (v.channels.toList.map ChannelConfig.toFields).flatten ++ [(v.ringAlert : Int), v.ringClear, v.posTimeout]

def EventTable.ofFields (xs : List Int) : EventTable where
  intervals := Vector.ofFn fun k : Fin 16 => natAt xs k.val
  ringMode := if fieldAt xs 16 = 1 then .hold else .wrap
  fillThreshold := natAt xs 17
  alertMode := if fieldAt xs 18 = 1 then .pulse else .level
  pulseWidth := natAt xs 19

def EventTable.toFields (e : EventTable) : List Int :=
  e.intervals.toList.map (fun (n : Nat) => (n : Int))
  ++ [(match e.ringMode with | .wrap => 0 | .hold => 1), (e.fillThreshold : Int),
      (match e.alertMode with | .level => 0 | .pulse => 1), (e.pulseWidth : Int)]

def DriveTable.ofFields (xs : List Int) : DriveTable where
  motorSet := if fieldAt xs 0 = 1 then .a else if fieldAt xs 0 = 2 then .b else .ab
  paceMotor := if fieldAt xs 1 = 1 then .B else .A
  shareA := fieldAt xs 2
  kti := fieldAt xs 3
  iqMax := fieldAt xs 4
  brkLimit := fieldAt xs 5
  brkSpeed := natAt xs 6
  brkTime := natAt xs 7
  brkRest := natAt xs 8
  brkRetries := natAt xs 9
  stallSpeed := natAt xs 10
  stallTime := natAt xs 11
  otLevel := fieldAt xs 12
  otPersist := natAt xs 13
  otEccMax := fieldAt xs 14
  spTimeout := natAt xs 15
  spLossLimit := natAt xs 16
  stopSpeed := natAt xs 17
  stopTime := natAt xs 18
  smCap := fieldAt xs 19
  thermStart := fieldAt xs 20
  thermEnd := fieldAt xs 21
  fbTimeout := natAt xs 22
  fbLossLimit := natAt xs 23
  preCount := natAt xs 24
  postLimit := natAt xs 25
  storeMode := if fieldAt xs 26 = 1 then .keep else .wrap
  reportPass := natAt xs 27
  reportMask := natAt xs 28

def DriveTable.toFields (d : DriveTable) : List Int :=
  [(match d.motorSet with | .ab => 0 | .a => 1 | .b => 2),
   (match d.paceMotor with | .A => 0 | .B => 1),
   d.shareA, d.kti, d.iqMax, d.brkLimit, d.brkSpeed, d.brkTime, d.brkRest, d.brkRetries, d.stallSpeed,
   d.stallTime, d.otLevel, d.otPersist, d.otEccMax, d.spTimeout, d.spLossLimit, d.stopSpeed, d.stopTime,
   d.smCap, d.thermStart, d.thermEnd, d.fbTimeout, d.fbLossLimit, d.preCount, d.postLimit,
   (match d.storeMode with | .wrap => 0 | .keep => 1), d.reportPass, d.reportMask]

/-! ### Images -/

/-- The six header bytes (spec 12.4). -/
def imageHeader (t : TableId) (version : Word) (len : Nat) : List Byte :=
  bytes16 (count16 t.code) ++ bytes16 version ++ bytes16 (count16 len)

/-- The bytes of an image. -/
def imageBytes (t : TableId) (version : Word) (len : Nat) (xs : List Int) : List Byte :=
  imageHeader t version len ++ encodeFields (fieldsOf t len) xs

/-- The bytes of a table's active image, none where its valid flag is clear (R164, R173). -/
def TableManager.image (m : TableManager) (t : TableId) : Option (List Byte) :=
  match t with
  | .gain => m.gain.map fun a => imageBytes .gain a.version 134 a.table.toFields
  | .limit => m.limit.map fun a =>
      imageBytes .limit a.version (8 + 6 * a.table.points.length) a.table.toFields
  | .vib => m.vib.map fun a => imageBytes .vib a.version 132 a.table.toFields
  | .event => some (imageBytes .event m.event.version 46 m.event.table.toFields)
  | .drive => m.drive.map fun a => imageBytes .drive a.version 66 a.table.toFields

/-- The accepted values become the table's active image, with the version of its header (R171, step 1). -/
def TableManager.activate (m : TableManager) (t : TableId) (version : Word) (xs : List Int) : TableManager :=
  match t with
  | .gain => { m with gain := some { version := version, table := GainTable.ofFields xs } }
  | .limit => { m with limit := some { version := version, table := LimitTable.ofFields xs } }
  | .vib => { m with vib := some { version := version, table := VibTable.ofFields xs } }
  | .event => { m with event := { version := version, table := EventTable.ofFields xs } }
  | .drive => { m with drive := some { version := version, table := DriveTable.ofFields xs } }

/-- The valid flags of tables 1 to 5 (R164). -/
def TableManager.validFlags (m : TableManager) : Vector Bool 5 :=
  #v[m.gain.isSome, m.limit.isSome, m.vib.isSome, true, m.drive.isSome]

/-- The versions of tables 1 to 5; 0 where no image is active (R164, R176). -/
def TableManager.versions (m : TableManager) : Vector Word 5 :=
  #v[(m.gain.map Active.version).getD 0, (m.limit.map Active.version).getD 0,
     (m.vib.map Active.version).getD 0, m.event.version, (m.drive.map Active.version).getD 0]

end Sys2Proof.Machine
end

