-- ==== Sys2Proof/Machine/Flags.lean ====
section
/-! DEFINITION. What the rules read of the state: the active tables, the motor set and the pace motor, the
READY conditions (R4), the inputs of the ALERT condition (R158), the sticky flags (R186), and the
active-condition set (R101). -/

namespace Sys2Proof.Machine

/-! ### The active tables -/

def activeGain (s : State) : Option GainTable := s.tab.gain.map Active.table

def activeLimit (s : State) : Option LimitTable := s.tab.limit.map Active.table

def activeVib (s : State) : Option VibTable := s.tab.vib.map Active.table

def activeDrive (s : State) : Option DriveTable := s.tab.drive.map Active.table

/-- The EVENT table is valid from hardware reset (R150, R152). -/
def eventTable (s : State) : EventTable := s.tab.event.table

/-- The fields a rule that runs only while the drive is energised reads where no DRIVE table is active,
which no run reaches (assumption 13). -/
def DriveTable.absent : DriveTable := DriveTable.ofFields []

/-- The same for the GAIN table (assumption 13). -/
def GainTable.absent : GainTable := GainTable.ofFields []

/-- The DRIVE fields for a rule that the manual gives only with a valid table. -/
def driveFieldsOf (s : State) : DriveTable := (activeDrive s).getD DriveTable.absent

/-! ### Motors -/

/-- A motor is in a motor set. -/
def MotorSet.has (set : MotorSet) (m : Motor) : Bool :=
  match set, m with
  | .ab, _ => true
  | .a, .A => true
  | .b, .B => true
  | _, _ => false

/-- The motor set, taken as AB without a DRIVE table (R32, R45). -/
def motorSet (s : State) : MotorSet := ((activeDrive s).map DriveTable.motorSet).getD .ab

/-- The pace motor, motor A without a DRIVE table (R45, R181). -/
def paceMotor (s : State) : Motor := ((activeDrive s).map DriveTable.paceMotor).getD .A

/-- The motor is in the motor set of a valid DRIVE table: what blocking (R57) and the causes of the
regulators (R56) ask. -/
def inDriveSet (s : State) (m : Motor) : Bool :=
  match activeDrive s with
  | some d => d.motorSet.has m
  | none => false

def State.reg (s : State) (m : Motor) : Regulator :=
  match m with
  | .A => s.regA
  | .B => s.regB

def State.setReg (s : State) (m : Motor) (r : Regulator) : State :=
  match m with
  | .A => { s with regA := r }
  | .B => { s with regB := r }

/-- The speed of the pace motor's most recent valid feedback, 0 before the first (R30). -/
def paceSpeed (s : State) : Int := (s.reg (paceMotor s)).speed

/-- The energised drive states (R2). -/
def DriveState.energised : DriveState → Bool
  | .breakaway | .resting | .run | .stopping => true
  | .off | .ready | .tripped => false

/-- The drive is energised. -/
def energised (s : State) : Bool := s.run.state.energised

/-! ### READY conditions (R4) -/

/-- The modulator and timeout conditions of one motor. -/
def Regulator.readyOk (r : Regulator) : Bool :=
  r.seen && (r.modState == .ready || r.modState == .running) && r.missCount == 0

def readyConditions (s : State) : Bool :=
  s.tab.gain.isSome && s.tab.limit.isSome && s.tab.drive.isSome
  && (!(motorSet s).has .A || s.regA.readyOk)
  && (!(motorSet s).has .B || s.regB.readyOk)
  && !s.trip.latch

/-! ### ALERT and sticky flags -/

/-- A channel in ALERT or DANGER counts toward the ALERT condition; a SILENT one does not (R158). -/
def ChannelState.alerts : ChannelState → Bool
  | .alert | .danger => true
  | .off | .silent | .normal => false

/-- The inputs of the ALERT condition besides the fill of the ring (R158). -/
def alertInputs (s : State) : Bool :=
  s.trip.latch || s.vib.channels.toList.any (fun c => c.state.alerts) || s.load.ringAlert

/-- The five sticky flags as they stand (R186). -/
def stickyFlags (s : State) : Sticky where
  requestOverrun := s.link.overrun
  linkErrSeen := s.link.linkErrSeen
  eventMissed := s.log.eventMissed
  programFail := s.store.programFail
  eraseFail := s.store.eraseFail

/-! ### The active-condition set (R101) -/

/-- The condition causes in the order of R107: kinds as in R99's table, sources A, B, then channels. -/
def conditionOrder : List CauseId :=
  [⟨.overtemp, .motor .A⟩, ⟨.overtemp, .motor .B⟩, ⟨.modFault, .motor .A⟩, ⟨.modFault, .motor .B⟩,
   ⟨.fbLost, .motor .A⟩, ⟨.fbLost, .motor .B⟩, ⟨.supLost, .none⟩,
   ⟨.vibDanger, .channel 0⟩, ⟨.vibDanger, .channel 1⟩, ⟨.vibDanger, .channel 2⟩,
   ⟨.vibDanger, .channel 3⟩, ⟨.vibDanger, .channel 4⟩, ⟨.vibDanger, .channel 5⟩, ⟨.extTrip, .none⟩]

/-- A condition becomes active: its member joins the set, which is kept in R107's order. -/
def addCondition (c : CauseId) (set : List CauseId) : List CauseId :=
  conditionOrder.filter fun d => d == c || set.contains d

/-- A condition becomes inactive. -/
def removeCondition (c : CauseId) (set : List CauseId) : List CauseId := set.filter fun d => d != c

/-- The owner of a condition hands the trip controller its change (R101). -/
def setCondition (c : CauseId) (on : Bool) (s : State) : State :=
  { s with trip := { s.trip with
      active := if on then addCondition c s.trip.active else removeCondition c s.trip.active } }

/-- The store's mode: STORE_MODE of the active DRIVE table, WRAP before the first (R129). -/
def storeMode (s : State) : StoreMode := ((activeDrive s).map DriveTable.storeMode).getD .wrap

end Sys2Proof.Machine
end

