-- ==== Sys2Proof/Machine/Ops.lean ====
section
/-! DEFINITION. The operations that several commands share: the event log and the ALERT line, frame
acceptance and the answer to a request, voltage commands, the torque computation, changes of the drive
state, and the delivery of a cause with all that a latch brings. -/

namespace Sys2Proof.Machine

/-! ### Event log and ALERT line (R151, R154, R155, R158 to R160) -/

/-- The ALERT condition (R158). -/
def EventLog.condition (t : EventTable) (inputs : Bool) (l : EventLog) : Bool :=
  inputs || decide (t.fillThreshold ≤ l.ring.length)

/-- A judgement of the ALERT condition: in LEVEL the line follows it (R159), in PULSE a rise starts a pulse
(R160). -/
def EventLog.judge (t : EventTable) (inputs : Bool) (l : EventLog) : EventLog :=
  let now := l.condition t inputs
  match t.alertMode with
  | .level => { l with alertCond := now, alertLine := now }
  | .pulse =>
    if now && !l.alertCond then
      { l with alertCond := true, alertLine := true, pulseTimer := .running t.pulseWidth }
    else { l with alertCond := now }

/-- The number of records the ring holds at most (R150). -/
def ringSize : Nat := 128

/-- A record goes to the newest end; a full ring loses its oldest (WRAP) or its newest (HOLD) (R154,
R155). -/
def EventLog.insert (mode : RingMode) (e : EventRecord) (l : EventLog) : EventLog :=
  if l.ring.length < ringSize then { l with ring := l.ring ++ [e] }
  else
    { l with
      ring := (match mode with
        | .wrap => l.ring.tail
        | .hold => l.ring.dropLast) ++ [e]
      missed := riseBy l.missed 1
      eventMissed := true }

/-- One occurrence: its kind's counter passes it over, or lets it become a record and is reloaded with
the interval (R151).  The ALERT condition is judged after the insertion (R154). -/
def EventLog.raise (t : EventTable) (inputs : Bool) (e : EventRecord) (l : EventLog) : EventLog :=
  match l.counters[e.kind.index] with
  | 0 =>
    (({ l with counters := l.counters.set e.kind.index t.intervals[e.kind.index] } : EventLog).insert
      t.ringMode e).judge t inputs
  | c + 1 => { l with counters := l.counters.set e.kind.index c }

/-- An event raised by a block, in the event in hand: the record takes the pace count as it stands
(R153). -/
def raise (kind : EventKind) (source : Source) (flags : Word) (data1 data2 : DWord) (s : State) : State :=
  let record : EventRecord :=
    { kind := kind, source := source, flags := flags, pace := s.link.paceCount, data1 := data1, data2 := data2 }
  { s with log := s.log.raise (eventTable s) (alertInputs s) record }

/-- The ALERT condition is judged after a change of one of its inputs (R158). -/
def judgeAlert (s : State) : State :=
  { s with log := s.log.judge (eventTable s) (alertInputs s) }

/-! ### Accepting frames (R179, R180) -/

/-- The receive reference of a port and channel (R177). -/
def Link.ref (l : Link) (p : Port) (channel : Fin 8) : Option Seq :=
  match p with
  | .S => l.refS
  | .M0 => l.refM0
  | .M1 => l.refM1
  | .H => l.refH[channel]

def Link.setRef (l : Link) (p : Port) (channel : Fin 8) (seq : Seq) : Link :=
  match p with
  | .S => { l with refS := some seq }
  | .M0 => { l with refM0 := some seq }
  | .M1 => { l with refM1 := some seq }
  | .H => { l with refH := l.refH.set channel (some seq) }

/-- The number of sequences missing before a frame, none without a reference (R179). -/
def Link.gapBefore (l : Link) (p : Port) (channel : Fin 8) (seq : Seq) : Nat :=
  match l.ref p channel with
  | some ref => (seq - ref - 1).toNat
  | none => 0

/-- A LINK_ERR occurrence, which sets LINK_ERR_SEEN whether or not it becomes a record (R180). -/
def linkError (p : Port) (reason : LinkReason) (channel : BitVec 4) (data2 : Nat) (s : State) : State :=
  raise .linkErr (.port p) (linkErrFlags reason channel) (count32 (portCode p)) (count32 data2)
    { s with link := { s.link with linkErrSeen := true } }

/-- The sequence of an accepted frame is judged against the receive reference and becomes it (R179). -/
def acceptFrame (p : Port) (channel : Fin 8) (seq : Seq) (s : State) : State :=
  let gap := s.link.gapBefore p channel seq
  let s := { s with link := s.link.setRef p channel seq }
  if gap = 0 then s
  else
    linkError p .gap (BitVec.ofNat 4 channel.val) gap
      { s with link := { s.link with gaps := s.link.gaps.set (portIndex p) (riseBy s.link.gaps[portIndex p] gap) } }

/-! ### Answers (R183, R184) -/

/-- What the owner of a request gives the request handler: the state it leaves, an answer code and result
data. -/
structure Reply where
  state  : State
  answer : AnswerCode
  data   : List Byte

/-- The answer goes into the slot, and is sent at once if the transmitter is idle (R183). -/
def Link.placeAnswer (l : Link) (a : Answer) : Link :=
  match l.sTx with
  | .idle => { l with slot := some a, sTx := .answer l.outS a, outS := l.outS + 1 }
  | _ => { l with slot := some a }

/-- The request cycle (R183, R184): the frame's sequence is judged; a request that finds an answer pending
is discarded and sets REQUEST_OVERRUN; any other is carried out by its owner and answered. -/
def serve (code : Byte) (r : Request) (owner : State → Reply) (s : State) : State :=
  let s := acceptFrame .S 0 r.seq s
  match s.link.slot with
  | some _ => { s with link := { s.link with overrun := true } }
  | none =>
    let reply := owner s
    let answer : Answer := { code := code, tag := r.tag, answer := reply.answer, data := reply.data }
    { reply.state with link := reply.state.link.placeAnswer answer }

/-- A refusal: nothing changes (R184). -/
def refuse (answer : AnswerCode) (data : List Byte) (s : State) : Reply :=
  { state := s, answer := answer, data := data }

/-! ### Voltage commands (R3, R57, R64, R177) -/

/-- A VCMD goes out at once on an idle port, else behind those formed before it (R177). -/
def VcmdTransmitter.push (t : VcmdTransmitter) (out : Seq) (v : Vcmd) : VcmdTransmitter × Seq :=
  match t.sending with
  | none => ({ t with sending := some (out, v) }, out + 1)
  | some _ => ({ t with waiting := t.waiting ++ [v] }, out)

/-- What a transmitter holds, oldest first. -/
def VcmdTransmitter.frames (t : VcmdTransmitter) : List Vcmd :=
  (t.sending.map Prod.snd).toList ++ t.waiting

/-- The commands a motor's port holds, oldest first. -/
def Link.vcmds (l : Link) (m : Motor) : List Vcmd :=
  match m with
  | .A => l.m0Tx.frames
  | .B => l.m1Tx.frames

/-- A VCMD frame is sent on a motor's port. -/
def Link.sendVcmd (l : Link) (m : Motor) (v : Vcmd) : Link :=
  match m with
  | .A => { l with m0Tx := (l.m0Tx.push l.outM0 v).1, outM0 := (l.m0Tx.push l.outM0 v).2 }
  | .B => { l with m1Tx := (l.m1Tx.push l.outM1 v).1, outM1 := (l.m1Tx.push l.outM1 v).2 }

/-- A regulator sends a VCMD and keeps its voltages as the last sent (R50, R64). -/
def sendVcmd (m : Motor) (v : Vcmd) (s : State) : State :=
  let r := s.reg m
  let s := s.setReg m { r with vdLast := v.vd, vqLast := v.vq }
  { s with link := s.link.sendVcmd m v }

/-- Both integrators of a regulator are set to zero. -/
def clearIntegrators (m : Motor) (s : State) : State :=
  let r := s.reg m
  s.setReg m { r with intD := 0, intQ := 0 }

/-- The blocking VCMD: cleared integrators, zero voltages, the last sequence (R3, R57, R65). -/
def sendBlocking (m : Motor) (s : State) : State :=
  let s := clearIntegrators m s
  sendVcmd m { seq := (s.reg m).lastSeq, vd := 0, vq := 0, block := true } s

/-- One regulator at a change out of the energised states (R3).  `own` is the regulator in whose own
arrival or expiry the change comes: its blocking command is that arrival's answer, or has gone out
already (R58, R66). -/
def blockAtChange (own : Option Motor) (m : Motor) (s : State) : State :=
  if own = some m ∨ (s.reg m).seen = false then clearIntegrators m s else sendBlocking m s

/-- Both regulators at a change out of the energised states (R3). -/
def blockBoth (own : Option Motor) (s : State) : State :=
  blockAtChange own .B (blockAtChange own .A s)

/-! ### The torque computation (R28, R30 to R37, R41) -/

/-- Step 2: the base limits (R30). -/
def baseLimits (s : State) : Int × Int :=
  if s.run.state = .breakaway then ((driveFieldsOf s).brkLimit, (driveFieldsOf s).brkLimit)
  else
    match activeLimit s with
    | some t => curveAt t.points (mag (paceSpeed s))
    | none => (0, 0)

/-- The single-motor cap, where the motor set of the active DRIVE table is A or B (R33). -/
def singleMotorCap (s : State) : Option Int :=
  match activeDrive s with
  | some d => if d.motorSet = .ab then none else some d.smCap
  | none => none

/-- Steps 2 to 4: the limit stack record, less `limiting`. -/
def stackOf (s : State) : LimitStack :=
  let k := s.lim.stack
  let base := baseLimits s
  let derate := leastDerate (motorSet s) k.vibDerate k.thermA k.thermB
  { k with
    baseFwd := base.1
    baseRev := base.2
    derate := derate
    tightest := tightestOf derate (countingDerates (motorSet s) k.vibDerate k.thermA k.thermB)
    lFwd := limitInForce base.1 derate (singleMotorCap s)
    lRev := limitInForce base.2 derate (singleMotorCap s) }

/-- Step 5: the torque command in a drive state (R34). -/
def torqueCommand (d : DriveState) (k : LimitStack) (tReq : Int) : Int :=
  match d with
  | .breakaway | .run => clamp (-k.lRev) k.lFwd tReq
  | .off | .ready | .resting | .stopping | .tripped => 0

/-- Step 5: whether the request was clamped (R34). -/
def isLimiting (d : DriveState) (tReq tCmd : Int) : Bool :=
  match d with
  | .breakaway | .run => tCmd != tReq
  | .off | .ready | .resting | .stopping | .tripped => false

/-- Step 6: the shares, both 0 without a DRIVE table (R36). -/
def shares (s : State) (tCmd : Int) : Int × Int :=
  match activeDrive s with
  | some d => sharesOf d.motorSet d.shareA tCmd
  | none => (0, 0)

/-- Step 7: the current reference of a share, 0 without a DRIVE table (R37). -/
def iqRef (s : State) (share : Int) : Int :=
  match activeDrive s with
  | some d => iqRefOf share d.kti d.iqMax
  | none => 0

/-- Steps 2 to 7 (R28): what the torque limiter holds afterwards. -/
def limiterAfter (s : State) : TorqueLimiter :=
  let k := stackOf s
  let tCmd := torqueCommand s.run.state k s.lim.tReq
  let sh := shares s tCmd
  { s.lim with
    stack := { k with limiting := isLimiting s.run.state s.lim.tReq tCmd }
    tCmd := tCmd
    shareA := sh.1
    shareB := sh.2
    iqRefA := iqRef s sh.1
    iqRefB := iqRef s sh.2 }

/-- The stall condition (R41). -/
def stallHolds (s : State) : Bool :=
  s.run.state == .run
  && (decide (s.lim.stack.lFwd < s.lim.tReq ∧ s.lim.tCmd = s.lim.stack.lFwd)
      || decide (s.lim.tReq < -s.lim.stack.lRev ∧ s.lim.tCmd = -s.lim.stack.lRev))
  && decide (mag (paceSpeed s) < (driveFieldsOf s).stallSpeed)

/-- The stall watch at the end of a computation (R41). -/
def stallTimerAfter (s : State) : Timer :=
  if stallHolds s then
    match s.lim.stallTimer with
    | .stopped => .running (driveFieldsOf s).stallTime
    | .running d => .running d
  else .stopped

def watchStall (s : State) : State := { s with lim := { s.lim with stallTimer := stallTimerAfter s } }

/-- The TLIM event of a computation that clamped the request (R35). -/
def raiseTlim (s : State) : State :=
  if s.lim.stack.limiting then
    raise .tlim .none (tlimFlags (decide (s.lim.tReq < -s.lim.stack.lRev)) s.lim.stack.tightest)
      (data32 s.lim.tReq) (data32 s.lim.tCmd) s
  else s

/-- A computation of either kind, steps 2 to 7 and the stall watch (R28). -/
def compute (s : State) : State := watchStall (raiseTlim { s with lim := limiterAfter s })

/-! ### Changes of the drive state (R3, R8, R10, R11, R15, R22, R23, R40) -/

/-- What the run controller holds on entering a state: READY clears the run edge and the attempt count
(R8, R10), OFF clears the attempt count. -/
def RunController.entering (r : RunController) (new : DriveState) : RunController :=
  match new with
  | .ready => { r with state := .ready, runEdge := false, attempts := 0 }
  | .off => { r with state := .off, attempts := 0 }
  | d => { r with state := d }

/-- The overtorque persistence count is 0 from the entry into READY, OFF or TRIPPED (R40). -/
def TorqueLimiter.entering (l : TorqueLimiter) (new : DriveState) : TorqueLimiter :=
  if new.energised then l else { l with otCount := 0 }

/-- The DRIVE_STATE event (R22). -/
def raiseDriveState (old new : Nat) (reason : DriveReason) (s : State) : State :=
  raise .driveState .none (count16 reason.code) (count32 old) (count32 new) s

/-- The drive enters a state, and the DRIVE_STATE event of the change is raised (R22). -/
def changeDrive (new : DriveState) (reason : DriveReason) (s : State) : State :=
  raiseDriveState s.run.state.code new.code reason
    { s with run := s.run.entering new, lim := s.lim.entering new }

/-- The BRK_END event (R23). -/
def raiseBrkEnd (how : BreakawayEnd) (s : State) : State :=
  raise .brkEnd .none 0 (count32 how.code) (count32 s.run.attempts) s

/-- The BRK_START event (R11, R23). -/
def raiseBrkStart (origin : AttemptOrigin) (s : State) : State :=
  raise .brkStart .none (count16 origin.code) (count32 s.run.attempts) (count32 (mag (paceSpeed s))) s

/-- A breakaway attempt begins: the drive enters BREAKAWAY as a given attempt, BRK_TIME is started, and
BRK_START follows the DRIVE_STATE event (R11). -/
def beginAttempt (attempt : Nat) (reason : DriveReason) (origin : AttemptOrigin) (s : State) : State :=
  raiseBrkStart origin
    (changeDrive .breakaway reason
      { s with run := { s.run with
          attempts := attempt, brkTimer := .running (driveFieldsOf s).brkTime } })

/-- The drive is in BREAKAWAY or RESTING. -/
def inBreakaway (d : DriveState) : Bool := d == .breakaway || d == .resting

/-- BRK_TIME, BRK_REST and STOP_TIME are stopped. -/
def RunController.stopTimers (r : RunController) : RunController :=
  { r with brkTimer := .stopped, restTimer := .stopped, stopTimer := .stopped }

/-- The drive enters READY where the READY conditions hold, else OFF, with a reason (R17, R20). -/
def enterReadyOrOff (reason : DriveReason) (s : State) : State :=
  changeDrive (if readyConditions s then .ready else .off) reason s

/-- A stop ends (R17): STOP_TIME is stopped, READY or OFF is entered, both regulators block (R3), and the
computation follows (R28). -/
def endStop (own : Option Motor) (reason : DriveReason) (s : State) : State :=
  compute (blockBoth own (enterReadyOrOff reason { s with run := { s.run with stopTimer := .stopped } }))

/-- An evaluation point of the READY conditions (R5). -/
def evaluateReady (s : State) : State :=
  match s.run.state with
  | .off => if readyConditions s then compute (changeDrive .ready .conditions s) else s
  | .ready => if readyConditions s then s else compute (changeDrive .off .conditions s)
  | .breakaway | .resting | .run | .stopping | .tripped => s

/-! ### Causes and the latch (R19, R102, R103, R116) -/

/-- The event in which a cause is delivered: the regulator whose own arrival or expiry it is, if any, and
whether it is step 1 of a setpoint, whose own steps 2 to 7 stand for the state computation (R28). -/
structure Delivery where
  own        : Option Motor
  inSetpoint : Bool
  deriving DecidableEq, Repr

/-- The drive enters TRIPPED (R19), step 3 of R102.  No BRK_END follows a BREAKAWAY_FAIL (R13). -/
def enterTripped (d : Delivery) (kind : CauseKind) (s : State) : State :=
  let old := s.run.state
  let s := changeDrive .tripped .trip { s with run := s.run.stopTimers }
  let s := if inBreakaway old && kind != .breakawayFail then raiseBrkEnd .abandoned s else s
  let s := if old.energised then blockBoth d.own s else s
  if d.inSetpoint then s else compute s

/-- PRE_COUNT and POST_LIMIT at a trigger, 128 and 1000 ms without a DRIVE table (R116). -/
def preCountAt (s : State) : Nat := ((activeDrive s).map DriveTable.preCount).getD 128

def postLimitAt (s : State) : Nat := ((activeDrive s).map DriveTable.postLimit).getD 1000

/-- The trigger copy (R116, step 4). -/
def triggerCopy (s : State) : TriggerCopy where
  pace := s.link.paceCount
  supTime := s.lim.supTime
  lFwd := s.lim.stack.lFwd
  derate := s.lim.stack.derate
  attempts := s.run.attempts
  dcA := s.regA.dcLink
  tempA := s.regA.temp
  dcB := s.regB.dcLink
  tempB := s.regB.temp

/-- The newest `n` entries of a ring. -/
def newest (n : Nat) (ring : List Snapshot) : List Snapshot := ring.drop (ring.length - n)

/-- The trigger of an ARMED recorder (R116), step 4 of R102. -/
def triggerRecorder (s : State) : State :=
  match s.recorder.state with
  | .armed =>
    let ring := newest (preCountAt s) s.recorder.ring
    { s with recorder := { s.recorder with
        state := .post
        ring := ring
        preCount := ring.length
        postCount := 0
        postTarget := 256 - preCountAt s
        postTimer := .running (postLimitAt s)
        trigger := triggerCopy s } }
  | .post | .frozen | .writing | .done => s

/-- The TRIP event (R105). -/
def raiseTrip (flags : Nat) (c : CauseId) (value : DWord) (s : State) : State :=
  raise .trip c.source (count16 flags) (count32 c.kind.code) value s

/-- The entry a delivery makes (R99, R100). -/
def causeEntry (c : CauseId) (value : DWord) (s : State) : CauseEntry where
  id := c
  pace := s.link.paceCount
  value := value
  supTime := s.lim.supTime

/-- Steps 1 and 2 of R102: the latch, the list and the TRIP line, with the judgement of the ALERT condition
that the latch prompts (R158). -/
def setLatch (c : CauseId) (value : DWord) (s : State) : State :=
  judgeAlert { s with trip := { s.trip with latch := true, list := [causeEntry c value s], tripLine := true } }

/-- A cause that arrives while the latch is clear (R102). -/
def latchTrip (d : Delivery) (c : CauseId) (value : DWord) (s : State) : State :=
  raiseTrip 0 c value (triggerRecorder (enterTripped d c.kind (setLatch c value s)))

/-- A cause that arrives while the latch is set (R103). -/
def appendCause (c : CauseId) (value : DWord) (s : State) : State :=
  if s.trip.list.any (fun e => e.id == c) then s
  else if s.trip.list.length < 8 then
    raiseTrip 1 c value { s with trip := { s.trip with list := s.trip.list ++ [causeEntry c value s] } }
  else if s.trip.overflowSet.contains c then s
  else
    raiseTrip 2 c value
      { s with trip := { s.trip with
          overflowSet := s.trip.overflowSet ++ [c], overflowCount := s.trip.overflowCount + 1 } }

/-- A cause is delivered to the trip controller (R99, R102, R103). -/
def deliverCause (d : Delivery) (c : CauseId) (value : DWord) (s : State) : State :=
  if s.trip.latch then appendCause c value s else latchTrip d c value s

/-- The trip is cleared by a TRIP_RESET (R108, steps 1 and 2) or a RESTART (R112): list, overflow, latch and
TRIP line; the active-condition set and EXT_TRIP are kept.  The ALERT condition is judged (R158). -/
def clearTrip (s : State) : State :=
  judgeAlert { s with trip := { s.trip with
    latch := false, list := [], overflowCount := 0, overflowSet := [], tripLine := false } }

end Sys2Proof.Machine
end

