-- ==== Sys2Proof/Machine/EventRequests.lean ====
section
/-! DEFINITION. EVENT_READ, EVENT_MARK and PULSE_TIMER_EXPIRY (R156, R157, R160, R190). -/

namespace Sys2Proof.Machine

/-- The fill and the missed count, as the answers to EVENT_READ and EVENT_MARK carry them. -/
def fillAndMissed (l : EventLog) : List Byte := count8 l.ring.length :: bytes16 (count16 l.missed)

/-! ### EVENT_READ (R156, R190) -/

/-- Up to two records leave the oldest end, and the ALERT condition is judged again (R156). -/
def dropOldest (s : State) : State :=
  judgeAlert { s with log := { s.log with ring := s.log.ring.drop 2 } }

/-- The result data of EVENT_READ (R190). -/
def eventData (s : State) : List Byte :=
  count8 (s.log.ring.take 2).length :: fillAndMissed (dropOldest s).log
  ++ (s.log.ring.take 2).flatMap EventRecord.compact

/-- EVENT_READ by its argument bytes (R156, R184). -/
def eventRead (args : List Byte) (s : State) : Reply :=
  match args with
  | [] => { state := dropOldest s, answer := .ok, data := eventData s }
  | _ => refuse .badRequest [] s

/-- EVENT_READ (R156). -/
def execEventRead (r : Request) (s : State) : Host.Outcome State Fault Refusal :=
  .next (serve 17 r (eventRead r.args) s)

/-! ### EVENT_MARK (R157) -/

/-- One occurrence of MARK. -/
def raiseMark (source : BitVec 4) (data1 data2 : DWord) (s : State) : State :=
  raise .mark (.mark source) 0 data1 data2 s

/-- The next occurrence of MARK becomes a record (R151). -/
def markPasses (s : State) : Bool := s.log.counters[EventKind.mark.index] == 0

/-- EVENT_MARK by its argument bytes (R157, R184). -/
def eventMark (args : List Byte) (s : State) : Reply :=
  match args with
  | [src, a3, a2, a1, a0, b3, b2, b1, b0] =>
    if src.toNat ≤ 15 then
      let marked := raiseMark (src.setWidth 4) (be32 a3 a2 a1 a0) (be32 b3 b2 b1 b0) s
      { state := marked, answer := .ok, data := boolByte (markPasses s) :: fillAndMissed marked.log }
    else refuse .badRequest [] s
  | _ => refuse .badRequest [] s

/-- EVENT_MARK (R157). -/
def execEventMark (r : Request) (s : State) : Host.Outcome State Fault Refusal :=
  .next (serve 18 r (eventMark r.args) s)

/-! ### PULSE_TIMER_EXPIRY (R160) -/

/-- PULSE_TIMER_EXPIRY (R160): the line is released.  A stopped timer has no expiry (assumption 2). -/
def execPulseTimerExpiry (s : State) : Host.Outcome State Fault Refusal :=
  match s.log.pulseTimer with
  | .stopped => .next s
  | .running _ => .next { s with log := { s.log with pulseTimer := .stopped, alertLine := false } }

end Sys2Proof.Machine
end

