-- ==== Sys2Proof/Machine/StoreOps.lean ====
section
/-! DEFINITION. The trip store: the start-up scan, target selection, acceptance, misses, the choice of the
next work, pre-erase, and the ends of programs, erases and blank checks (R130 to R149), with the freeze and
the handover of a record (R114 to R120). -/

namespace Sys2Proof.Machine

/-! ### The index -/

/-- The banks after one in the rotation 0, 1, 2, 3, 0, less itself (R134). -/
def rotationAfter (b : Fin 4) : List (Fin 4) := [b + 1, b + 2, b + 3]

/-- One entry of the index is replaced. -/
def TripStore.setBank (t : TripStore) (b : Fin 4) (e : BankIndex) : TripStore :=
  { t with banks := t.banks.set b e }

/-- One bank of the memory is replaced. -/
def TripStore.setNv (t : TripStore) (b : Fin 4) (n : NvBank) : TripStore := { t with nv := t.nv.set b n }

/-- A bank is in the erase queue. -/
def TripStore.queued (t : TripStore) (b : Fin 4) : Bool := t.queue.contains b

/-- The state that follows from a stamped bank's slots (R128). -/
def stateFromSlots (slots : Vector SlotIndex 8) : BankState :=
  if slots.toList.all (fun x => x.state == .blank) then .blank
  else if slots.toList.any (fun x => x.state == .blank) then .open
  else .full

/-- BLANK, OPEN and FULL are recomputed whenever a slot of the bank changes; the other states stand
(R128). -/
def BankIndex.recomputed (e : BankIndex) : BankIndex :=
  match e.state with
  | .blank | .open | .full => { e with state := stateFromSlots e.slots }
  | .erasing | .eraseSuspended | .needsErase | .retired => e

/-- A slot of a bank changes, and the bank's state is recomputed (R128). -/
def BankIndex.setSlot (e : BankIndex) (k : Fin 8) (x : SlotIndex) : BankIndex :=
  ({ e with slots := e.slots.set k x } : BankIndex).recomputed

/-- The eight slots in order. -/
def allSlots : List (Fin 8) := [0, 1, 2, 3, 4, 5, 6, 7]

/-- The four banks in order. -/
def allBanks : List (Fin 4) := [0, 1, 2, 3]

/-- The lowest-numbered BLANK slot of a bank. -/
def BankIndex.lowestBlank (e : BankIndex) : Option (Fin 8) :=
  allSlots.find? fun k => e.slots[k].state == .blank

/-- The number of BLANK slots of a bank. -/
def BankIndex.blankCount (e : BankIndex) : Nat := (allSlots.filter fun k => e.slots[k].state == .blank).length

/-- The number of VALID slots in the index. -/
def TripStore.validTotal (t : TripStore) : Nat :=
  (allBanks.map fun b => (allSlots.filter fun k => t.banks[b].slots[k].state == .valid).length).sum

/-! ### Store events (R149) -/

def raiseStore (source : Source) (flag : StoreFlag) (data1 data2 : DWord) (s : State) : State :=
  raise .store source (count16 flag.code) data1 data2 s

/-- An OVERWRITE event: flags 0 OVERWRITTEN, 1 MISSED (spec 12.2). -/
def raiseOverwrite (source : Source) (missed : Bool) (data1 data2 : DWord) (s : State) : State :=
  raise .overwrite source (count16 (bit missed 0)) data1 data2 s

/-! ### The erase queue and overwriting (R141) -/

/-- A bank joins the erase queue; no bank is in it twice (R129). -/
def TripStore.join (t : TripStore) (b : Fin 4) : TripStore :=
  if t.queued b then t else { t with queue := t.queue ++ [b] }

/-- A bank is queued for overwrite (R141). -/
def queueOverwrite (b : Fin 4) (s : State) : State :=
  let valid := s.store.banks[b].validCount
  raiseOverwrite (.bank b) false (count32 b.val) (count32 valid)
    { s with store := { s.store.join b with overwritten := riseBy s.store.overwritten valid } }

/-! ### Number marks (R127, R139) -/

/-- The number of mark cells of a bank (R127). -/
def markCells : Nat := 16

/-- The first bank, in rotation from the current bank, that may take a number mark (R139, step 2). -/
def TripStore.markHolder (t : TripStore) : Option (Fin 4) :=
  (t.current :: rotationAfter t.current).find? fun b =>
    t.nv[b].stamp.isSome
    && t.banks[b].state != .retired && t.banks[b].state != .erasing && t.banks[b].state != .eraseSuspended
    && !t.queued b
    && decide (t.nv[b].marks.length < markCells)

/-- A number is placed in a free number mark of a bank. -/
def TripStore.placeMark (t : TripStore) (b : Fin 4) (n : DWord) : TripStore :=
  (t.setNv b { t.nv[b] with marks := t.nv[b].marks ++ [n] }).setBank b
    { t.banks[b] with marks := t.banks[b].marks ++ [n] }

/-! ### The recorder's side (R120, R121) -/

/-- The store hands the recorder a trip number, which goes into the RAM record's header. -/
def Recorder.numbered (r : Recorder) (n : DWord) (state : RecorderState) : Recorder :=
  { r with state := state, ramRecord := r.ramRecord.map fun x => { x with tripNumber := n } }

/-- The recorder enters DONE with the number it holds (R121). -/
def recorderDone (s : State) : State := { s with recorder := { s.recorder with state := .done } }

/-! ### Misses (R132, R138, R139) -/

/-- The number a new record that is missed for lack of room consumes, 0 where none is consumed (R132,
R139): numbers are exhausted, or no mark is free. -/
def TripStore.missNumber (t : TripStore) : DWord :=
  if t.nextNumber = 0 then 0 else if t.markHolder.isSome then t.nextNumber else 0

/-- Steps 1 and 2 of R139 for a new record. -/
def TripStore.consumeForMiss (t : TripStore) : TripStore :=
  if t.nextNumber = 0 then t
  else
    match t.markHolder with
    | some b => { t.placeMark b t.nextNumber with nextNumber := t.nextNumber + 1 }
    | none => t

/-- Step 2 of R139 for a retry, which keeps its number. -/
def TripStore.markForRetry (t : TripStore) (n : DWord) : TripStore :=
  match t.markHolder with
  | some b => t.placeMark b n
  | none => t

/-- Steps 3 and 4 of R139: the missed count, then OVERWRITE and STORE.  That a record missed because the numbers
are exhausted (R132) raises both too, with reason NO_ROOM, is the model's reading (assumption 39). -/
def countMiss (n : DWord) (s : State) : State :=
  let s := { s with store := { s.store with missed := riseBy s.store.missed 1, offer := .none } }
  raiseStore .none .missed n (count32 0) (raiseOverwrite .none true n (count32 s.store.missed) s)

/-- A new record is missed for lack of room (R139), or because the numbers are exhausted (R132), then with the
same events (assumption 39). -/
def missNew (s : State) : State :=
  let n := s.store.missNumber
  let s := countMiss n { s with store := s.store.consumeForMiss }
  { s with recorder := s.recorder.numbered n .done }

/-- A retry is missed for lack of room (R138, R139). -/
def missRetry (n : DWord) (s : State) : State :=
  recorderDone (countMiss n { s with store := s.store.markForRetry n })

/-! ### Target selection (R133 to R136) -/

/-- What a selection ends in: a slot, a wait, a wait after a bank joins the queue, plainly or for
overwrite, or a miss. -/
inductive Selection where
  | slot (b : Fin 4) (k : Fin 8)
  | wait
  | queueErase (b : Fin 4)
  | queueOverwrite (b : Fin 4)
  | miss
  deriving DecidableEq, Repr

/-- A bank is OPEN or BLANK and not in the queue: its lowest BLANK slot. -/
def TripStore.freeSlot (t : TripStore) (b : Fin 4) : Option (Fin 8) :=
  if (t.banks[b].state == .open || t.banks[b].state == .blank) && !t.queued b then t.banks[b].lowestBlank
  else none

/-- The next bank: the first after the current one that is not RETIRED (R134). -/
def TripStore.nextBank (t : TripStore) : Option (Fin 4) :=
  (rotationAfter t.current).find? fun b => t.banks[b].state != .retired

/-- R134's table for the next bank. -/
def TripStore.selectNext (t : TripStore) (mode : StoreMode) (b : Fin 4) : Selection :=
  if t.queued b then .wait
  else
    match t.banks[b].state with
    | .blank => .slot b 0
    | .open => match t.banks[b].lowestBlank with
      | some k => .slot b k
      | none => .wait
    | .erasing | .eraseSuspended => .wait
    | .needsErase => .queueErase b
    | .full => match mode with
      | .wrap => .queueOverwrite b
      | .keep => .miss
    | .retired => .miss

/-- Target selection while the erase-all flag is clear (R134). -/
def TripStore.selectPlain (t : TripStore) (mode : StoreMode) : Selection :=
  match t.freeSlot t.current with
  | some k => .slot t.current k
  | none =>
    match t.nextBank with
    | some b => t.selectNext mode b
    | none => .miss

/-- Target selection while the erase-all flag is set (R135). -/
def TripStore.selectDuringEraseAll (t : TripStore) : Selection :=
  match t.freeSlot t.current with
  | some k => .slot t.current k
  | none =>
    match (rotationAfter t.current).find? fun b => t.banks[b].state == .blank && !t.queued b with
    | some b => .slot b 0
    | none => .wait

def TripStore.select (t : TripStore) (mode : StoreMode) : Selection :=
  if t.eraseAll then t.selectDuringEraseAll else t.selectPlain mode

/-- The running erase of another bank is suspended (R136, step 1). -/
def TripStore.suspendErase (t : TripStore) : TripStore :=
  match t.activity, t.busy with
  | .erasing, some e => t.setBank e { t.banks[e] with state := .eraseSuspended }
  | _, _ => t

/-- Steps 3 and 4 of R136: the header in the slot, the slot WRITING, the activity PROGRAMMING. -/
def TripStore.beginProgram (t : TripStore) (b : Fin 4) (k : Fin 8) (n : DWord) (retry : Bool) : TripStore :=
  let t := t.setNv b { t.nv[b] with slots := t.nv[b].slots.set k (t.nv[b].slots[k].program (headerPlaced n)) }
  let t := t.setBank b (t.banks[b].setSlot k { state := .writing, number := some n })
  { t with
    current := b
    offer := .none
    program := some { bank := b, slot := k, number := n, retry := retry }
    activity := .programming
    busy := some b }

/-- A new record is accepted in a slot (R136). -/
def acceptNew (b : Fin 4) (k : Fin 8) (s : State) : State :=
  let n := s.store.nextNumber
  { s with
    store := { s.store.suspendErase.beginProgram b k n false with nextNumber := n + 1 }
    recorder := s.recorder.numbered n .writing }

/-- A retry is accepted in a slot with the number it holds; the recorder is not told (R136). -/
def acceptRetry (n : DWord) (b : Fin 4) (k : Fin 8) (s : State) : State :=
  { s with store := s.store.suspendErase.beginProgram b k n true }

/-- A pending offer is taken through target selection (R133).  Where the numbers are exhausted a new
record is missed at once (R132, assumption 14), and a retry, which consumes no number, is still placed (the
model's choice, assumption 34). -/
def takeOffer (s : State) : State :=
  match s.store.offer with
  | .none => s
  | .newRecord =>
    if s.store.nextNumber = 0 then missNew s
    else
      match s.store.select (storeMode s) with
      | .slot b k => acceptNew b k s
      | .wait => s
      | .queueErase b => { s with store := s.store.join b }
      | .queueOverwrite b => queueOverwrite b s
      | .miss => missNew s
  | .retry n =>
    match s.store.select (storeMode s) with
    | .slot b k => acceptRetry n b k s
    | .wait => s
    | .queueErase b => { s with store := s.store.join b }
    | .queueOverwrite b => queueOverwrite b s
    | .miss => missRetry n s

/-! ### The next work (R140) -/

/-- Nothing runs (R140, step 3). -/
def TripStore.goIdle (t : TripStore) : TripStore :=
  { t with activity := .idle, busy := none, eraseAll := false }

/-- The bank whose erase is suspended. -/
def TripStore.suspended (t : TripStore) : Option (Fin 4) :=
  allBanks.find? fun b => t.banks[b].state == .eraseSuspended

/-- The suspended erase resumes (R140, step 1). -/
def TripStore.resume (t : TripStore) (b : Fin 4) : TripStore :=
  { t.setBank b { t.banks[b] with state := .erasing } with activity := .erasing, busy := some b }

/-- The largest trip number yet assigned or consumed (R140): the next less 1, which wraps to 4294967295
where the next number is 0. -/
def TripStore.largestUsed (t : TripStore) : DWord := t.nextNumber - 1

/-- The index shows a bank holding a number in a slot or a number mark (R140). -/
def BankIndex.holds (e : BankIndex) (n : DWord) : Bool :=
  e.slots.toList.any (fun x => x.number == some n) || e.marks.contains n

/-- A queued bank begins its erase (R140, step 2): its stamp and marks are erased with it, and what its
slots read as is not stated until the erase has verified (assumption 3). -/
def TripStore.beginErase (t : TripStore) (b : Fin 4) (rest : List (Fin 4)) : TripStore :=
  let t := t.setNv b
    { slots := Vector.ofFn fun k : Fin 8 => NvSlot.unknown (t.nextTag + k.val) [], stamp := none, marks := [] }
  let t := t.setBank b { t.banks[b] with state := .erasing, marks := [] }
  { t with nextTag := t.nextTag + 8, queue := rest, activity := .erasing, busy := some b }

/-- The bank at the head of the queue is taken up (R140, step 2): where it holds the largest number, the
number first goes to a mark of another bank, and without a free one the erase does not begin. -/
def TripStore.takeHead (t : TripStore) (b : Fin 4) (rest : List (Fin 4)) : TripStore :=
  if t.banks[b].holds t.largestUsed then
    match t.markHolder with
    | some h => (t.placeMark h t.largestUsed).beginErase b rest
    | none => t.goIdle
  else t.beginErase b rest

/-- The store chooses what to do next (R140): it acts only where no work runs. -/
def TripStore.chooseWork (t : TripStore) : TripStore :=
  match t.activity with
  | .idle =>
    match t.suspended with
    | some b => t.resume b
    | none =>
      match t.queue with
      | b :: rest => t.takeHead b rest
      | [] => t.goIdle
  | .scanning | .programming | .erasing | .blankChecking => t

def chooseWork (s : State) : State := { s with store := s.store.chooseWork }

/-- Pre-erase at the end of a program (R141).  It is judged alike under the erase-all flag, where it may queue a
bank that holds a record placed under the flag (the model's choice, assumption 36). -/
def preErase (s : State) : State :=
  if s.store.banks[s.store.current].blankCount < 2 then
    match s.store.nextBank with
    | none => s
    | some b =>
      if s.store.queued b then s
      else
        match s.store.banks[b].state, storeMode s with
        | .full, .wrap | .open, .wrap => queueOverwrite b s
        | .needsErase, _ => { s with store := s.store.join b }
        | _, _ => s
  else s

/-- A piece of store work has ended: nothing runs. -/
def TripStore.endWork (t : TripStore) : TripStore := { t with activity := .idle, busy := none }

/-! ### The ends of store work -/

/-- The words of a record in a slot: the RAM record with its number (R136, spec 12.5).  Without a RAM
record, which no run reaches while a program is in flight, the header words alone. -/
def recordWords (ram : Option TripRecord) (n : DWord) : List Word :=
  match ram with
  | some r => ({ r with tripNumber := n } : TripRecord).words
  | none => headerPlaced n

/-- The slot of a program with every word of the record programmed, the completion marker last (R136, R137). -/
def programmedSlot (p : Program) (s : State) : NvSlot :=
  s.store.nv[p.bank].slots[p.slot].program (recordWords s.recorder.ramRecord p.number)

/-- A slot can read as words programmed over it: no word but the completion marker, which follows the verification
(R137), asks for a 1 where the slot reads 0 already (R127, assumption 41). -/
def NvSlot.canRead (n : NvSlot) (l : List Word) : Bool :=
  (slotImage l).zipIdx.all fun (w, o) => o == completionOffset || n.word o &&& w == w

/-- Every word of the record reads as programmed (R137). -/
def readsAsProgrammed (p : Program) (s : State) : Bool :=
  s.store.nv[p.bank].slots[p.slot].canRead (recordWords s.recorder.ramRecord p.number)

/-- A program that verified (R137). -/
def programVerified (p : Program) (s : State) : State :=
  let t := s.store.setNv p.bank
    { s.store.nv[p.bank] with slots := s.store.nv[p.bank].slots.set p.slot (programmedSlot p s) }
  let e := t.banks[p.bank].setSlot p.slot { state := .valid, number := some p.number }
  let s := { s with store := t.setBank p.bank { e with validCount := e.validCount + 1 } }
  recorderDone (raiseStore (.bank p.bank) .written p.number (pairData p.bank.val p.slot.val) s)

/-- A program that failed verification, up to its STORE event (R138). -/
def programFailed (p : Program) (s : State) : State :=
  let t := s.store.setBank p.bank
    (s.store.banks[p.bank].setSlot p.slot { state := .void, number := some p.number })
  raiseStore (.bank p.bank) .programFail p.number (pairData p.bank.val p.slot.val)
    { s with store := { t with programFails := riseBy t.programFails 1, programFail := true } }

/-- What follows a failure (R138): the first becomes a pending retry taken through selection at once, the
second is a miss. -/
def afterFailure (p : Program) (s : State) : State :=
  if p.retry then
    recorderDone (raiseStore .none .missed p.number (count32 1)
      { s with store := { s.store with missed := riseBy s.store.missed 1 } })
  else takeOffer { s with store := { s.store with offer := .retry p.number } }

/-- The completion of a program (R137, R138).  It verifies where the cells took every word (`took`, assumption 7) and every
word then reads as programmed. -/
def endProgram (took : Bool) (p : Program) (s : State) : State :=
  let s := { s with store := { s.store.endWork with program := none } }
  let s :=
    if took && readsAsProgrammed p s then programVerified p s else afterFailure p (programFailed p s)
  chooseWork (preErase s)

/-- An erase that verified (R142). -/
def eraseVerified (b : Fin 4) (s : State) : State :=
  let count := riseBy s.store.banks[b].eraseCount 1
  let t := s.store.setNv b
    { slots := Vector.replicate 8 NvSlot.erased, stamp := some count, marks := [] }
  let e : BankIndex :=
    { state := .blank, eraseCount := count, validCount := 0,
      slots := Vector.replicate 8 { state := .blank, number := none }, marks := [] }
  raiseStore (.bank b) .erased (count32 b.val) (count32 count) { s with store := t.setBank b e }

/-- An erase that failed verification (R142). -/
def eraseFailed (b : Fin 4) (s : State) : State :=
  let t := s.store.setBank b
    { s.store.banks[b] with
      state := .retired, validCount := 0, slots := Vector.replicate 8 { state := .void, number := none } }
  raiseStore (.bank b) .eraseFail (count32 b.val) (count32 s.store.banks[b].eraseCount)
    { s with store := { t with eraseFails := riseBy t.eraseFails 1, eraseFail := true } }

/-- The completion of an erase (R142). -/
def endErase (verified : Bool) (b : Fin 4) (s : State) : State :=
  let s := { s with store := s.store.endWork }
  chooseWork (takeOffer (if verified then eraseVerified b s else eraseFailed b s))

/-- The first word of a bank that is not erased, as slot and word (R147). -/
def NvBank.firstProgrammed (n : NvBank) : Option (Fin 8 × Nat) :=
  allSlots.findSome? fun k => (n.slots[k].firstProgrammed).map fun w => (k, w)

/-- A word that is not erased makes a slot the index holds as BLANK VOID (R147). -/
def markFound (b : Fin 4) (found : Option (Fin 8 × Nat)) (t : TripStore) : TripStore :=
  match found with
  | some (k, _) =>
    if t.banks[b].slots[k].state = .blank then
      t.setBank b (t.banks[b].setSlot k { state := .void, number := none })
    else t
  | none => t

/-- The data2 of a BLANK_CHECK event (R147, R149). -/
def foundData (found : Option (Fin 8 × Nat)) : DWord :=
  match found with
  | some (k, w) => pairData k.val w
  | none => blankData

/-- The end of a blank check (R147).  How a slot the index holds as BLANK comes to read a word that is not erased the
rule does not say; in the model nothing but a program and an erase changes the memory, so no run from reset brings it
about (assumption 41, DESIGN CHOICE). -/
def endBlankCheck (b : Fin 4) (s : State) : State :=
  let found := s.store.nv[b].firstProgrammed
  let s := { s with store := s.store.endWork }
  let s := raiseStore (.bank b) .blankCheck (count32 b.val) (foundData found) s
  chooseWork (takeOffer { s with store := markFound b found s.store })

/-! ### The start-up scan (R130, R131) -/

/-- The trip number in a slot's header (spec 12.5). -/
def NvSlot.headerNumber (n : NvSlot) : DWord := n.word 1 ++ n.word 2

/-- A slot of a stamped bank is classified (R130). -/
def NvSlot.classify (n : NvSlot) : SlotIndex :=
  if n.word 0 = headerMarker then
    { state := if n.word 47 = completionMarker then .valid else .void, number := some n.headerNumber }
  else
    { state := if n.firstProgrammed.isNone then .blank else .void, number := none }

/-- A bank is classified (R130). -/
def NvBank.classify (n : NvBank) : BankIndex :=
  match n.stamp with
  | none => BankIndex.unclassified
  | some count =>
    let slots := Vector.ofFn fun k : Fin 8 => n.slots[k].classify
    { state := stateFromSlots slots
      eraseCount := count
      validCount := (slots.toList.filter fun x => x.state == .valid).length
      slots := slots
      marks := n.marks }

/-- The numbers of a bank's slots of a state. -/
def BankIndex.numbersOf (e : BankIndex) (st : SlotState) : List DWord :=
  e.slots.toList.filterMap fun x => if x.state = st then x.number else none

/-- The larger of two trip numbers. -/
def maxNumber (a b : DWord) : DWord := if a.toNat < b.toNat then b else a

/-- The largest of a list of trip numbers, 0 for none. -/
def largestOf (l : List DWord) : DWord := l.foldl maxNumber 0

/-- The trip numbers of all VALID slots. -/
def TripStore.validNumbers (t : TripStore) : List DWord :=
  (allBanks.map fun b => t.banks[b].numbersOf .valid).flatten

/-- The trip numbers found among VALID slots, VOID slots and number marks. -/
def TripStore.foundNumbers (t : TripStore) : List DWord :=
  (allBanks.map fun b =>
    t.banks[b].numbersOf .valid ++ t.banks[b].numbersOf .void ++ t.banks[b].marks).flatten

/-- Step 1 of R131: one above the largest number found, which is 0 after 4294967295; 1 without VALID
slots. -/
def TripStore.numberAfterScan (t : TripStore) : DWord :=
  if t.validNumbers.isEmpty then 1 else largestOf t.foundNumbers + 1

/-- Step 2 of R131: the bank holding the VALID slot with the largest trip number, else the lowest BLANK
bank, else bank 0. -/
def TripStore.currentAfterScan (t : TripStore) : Fin 4 :=
  if t.validNumbers.isEmpty then (allBanks.find? fun b => t.banks[b].state == .blank).getD 0
  else
    (allBanks.find? fun b =>
      (t.banks[b].numbersOf .valid).contains (largestOf t.validNumbers)).getD 0

/-- The index as the scan leaves it (R130, and steps 1 to 3 of R131). -/
def TripStore.scanned (t : TripStore) : TripStore :=
  let t := { t with banks := Vector.ofFn fun b : Fin 4 => t.nv[b].classify }
  { t with
    nextNumber := t.numberAfterScan
    current := t.currentAfterScan
    queue := t.queue ++ allBanks.filter fun b => t.banks[b].state == .needsErase && !t.queued b }

/-- The end of the scan (R131). -/
def endScan (s : State) : State :=
  let s := { s with store := s.store.scanned }
  let s := raiseStore .none .scanDone (count32 s.store.validTotal) s.store.nextNumber s
  chooseWork (takeOffer { s with store := s.store.endWork })

/-! ### The recorder's freeze and the offer (R117 to R120, R133) -/

/-- The recorder offers its record to the store, which takes it through selection at once if it is IDLE or
ERASING (R120, R133). -/
def offerRecord (s : State) : State :=
  let s := { s with store := { s.store with offer := .newRecord } }
  match s.store.activity with
  | .idle | .erasing => chooseWork (takeOffer s)
  | .scanning | .programming | .blankChecking => s

/-- A value above 65535 is recorded as 65535 (R119). -/
def capWord (n : Nat) : Nat := min n 65535

/-- The trip record as it stands at the freeze (R119). -/
def assembleRecord (reason : PostReason) (s : State) : TripRecord where
  tripNumber := 0
  trigger := s.recorder.trigger
  preCount := s.recorder.preCount
  postCount := s.recorder.postCount
  reason := reason
  valid := s.tab.validFlags
  versions := s.tab.versions
  levels := Vector.ofFn fun c : Fin 6 => s.vib.channels[c].lastLevel
  channelStates := Vector.ofFn fun c : Fin 6 => s.vib.channels[c].state
  ecc := capWord s.load.ecc
  eccValid := s.load.eccValid
  avg := Vector.ofFn fun k : Fin 16 => capWord s.load.avg[k]
  causes := s.trip.list
  overflowCount := s.trip.overflowCount
  snapshots := s.recorder.ring

/-- The freeze (R119): the record is assembled, the POST_LIMIT timer is stopped, the recorder enters FROZEN
and offers the record in the same event (R120). -/
def freeze (reason : PostReason) (s : State) : State :=
  offerRecord { s with recorder := { s.recorder with
    state := .frozen, postTimer := .stopped, ramRecord := some (assembleRecord reason s) } }

/-- The number of snapshots the history ring holds at most (R113). -/
def historySize : Nat := 256

/-- The snapshot of a pace arrival (R114). -/
def snapshot (s : State) : Snapshot where
  pace := s.link.paceCount.extractLsb' 0 16
  tCmd := s.lim.tCmd
  lFwd := s.lim.stack.lFwd
  iqA := s.regA.iqMeas
  iqB := s.regB.iqMeas
  vqA := s.regA.vqLast
  vqB := s.regB.vqLast
  speed := paceSpeed s

/-- The ring with a snapshot appended, the oldest dropped from a full one (R115). -/
def appendSnapshot (x : Snapshot) (ring : List Snapshot) : List Snapshot :=
  newest (historySize - 1) ring ++ [x]

/-- The snapshot of a pace arrival in ARMED or POST, and the end of the post part at its target (R114,
R115, R117). -/
def takeSnapshot (s : State) : State :=
  let ring := appendSnapshot (snapshot s) s.recorder.ring
  match s.recorder.state with
  | .armed => { s with recorder := { s.recorder with ring := ring } }
  | .post =>
    let s := { s with recorder := { s.recorder with ring := ring, postCount := s.recorder.postCount + 1 } }
    if s.recorder.postTarget ≤ s.recorder.postCount then freeze .target s else s
  | .frozen | .writing | .done => s

end Sys2Proof.Machine
end

