-- ==== Sys2Proof/Machine/Feedback.lean ====
section
/-! DEFINITION. FEEDBACK, one arrival with the work of every block it involves (R51 to R64, R12, R17, R38 to
R40, R93, R114, R182), and the feedback timer (R65, R66). -/

namespace Sys2Proof.Machine

/-! ### Acceptance and intake (R181, R51) -/

/-- A pace arrival: the acceptance of a frame of the pace motor (R181). -/
def isPace (m : Motor) (s : State) : Bool := m == paceMotor s

/-- The pace count rises first, then the sequence is judged (R181, R179). -/
def acceptFeedback (m : Motor) (seq : Seq) (s : State) : State :=
  acceptFrame (portOf m) 0 seq
    (if isPace m s then { s with link := { s.link with paceCount := s.link.paceCount + 1 } } else s)

/-- The feedback timer's start: FB_TIMEOUT of the active DRIVE table, or stopped without one (R51, R67). -/
def fbTimerStart (s : State) : Timer :=
  match activeDrive s with
  | some d => .running d.fbTimeout
  | none => .stopped

/-- The derate a temperature forms, 4096 without a DRIVE table (R53). -/
def thermOf (s : State) (temp : Int) : Int :=
  match activeDrive s with
  | some d => thermalDerate temp d.thermStart d.thermEnd
  | none => 4096

/-- Steps 1 to 4 of R51, and the derate of R53 in the regulator. -/
def Regulator.takeIn (r : Regulator) (f : FeedbackFrame) (timer : Timer) (therm : Int) : Regulator :=
  { r with
    seen := true
    lastSeq := f.seq
    idMeas := f.id.toInt
    iqMeas := f.iq.toInt
    speed := f.speed.toInt
    dcLink := f.dcLink.toInt
    temp := clamp (-40) 150 f.temp.toInt
    modState := ModState.ofByte f.modState
    faultCode := f.fault
    missCount := 0
    fbLost := false
    fbTimer := timer
    therm := therm }

/-- A regulator delivers its thermal derate (R27). -/
def deliverTherm (m : Motor) (therm : Int) (s : State) : State :=
  match m with
  | .A => { s with lim := { s.lim with stack := { s.lim.stack with thermA := therm } } }
  | .B => { s with lim := { s.lim with stack := { s.lim.stack with thermB := therm } } }

/-- The intake of a frame, with FB_LOST inactive and the derate delivered (R51, R53). -/
def intake (m : Motor) (f : FeedbackFrame) (s : State) : State :=
  let therm := thermOf s (clamp (-40) 150 f.temp.toInt)
  deliverTherm m therm
    (setCondition ⟨.fbLost, .motor m⟩ false
      (s.setReg m ((s.reg m).takeIn f (fbTimerStart s) therm)))

/-- The OVERTEMP condition of a regulator, handed to the trip controller (R54, R101). -/
def setOvertemp (m : Motor) (on : Bool) (s : State) : State :=
  setCondition ⟨.overtemp, .motor m⟩ on (s.setReg m { s.reg m with overtemp := on })

/-- The MOD_FAULT condition of a regulator (R55, R101). -/
def setModFault (m : Motor) (on : Bool) (s : State) : State :=
  setCondition ⟨.modFault, .motor m⟩ on (s.setReg m { s.reg m with modFault := on })

/-- The FB_LOST condition of a regulator (R66, R101). -/
def setFbLost (m : Motor) (on : Bool) (s : State) : State :=
  setCondition ⟨.fbLost, .motor m⟩ on (s.setReg m { s.reg m with fbLost := on })

/-- The delivery of a cause within a regulator's own arrival or expiry. -/
def ownDelivery (m : Motor) : Delivery := { own := some m, inSetpoint := false }

/-- OVERTEMP at an arrival (R54, R56). -/
def judgeOvertemp (m : Motor) (s : State) : State :=
  match activeDrive s with
  | none => s
  | some d =>
    let t := (s.reg m).temp
    if d.thermEnd ≤ t then
      if d.motorSet.has m then
        deliverCause (ownDelivery m) ⟨.overtemp, .motor m⟩ (data32 t) (setOvertemp m true s)
      else s
    else if t ≤ d.thermStart then setOvertemp m false s
    else s

/-- MOD_FAULT at an arrival (R55, R56). -/
def judgeModFault (m : Motor) (s : State) : State :=
  if (s.reg m).modState = .fault then
    if inDriveSet s m then
      deliverCause (ownDelivery m) ⟨.modFault, .motor m⟩ ((s.reg m).faultCode.setWidth 32)
        (setModFault m true s)
    else s
  else setModFault m false s

/-! ### The run controller's part (R5, R6, R12, R17) -/

/-- A breakaway reaches speed (R12). -/
def speedReached (s : State) : State :=
  compute (raiseBrkEnd .success
    (changeDrive .run .speedReached { s with run := { s.run with brkTimer := .stopped } }))

/-- The run controller's work at a feedback arrival (R52, step 2): an evaluation point in OFF and READY, the
speed comparisons of a pace arrival in BREAKAWAY and STOPPING. -/
def runAtArrival (m : Motor) (s : State) : State :=
  match s.run.state with
  | .off | .ready => if (motorSet s).has m then evaluateReady s else s
  | .breakaway =>
    if isPace m s ∧ (driveFieldsOf s).brkSpeed ≤ mag (s.reg m).speed then speedReached s else s
  | .stopping =>
    if isPace m s ∧ mag (s.reg m).speed < (driveFieldsOf s).stopSpeed then endStop (some m) .stopSpeed s
    else s
  | .resting | .run | .tripped => s

/-! ### Measured torque and overtorque (R38 to R40) -/

/-- The measured torque over the motor set (R38). -/
def measuredTorque (s : State) : Int :=
  let kti := (driveFieldsOf s).kti
  (if (motorSet s).has .A then motorTorque s.regA.iqMeas kti else 0)
  + (if (motorSet s).has .B then motorTorque s.regB.iqMeas kti else 0)

/-- The allowance at this arrival (R39). -/
def allowanceOf (s : State) : Int :=
  allowance (driveFieldsOf s).otLevel (driveFieldsOf s).otEccMax s.load.ecc s.load.eccValid

/-- The persistence count, and the OVERTORQUE cause when it reaches OT_PERSIST (R39, R40). -/
def watchOvertorque (m : Motor) (s : State) : State :=
  if allowanceOf s < (mag s.lim.tMeas : Int) then
    let s := { s with lim := { s.lim with otCount := s.lim.otCount + 1 } }
    if (driveFieldsOf s).otPersist ≤ s.lim.otCount then
      deliverCause (ownDelivery m) ⟨.overtorque, .none⟩ (data32 s.lim.tMeas) s
    else s
  else { s with lim := { s.lim with otCount := 0 } }

/-- The torque limiter's work at a pace arrival in an energised state (R52, step 3). -/
def torqueAtArrival (m : Motor) (s : State) : State :=
  watchOvertorque m { s with lim := { s.lim with tMeas := measuredTorque s } }

/-! ### The answer (R57 to R64) -/

/-- The VCLIP event of a clipped axis (R63): axis 0 is D, 1 is Q. -/
def raiseVclip (m : Motor) (band : Fin 8) (axis : Nat) (a : AxisResult) (s : State) : State :=
  if a.v = a.raw then s
  else raise .vclip (.motor m) (count16 band.val) (count32 axis) (data32 a.raw) s

/-- The GAIN table for a rule that runs only with a valid one. -/
def gainOf (s : State) : GainTable := (activeGain s).getD GainTable.absent

/-- The torque limiter's reference for a motor (R37, R61). -/
def iqRefFor (s : State) (m : Motor) : Int :=
  match m with
  | .A => s.lim.iqRefA
  | .B => s.lim.iqRefB

/-- The band of a regulator's arrival (R59). -/
def bandAt (s : State) (m : Motor) : Fin 8 := bandOf (gainOf s) (mag (s.reg m).speed)

/-- The d axis at an arrival (R61). -/
def dAxis (s : State) (m : Motor) : AxisResult :=
  let r := s.reg m
  let g := (gainOf s).bands[bandAt s m]
  piAxis g.idRef r.idMeas r.intD g.kpD g.kiD g.vdLim

/-- The q axis at an arrival (R61). -/
def qAxis (s : State) (m : Motor) : AxisResult :=
  let r := s.reg m
  let g := (gainOf s).bands[bandAt s m]
  piAxis (iqRefFor s m) r.iqMeas r.intQ g.kpQ g.kiQ g.vqLim

/-- The PI law and the working VCMD (R59 to R64). -/
def answerWorking (m : Motor) (s : State) : State :=
  let b := bandAt s m
  let d := dAxis s m
  let q := qAxis s m
  let r := s.reg m
  let s := s.setReg m { r with band := b, intD := d.int, intQ := q.int }
  let s := raiseVclip m b 1 q (raiseVclip m b 0 d s)
  sendVcmd m { seq := r.lastSeq, vd := d.v, vq := q.v, block := false } s

/-- The answer of a regulator to its frame (R57, R58). -/
def answerFrame (m : Motor) (s : State) : State :=
  if energised s && inDriveSet s m then answerWorking m s else sendBlocking m s

/-! ### Pace work (R52, step 5; R93, R114, R182) -/

/-- The sector of an angle (R88, R93). -/
def sectorOf (angle : Word) : Fin 16 := ⟨angle.toNat / 4096, by have := angle.isLt; omega⟩

/-- The handed torque is gathered while the position is fresh and the sector's count has room (R93). -/
def LoadProfile.gather (l : LoadProfile) (tMeas : Int) : LoadProfile :=
  let k := sectorOf l.lastAngle
  match l.posTimer with
  | .stopped => l
  | .running _ =>
    if l.cnt[k] < 4294967295 then
      { l with acc := l.acc.set k (l.acc[k] + mag tMeas), cnt := l.cnt.set k (l.cnt[k] + 1) }
    else l

def gatherTorque (s : State) : State := { s with load := s.load.gather s.lim.tMeas }

/-- REPORT_PASS and REPORT_MASK, both 0 without a DRIVE table (R182). -/
def reportPattern (s : State) : Nat × Nat :=
  ((activeDrive s).map fun d => (d.reportPass, d.reportMask)).getD (0, 0)

/-- A report is due at this arrival (R182). -/
def reportDue (s : State) : Bool :=
  reportPattern s == (0, 0) || s.link.reportPhase == .pass

/-- The pattern advances by one pace arrival (R182). -/
def Link.advancePattern (l : Link) (pass mask : Nat) : Link :=
  if pass = 0 ∧ mask = 0 then l
  else
    match l.reportPhase with
    | .pass =>
      if l.remaining ≤ 1 then
        if 0 < mask then { l with reportPhase := .mask, remaining := mask } else { l with remaining := pass }
      else { l with remaining := l.remaining - 1 }
    | .mask =>
      if l.remaining ≤ 1 then { l with reportPhase := .pass, remaining := pass }
      else { l with remaining := l.remaining - 1 }

/-- The report as the blocks stand (R182). -/
def reportOf (s : State) : Report where
  drive := s.run.state
  trip := s.trip.latch
  firstCause := if s.trip.latch then s.trip.list.head?.map CauseEntry.id else none
  tCmd := s.lim.tCmd
  lFwd := s.lim.stack.lFwd
  lRev := s.lim.stack.lRev
  iqA := s.regA.iqMeas
  iqB := s.regB.iqMeas
  speed := paceSpeed s
  channels := Vector.ofFn fun c : Fin 6 => s.vib.channels[c].state
  ecc := s.load.ecc
  eccValid := s.load.eccValid
  ringAlert := s.load.ringAlert
  fill := s.log.ring.length
  activity := s.store.activity
  busy := s.store.busy
  sticky := stickyFlags s
  skipped := s.link.skipped

/-- A due report is sent on an idle transmitter with an empty slot, else skipped (R183). -/
def sendReport (s : State) : State :=
  match s.link.slot, s.link.sTx with
  | none, .idle =>
    { s with link := { s.link with
        sTx := .report s.link.outS (reportOf s), outS := s.link.outS + 1, skipped := 0 } }
  | _, _ => { s with link := { s.link with skipped := riseBy s.link.skipped 1 } }

/-- The report of a pace arrival and the pattern's advance (R182). -/
def reportAtArrival (s : State) : State :=
  let pattern := reportPattern s
  let s := if reportDue s then sendReport s else s
  { s with link := s.link.advancePattern pattern.1 pattern.2 }

/-- The pace work of an arrival (R52, step 5); `formed` says whether T_meas was formed in it. -/
def paceWork (formed : Bool) (s : State) : State :=
  reportAtArrival (takeSnapshot (if formed then gatherTorque s else s))

/-! ### The arrival (R52) -/

/-- The steps before the torque limiter's: acceptance, intake, causes, run controller (R52, steps 1 and
2). -/
def arrivalStart (m : Motor) (f : FeedbackFrame) (s : State) : State :=
  runAtArrival m (judgeModFault m (judgeOvertemp m (intake m f (acceptFeedback m f.seq s))))

/-- FEEDBACK (R51, R52). -/
def execFeedback (m : Motor) (f : FeedbackFrame) (s : State) : Host.Outcome State Fault Refusal :=
  let pace := isPace m s
  let s := arrivalStart m f s
  let formed := pace && energised s
  let s := answerFrame m (if formed then torqueAtArrival m s else s)
  .next (if pace then paceWork formed s else s)

/-! ### The feedback timer (R65, R66) -/

/-- The drive is energised and the motor in the motor set: what a blocking command and FB_LOST ask. -/
def driven (s : State) (m : Motor) : Bool := energised s && inDriveSet s m

/-- The miss of a feedback period (R65): the count, FB_MISS, the blocking command, and the timer again. -/
def countFeedbackMiss (m : Motor) (s : State) : State :=
  let blocked := driven s m
  let r := s.reg m
  let s := s.setReg m { r with missCount := riseBy r.missCount 1 }
  let s := raise .fbMiss (.motor m) (count16 (bit blocked 0)) (count32 (s.reg m).missCount)
    (r.lastSeq.setWidth 32) s
  let s := if blocked then sendBlocking m s else s
  s.setReg m { s.reg m with fbTimer := fbTimerStart s }

/-- FB_LOST (R66): the miss count has come to FB_LOSS_LIMIT in an energised state. -/
def checkFbLost (m : Motor) (s : State) : State :=
  if driven s m ∧ (s.reg m).missCount = (driveFieldsOf s).fbLossLimit then
    deliverCause (ownDelivery m) ⟨.fbLost, .motor m⟩ (count32 (s.reg m).missCount) (setFbLost m true s)
  else s

/-- FEEDBACK_TIMER_EXPIRY (R65, R66, R5).  A stopped timer has no expiry (assumption 2). -/
def execFeedbackTimerExpiry (m : Motor) (s : State) : Host.Outcome State Fault Refusal :=
  match (s.reg m).fbTimer with
  | .stopped => .next s
  | .running _ =>
    let s := checkFbLost m (countFeedbackMiss m s)
    .next (if (motorSet s).has m then evaluateReady s else s)

end Sys2Proof.Machine
end

