-- ==== Sys2Proof/Machine/Requests.lean ====
section
/-! DEFINITION. The requests that belong to no other block: IDENTIFY, STATUS_CLEAR and RESTART (R185 to
R187, R24, R49, R112, R126, R163). -/

namespace Sys2Proof.Machine

/-! ### IDENTIFY (R185) -/

/-- The 15 bytes of the answer (spec 12.3).  Two bytes each for vendor, part and revision, and one each for the
bank count and the slots per bank, are the model's reading (assumption 40): the list gives a width for the format
numbers and the words per slot alone. -/
def identity : List Byte :=
  bytes16 0x0056#16 ++ bytes16 0x0D42#16 ++ bytes16 0x0001#16 ++ [1, 1, 1, 1, 1] ++ [4, 8]
  ++ bytes16 (count16 slotWords)

/-- IDENTIFY by its argument bytes (R185, R184). -/
def identify (args : List Byte) (s : State) : Reply :=
  match args with
  | [] => { state := s, answer := .ok, data := identity }
  | _ => refuse .badRequest [] s

/-- IDENTIFY (R185). -/
def execIdentify (r : Request) (s : State) : Host.Outcome State Fault Refusal :=
  .next (serve 1 r (identify r.args) s)

/-! ### STATUS_CLEAR (R186) -/

/-- The error count and then the gap count of ports S, M0, M1 and H (spec 12.3). -/
def portCounts (l : Link) : List Byte :=
  ([0, 1, 2, 3] : List (Fin 4)).flatMap fun p =>
    bytes16 (count16 l.errors[p]) ++ bytes16 (count16 l.gaps[p])

/-- The five sticky flags are cleared. -/
def clearFlags (s : State) : State :=
  { s with
    link := { s.link with overrun := false, linkErrSeen := false }
    log := { s.log with eventMissed := false }
    store := { s.store with programFail := false, eraseFail := false } }

/-- STATUS_CLEAR by its argument bytes (R186, R184). -/
def statusClear (args : List Byte) (s : State) : Reply :=
  match args with
  | [] => { state := clearFlags s, answer := .ok, data := (stickyFlags s).byte :: portCounts s.link }
  | _ => refuse .badRequest [] s

/-- STATUS_CLEAR (R186). -/
def execStatusClear (r : Request) (s : State) : Host.Outcome State Fault Refusal :=
  .next (serve 2 r (statusClear r.args) s)

/-! ### RESTART (R187) -/

/-- The recorder states in which RESTART is refused with RECORDING (R187). -/
def RecorderState.holdsRestart : RecorderState → Bool
  | .frozen | .writing => true
  | .armed | .post | .done => false

/-- Step 1: the run controller takes its reset values, which enters OFF (R24, R40). -/
def restartRun (s : State) : State :=
  { s with run := RunController.reset, lim := s.lim.entering .off }

/-- Step 2: the ring is emptied, the missed count and the counters are 0, and the ALERT condition is
judged again (R163). -/
def restartLog (s : State) : State :=
  judgeAlert { s with log := { s.log with ring := [], missed := 0, counters := Vector.replicate 16 0 } }

/-- Step 3: the DRIVE_STATE record, and the computation of the change (R187, R28, assumption 18). -/
def restartRecord (old : DriveState) (s : State) : State :=
  if old = .off then s else compute (raiseDriveState old.code DriveState.off.code .restart s)

/-- Step 5 (R126). -/
def restartRecorder (s : State) : State := { s with recorder := Recorder.reset }

/-- Step 6 (R49). -/
def restartLimiter (s : State) : State :=
  setCondition ⟨.supLost, .none⟩ false { s with lim := { s.lim with missCount := 0, supLost := false } }

/-- An accepted RESTART, steps 1 to 7 (R187); step 4 is `clearTrip` (R112). -/
def restartAll (s : State) : State :=
  evaluateReady (restartLimiter (restartRecorder (clearTrip
    (restartRecord s.run.state (restartLog (restartRun s))))))

/-- RESTART by its argument bytes (R187, R184). -/
def restart (args : List Byte) (s : State) : Reply :=
  match args with
  | [] =>
    if energised s then refuse .running [] s
    else if s.recorder.state.holdsRestart then refuse .recording [count8 s.recorder.state.code] s
    else { state := restartAll s, answer := .ok, data := [] }
  | _ => refuse .badRequest [] s

/-- RESTART (R187). -/
def execRestart (r : Request) (s : State) : Host.Outcome State Fault Refusal :=
  .next (serve 3 r (restart r.args) s)

end Sys2Proof.Machine
end

