-- ==== Sys2Proof/Machine/Setpoint.lean ====
section
/-! DEFINITION. SETPOINT, and the stall and setpoint timers of the torque limiter (R7 to R9, R16, R18, R29,
R42 to R44). -/

namespace Sys2Proof.Machine

/-- A mode byte of 1 is RUN, every other value STOP (R189). -/
def modeIsRun (mode : Byte) : Bool := mode == 1

/-- Bit 0 of the flag byte is EXT_TRIP (R189). -/
def extTripOf (flags : Byte) : Bool := flags.getLsbD 0

/-- The setpoint timer's start: SP_TIMEOUT of the active DRIVE table, or stopped without one (R29, R43). -/
def spTimerStart (s : State) : Timer :=
  match activeDrive s with
  | some d => .running d.spTimeout
  | none => .stopped

/-- Step 1 of a setpoint, points 1 to 3 (R29). -/
def storeSetpoint (tReq : Word) (supTime : DWord) (s : State) : State :=
  setCondition ⟨.supLost, .none⟩ false
    { s with lim := { s.lim with
        tReq := tReq.toInt, supTime := supTime, missCount := 0, supLost := false, spTimer := spTimerStart s } }

/-- The EXT_TRIP flag of a setpoint (R7, R101): the condition follows it, and a set flag delivers the
cause. -/
def actExtTrip (flag : Bool) (s : State) : State :=
  let s := setCondition ⟨.extTrip, .none⟩ flag { s with trip := { s.trip with extTrip := flag } }
  if flag then deliverCause { own := none, inSetpoint := true } ⟨.extTrip, .none⟩ 0 s else s

/-- A STOP in BREAKAWAY, RESTING or RUN (R16), with the BRK_END of R15. -/
def enterStopping (s : State) : State :=
  let wasBreakaway := inBreakaway s.run.state
  let s := changeDrive .stopping .stopTaken
    { s with run := { s.run with
        brkTimer := .stopped, restTimer := .stopped, stopTimer := .running (driveFieldsOf s).stopTime } }
  if wasBreakaway then raiseBrkEnd .abandoned s else s

/-- Mode STOP (R7, R8). -/
def actStop (s : State) : State :=
  let s := { s with run := { s.run with runEdge := true } }
  match s.run.state with
  | .breakaway | .resting | .run => enterStopping s
  | .off | .ready | .stopping | .tripped => s

/-- The pace motor's most recent speed is at BRK_SPEED or above (R9, R18). -/
def atBrkSpeed (s : State) : Bool := decide ((driveFieldsOf s).brkSpeed ≤ mag (paceSpeed s))

/-- A RUN in READY (R9): taken with the run edge set, refused with it clear. -/
def runInReady (s : State) : State :=
  if s.run.runEdge then
    if atBrkSpeed s then changeDrive .run .runTaken s
    else beginAttempt 1 .runTaken .fromReady s
  else raiseDriveState runRefusedCode DriveState.ready.code .runRefused s

/-- A RUN in STOPPING (R18). -/
def runInStopping (s : State) : State :=
  let s := { s with run := { s.run with stopTimer := .stopped } }
  if atBrkSpeed s then changeDrive .run .runInStop s
  else beginAttempt 1 .runInStop .fromStopping s

/-- Mode RUN (R7). -/
def actRun (s : State) : State :=
  match s.run.state with
  | .ready => runInReady s
  | .stopping => runInStopping s
  | .off | .breakaway | .resting | .run | .tripped => s

/-- Mode and EXT_TRIP handed to the run controller: the flag first, then the mode in the state that
results (R7; R29, point 4). -/
def handOver (flag run : Bool) (s : State) : State :=
  let s := actExtTrip flag s
  if run then actRun s else actStop s

/-- SETPOINT (R29, R28): the frame is accepted, step 1 is taken, and steps 2 to 7 follow. -/
def execSetpoint (seq : Seq) (mode flags : Byte) (tReq : Word) (supTime : DWord) (s : State) :
    Host.Outcome State Fault Refusal :=
  .next (compute (handOver (extTripOf flags) (modeIsRun mode)
    (storeSetpoint tReq supTime (acceptFrame .S 0 seq s))))

/-- STALL_TIMER_EXPIRY (R42).  A stopped timer has no expiry (assumption 2). -/
def execStallTimerExpiry (s : State) : Host.Outcome State Fault Refusal :=
  match s.lim.stallTimer with
  | .stopped => .next s
  | .running _ =>
    .next (deliverCause { own := none, inSetpoint := false } ⟨.stall, .none⟩ (count32 (mag (paceSpeed s)))
      { s with lim := { s.lim with stallTimer := .stopped } })

/-- The miss of a setpoint period (R43): the count, SP_MISS, and the timer again. -/
def countSetpointMiss (s : State) : State :=
  let s := { s with lim := { s.lim with missCount := riseBy s.lim.missCount 1 } }
  let s := raise .spMiss .none 0 (count32 s.lim.missCount) (data32 s.lim.tReq) s
  { s with lim := { s.lim with spTimer := spTimerStart s } }

/-- SUP_LOST (R44): the miss count has come to SP_LOSS_LIMIT in an energised state. -/
def checkSupLost (s : State) : State :=
  if energised s ∧ s.lim.missCount = (driveFieldsOf s).spLossLimit then
    deliverCause { own := none, inSetpoint := false } ⟨.supLost, .none⟩ (count32 s.lim.missCount)
      (setCondition ⟨.supLost, .none⟩ true { s with lim := { s.lim with supLost := true } })
  else s

/-- SETPOINT_TIMER_EXPIRY (R43, R44).  A stopped timer has no expiry (assumption 2). -/
def execSetpointTimerExpiry (s : State) : Host.Outcome State Fault Refusal :=
  match s.lim.spTimer with
  | .stopped => .next s
  | .running _ => .next (checkSupLost (countSetpointMiss s))

end Sys2Proof.Machine
end

