-- ==== Sys2Proof/Machine/TripRequests.lean ====
section
/-! DEFINITION. TRIP_RESET (R107 to R109, R20, R123), TRIP_READ (R144) and POST_LIMIT_EXPIRY (R118). -/

namespace Sys2Proof.Machine

/-! ### TRIP_RESET -/

/-- The condition CAUSE_ACTIVE names (R107): the first entry of the cause list that is in the set, else the
set's first member. -/
def activeCause (t : TripController) : Option CauseId :=
  match t.list.find? fun e => t.active.contains e.id with
  | some e => some e.id
  | none => t.active.head?

/-- Kind and source in a byte each (spec 12.3). -/
def causeBytes (c : CauseId) : List Byte := [count8 c.kind.code, c.source.code.setWidth 8]

/-- Step 3 of R108: the recorder re-arms (R123). -/
def rearm (s : State) : State :=
  { s with recorder := { s.recorder with
      state := .armed, ring := [], preCount := 0, postCount := 0, postTarget := 0, ramRecord := none } }

/-- The TRIP_RESET event (R109). -/
def raiseTripReset (entries overflow : Nat) (s : State) : State :=
  raise .tripReset .none 0 (count32 entries) (count32 overflow) s

/-- An accepted TRIP_RESET, steps 1 to 5 (R108, R20, R28). -/
def acceptTripReset (s : State) : State :=
  compute (enterReadyOrOff .tripReset
    (raiseTripReset s.trip.list.length s.trip.overflowCount (rearm (clearTrip s))))

/-- TRIP_RESET by its argument bytes (R107, R184). -/
def tripReset (args : List Byte) (s : State) : Reply :=
  match args with
  | [] =>
    if s.trip.latch = false then refuse .notTripped [] s
    else
      match activeCause s.trip with
      | some c => refuse .causeActive (causeBytes c) s
      | none =>
        if s.recorder.state = .done then
          { state := acceptTripReset s, answer := .ok,
            data := [count8 s.trip.list.length, count8 s.trip.overflowCount] }
        else refuse .recording [count8 s.recorder.state.code] s
  | _ => refuse .badRequest [] s

/-- TRIP_RESET (R107, R108). -/
def execTripReset (r : Request) (s : State) : Host.Outcome State Fault Refusal :=
  .next (serve 11 r (tripReset r.args) s)

/-! ### TRIP_READ (R144) -/

/-- A slot of the index carries a number as a VALID or WRITING record. -/
def SlotIndex.carries (x : SlotIndex) (n : DWord) : Bool :=
  (x.state == .valid || x.state == .writing) && x.number == some n

/-- The slot of a bank that carries a number. -/
def BankIndex.slotOf (e : BankIndex) (n : DWord) : Option (Fin 8) :=
  allSlots.find? fun k => e.slots[k].carries n

/-- The bank and slot that carry a number. -/
def TripStore.locate (t : TripStore) (n : DWord) : Option (Fin 4 × Fin 8) :=
  allBanks.findSome? fun b => (t.banks[b].slotOf n).map fun k => (b, k)

/-- A program is running in a bank. -/
def TripStore.programsIn (t : TripStore) (b : Fin 4) : Bool :=
  match t.program with
  | some p => p.bank == b
  | none => false

/-- A bank whose records cannot be read (R144, check 4). -/
def TripStore.bankBusy (t : TripStore) (b : Fin 4) : Bool :=
  t.banks[b].state == .erasing || t.banks[b].state == .eraseSuspended || t.programsIn b

/-- Eight words as 16 bytes, in the order of the burst (R144). -/
def burstBytes (word : Nat → Word) (offset l : Nat) : List Byte :=
  (burstOffsets offset l).flatMap fun o => bytes16 (word o)

/-- TRIP_READ of a number within the record (R144, checks 2 to 4). -/
def readRecord (n : DWord) (offset l : Nat) (s : State) : Reply :=
  if s.store.activity = .scanning then refuse .scanning [] s
  else if n = 0 then
    match s.recorder.ramRecord with
    | some r => { state := s, answer := .ok, data := burstBytes r.word offset l }
    | none => refuse .noRecord [] s
  else
    match s.store.locate n with
    | none => refuse .noRecord [] s
    | some (b, k) =>
      if s.store.bankBusy b then refuse .bankBusy [] s
      else { state := s, answer := .ok, data := burstBytes s.store.nv[b].slots[k].word offset l }

/-- TRIP_READ by its argument bytes (R144, R184). -/
def tripRead (args : List Byte) (s : State) : Reply :=
  match args with
  | [n3, n2, n1, n0, o1, o0, l] =>
    if (l.toNat = 8 ∨ l.toNat = 16) ∧ (be16 o1 o0).toNat < slotWords then
      readRecord (be32 n3 n2 n1 n0) (be16 o1 o0).toNat l.toNat s
    else refuse .badRequest [] s
  | _ => refuse .badRequest [] s

/-- TRIP_READ (R144). -/
def execTripRead (r : Request) (s : State) : Host.Outcome State Fault Refusal :=
  .next (serve 12 r (tripRead r.args) s)

/-! ### POST_LIMIT_EXPIRY (R118) -/

/-- POST_LIMIT_EXPIRY (R118).  The timer runs in POST alone; a stopped one has no expiry (assumption 2). -/
def execPostLimitExpiry (s : State) : Host.Outcome State Fault Refusal :=
  match s.recorder.postTimer with
  | .stopped => .next s
  | .running _ => .next (freeze .limit s)

end Sys2Proof.Machine
end

