-- ==== Sys2Proof/Machine/StoreRequests.lean ====
section
/-! DEFINITION. The requests to the trip store (R145 to R148) and the ends of its work (R131, R137, R138,
R142, R147). -/

namespace Sys2Proof.Machine

/-! ### STORE_TRIM (R145) -/

/-- The smaller of two trip numbers. -/
def minNumber (a b : DWord) : DWord := if b.toNat < a.toNat then b else a

/-- The smallest of the VALID trip numbers, none without VALID slots. -/
def TripStore.smallestValid (t : TripStore) : Option DWord :=
  match t.validNumbers with
  | [] => none
  | n :: rest => some (rest.foldl minNumber n)

/-- The bank holding the VALID slot with the smallest trip number (R145). -/
def TripStore.oldestBank (t : TripStore) : Option (Fin 4) :=
  match t.smallestValid with
  | some n => allBanks.find? fun b => (t.banks[b].numbersOf .valid).contains n
  | none => none

/-- An accepted STORE_TRIM of a bank (R145): it joins the queue, and the next work is chosen (R140).  Where
another bank, held back for want of a free mark, heads the queue, that bank is taken up first (the model's
choice, assumption 35). -/
def trimBank (b : Fin 4) (s : State) : Reply where
  state := chooseWork { s with store := s.store.join b }
  answer := .accepted
  data := [count8 b.val, count8 s.store.banks[b].validCount]

/-- STORE_TRIM by its argument bytes (R145, R184). -/
def storeTrim (args : List Byte) (s : State) : Reply :=
  match args with
  | [] =>
    match s.store.activity with
    | .scanning => refuse .scanning [] s
    | .idle =>
      match s.store.oldestBank with
      | some b => trimBank b s
      | none => refuse .noRecord [] s
    | .programming | .erasing | .blankChecking => refuse .busy [] s
  | _ => refuse .badRequest [] s

/-- STORE_TRIM (R145). -/
def execStoreTrim (r : Request) (s : State) : Host.Outcome State Fault Refusal :=
  .next (serve 13 r (storeTrim r.args) s)

/-! ### STORE_ERASE_ALL (R146) -/

/-- The banks that join the queue: neither RETIRED nor BLANK nor in it already, in rotation from the bank
after the current one, the current bank last (R146, assumption 16). -/
def TripStore.toErase (t : TripStore) : List (Fin 4) :=
  (rotationAfter t.current ++ [t.current]).filter fun b =>
    t.banks[b].state != .retired && t.banks[b].state != .blank && !t.queued b

/-- An accepted STORE_ERASE_ALL: banks join, the flag is set and the first erase begins, or there is nothing
to erase (R146). -/
def eraseAllBanks (s : State) : Reply :=
  let banks := s.store.toErase
  if banks = [] then { state := s, answer := .ok, data := [0] }
  else
    { state := chooseWork { s with store := { s.store with queue := s.store.queue ++ banks, eraseAll := true } }
      answer := .accepted
      data := [count8 banks.length] }

/-- STORE_ERASE_ALL by its argument bytes (R146, R184). -/
def storeEraseAll (args : List Byte) (s : State) : Reply :=
  match args with
  | [] =>
    match s.store.activity with
    | .scanning => refuse .scanning [] s
    | .idle => eraseAllBanks s
    | .programming | .erasing | .blankChecking => refuse .busy [] s
  | _ => refuse .badRequest [] s

/-- STORE_ERASE_ALL (R146). -/
def execStoreEraseAll (r : Request) (s : State) : Host.Outcome State Fault Refusal :=
  .next (serve 14 r (storeEraseAll r.args) s)

/-! ### STORE_BLANK_CHECK (R147) -/

/-- A check begins: BLANK_CHECKING with the bank as the busy bank. -/
def TripStore.beginCheck (t : TripStore) (b : Fin 4) : TripStore :=
  { t with activity := .blankChecking, busy := some b }

/-- STORE_BLANK_CHECK of a bank that exists (R147, checks 2 to 4). -/
def checkBank (b : Fin 4) (s : State) : Reply :=
  if s.store.activity = .scanning then refuse .scanning [] s
  else if s.store.bankBusy b then refuse .bankBusy [] s
  else if s.store.activity = .idle then
    { state := { s with store := s.store.beginCheck b }, answer := .accepted, data := [] }
  else refuse .busy [] s

/-- STORE_BLANK_CHECK by its argument bytes (R147, R184). -/
def storeBlankCheck (args : List Byte) (s : State) : Reply :=
  match args with
  | [n] => if h : n.toNat < 4 then checkBank ⟨n.toNat, h⟩ s else refuse .badRequest [] s
  | _ => refuse .badRequest [] s

/-- STORE_BLANK_CHECK (R147). -/
def execStoreBlankCheck (r : Request) (s : State) : Host.Outcome State Fault Refusal :=
  .next (serve 15 r (storeBlankCheck r.args) s)

/-! ### STORE_STATUS (R148) -/

/-- One bank's three bytes (spec 12.3). -/
def BankIndex.statusBytes (e : BankIndex) : List Byte :=
  count8 (e.state.code * 16 + e.validCount) :: bytes16 (count16 e.eraseCount)

/-- The 26 bytes of the answer (spec 12.3). -/
def TripStore.statusBytes (t : TripStore) : List Byte :=
  [activityByte t.activity t.busy]
  ++ t.banks[0].statusBytes ++ t.banks[1].statusBytes ++ t.banks[2].statusBytes ++ t.banks[3].statusBytes
  ++ bytes32 t.nextNumber
  ++ bytes16 (count16 t.overwritten) ++ bytes16 (count16 t.missed)
  ++ bytes16 (count16 t.programFails) ++ bytes16 (count16 t.eraseFails)
  ++ [count8 (bit t.programFail 0 + bit t.eraseFail 1)]

/-- STORE_STATUS by its argument bytes (R148, R184). -/
def storeStatus (args : List Byte) (s : State) : Reply :=
  match args with
  | [] =>
    if s.store.activity = .scanning then refuse .scanning [] s
    else { state := s, answer := .ok, data := s.store.statusBytes }
  | _ => refuse .badRequest [] s

/-- STORE_STATUS (R148). -/
def execStoreStatus (r : Request) (s : State) : Host.Outcome State Fault Refusal :=
  .next (serve 16 r (storeStatus r.args) s)

/-! ### The ends of store work -/

/-- SCAN_END (R131).  Where no scan runs there is none to end (assumption 2). -/
def execScanEnd (s : State) : Host.Outcome State Fault Refusal :=
  match s.store.activity with
  | .scanning => .next (endScan s)
  | .idle | .programming | .erasing | .blankChecking => .next s

/-- PROGRAM_COMPLETION (R137, R138).  Where no program runs there is none to complete (assumption 2). -/
def execProgramCompletion (took : Bool) (s : State) : Host.Outcome State Fault Refusal :=
  match s.store.activity, s.store.program with
  | .programming, some p => .next (endProgram took p s)
  | _, _ => .next s

/-- ERASE_COMPLETION (R142).  Where no erase runs there is none to complete (assumption 2). -/
def execEraseCompletion (verified : Bool) (s : State) : Host.Outcome State Fault Refusal :=
  match s.store.activity, s.store.busy with
  | .erasing, some b => .next (endErase verified b s)
  | _, _ => .next s

/-- BLANK_CHECK_COMPLETION (R147).  Where no check runs there is none to complete (assumption 2). -/
def execBlankCheckCompletion (s : State) : Host.Outcome State Fault Refusal :=
  match s.store.activity, s.store.busy with
  | .blankChecking, some b => .next (endBlankCheck b s)
  | _, _ => .next s

end Sys2Proof.Machine
end

