-- ==== Sys2Proof/Machine/Shell.lean ====
section
/-! DEFINITION. POSITION and POSITION_TIMER_EXPIRY, and the load profile unit's part of a VIB commit (R89 to
R97). -/

namespace Sys2Proof.Machine

/-! ### The ring alert (R95) -/

/-- The ring alert against the thresholds (R95). -/
def ringAlertAfter (t : VibTable) (l : LoadProfile) : Bool :=
  if l.eccValid ∧ t.ringAlert ≤ l.ecc then true
  else if l.ecc < t.ringClear then false
  else l.ringAlert

/-- The ring alert takes a value; a change is judged for the ALERT line (R158) and raises RING_STATE
(R95). -/
def setRingAlert (on : Bool) (reason : RingReason) (s : State) : State :=
  if s.load.ringAlert = on then s
  else
    raise .ringState .none (count16 reason.code) (count32 (bit on 0)) (count32 s.load.ecc)
      (judgeAlert { s with load := { s.load with ringAlert := on } })

/-- The ring alert is judged (R95). -/
def judgeRing (t : VibTable) (reason : RingReason) (s : State) : State :=
  setRingAlert (ringAlertAfter t s.load) reason s

/-! ### Revolutions (R90 to R92) -/

/-- The kinds of a POSITION arrival with a reference (R90). -/
inductive AngleStep where
  | forward | reverse | step
  deriving DecidableEq, Repr

/-- The new angle `a` compared with the last angle `p` (R90). -/
def angleStep (a p : Word) : AngleStep :=
  if p.toNat > a.toNat + 32768 then .forward
  else if a.toNat > p.toNat + 32768 then .reverse
  else .step

/-- Accumulators and counts are cleared. -/
def LoadProfile.clearSums (l : LoadProfile) : LoadProfile :=
  { l with acc := Vector.replicate 16 0, cnt := Vector.replicate 16 0 }

/-- Every sector was gathered (R91). -/
def LoadProfile.complete (l : LoadProfile) : Bool := l.cnt.toList.all fun n => 1 ≤ n

/-- The sector averages of the revolution (R91). -/
def LoadProfile.averages (l : LoadProfile) : Vector Nat 16 := Vector.ofFn fun k : Fin 16 => l.acc[k] / l.cnt[k]

/-- The largest of the averages less the smallest (R91). -/
def spread (avg : Vector Nat 16) : Nat :=
  avg.toList.foldl max 0 - avg.toList.foldl min avg[0]

/-- A forward revolution closes (R91). -/
def closeRevolution (t : VibTable) (s : State) : State :=
  let s := if s.load.complete then
      judgeRing t .revolution
        { s with load := { s.load with
            avg := s.load.averages, ecc := spread s.load.averages, eccValid := true } }
    else s
  { s with load := s.load.clearSums }

/-- The arrival judged against the last angle (R90 to R92). -/
def judgeAngle (t : VibTable) (angle : Word) (s : State) : State :=
  let s := match angleStep angle s.load.lastAngle with
    | .forward => closeRevolution t s
    | .reverse => { s with load := s.load.clearSums }
    | .step => s
  { s with load := { s.load with lastAngle := angle } }

/-- A POSITION frame under a VIB table (R89). -/
def takePosition (t : VibTable) (angle : Word) (s : State) : State :=
  let timed := { s with load := { s.load with posTimer := .running t.posTimeout } }
  if s.load.refPresent then judgeAngle t angle timed
  else { timed with load := { timed.load with refPresent := true, lastAngle := angle } }

/-- POSITION (R89): without a VIB table the frame is discarded. -/
def execPosition (seq : Seq) (angle : Word) (s : State) : Host.Outcome State Fault Refusal :=
  let s := acceptFrame .H 7 seq s
  match activeVib s with
  | none => .next s
  | some t => .next (takePosition t angle s)

/-- The position is lost (R94). -/
def losePosition (s : State) : State :=
  setRingAlert false .timeout
    { s with load := { s.load.clearSums with refPresent := false, posTimer := .stopped, eccValid := false } }

/-- POSITION_TIMER_EXPIRY (R94).  A stopped timer has no expiry (assumption 2). -/
def execPositionTimerExpiry (s : State) : Host.Outcome State Fault Refusal :=
  match s.load.posTimer with
  | .stopped => .next s
  | .running _ => .next (losePosition s)

/-- The load profile unit's part of a VIB commit (R97). -/
def shellCommit (s : State) : State :=
  match activeVib s with
  | some t => judgeRing t .commit s
  | none => s

end Sys2Proof.Machine
end

