-- ==== Sys2Proof/Machine/Vibration.lean ====
section
/-! DEFINITION. VIBSAMPLE, SILENCE_TIMER_EXPIRY and VIB_RESTART, and the vibration watch's part of a VIB
commit (R73 to R85). -/

namespace Sys2Proof.Machine

/-- The six channels in order. -/
def allChannels : List (Fin 6) := [0, 1, 2, 3, 4, 5]

/-- One channel's record is replaced. -/
def setChannel (c : Fin 6) (x : Channel) (s : State) : State :=
  { s with vib := { s.vib with channels := s.vib.channels.set c x } }

/-- The channel's entry of the active VIB table. -/
def channelConfig (s : State) (c : Fin 6) : Option ChannelConfig := (activeVib s).map fun t => t.channels[c]

/-! ### The vibration derate (R82) -/

/-- The channel counts toward the vibration derate (R72, R82). -/
def Channel.derates (x : Channel) (required : Bool) : Bool :=
  match x.state with
  | .alert | .danger => true
  | .silent => required
  | .off | .normal => false

/-- The least factor among the channels that count, 4096 for none (R82). -/
def vibrationDerate (t : VibTable) (channels : Vector Channel 6) : Int :=
  allChannels.foldl (fun d c =>
    if channels[c].derates t.channels[c].required then min d t.channels[c].factor else d) 4096

/-- The vibration derate as the channels stand; 4096 without a VIB table, when every channel is OFF. -/
def derateNow (s : State) : Int :=
  match activeVib s with
  | some t => vibrationDerate t s.vib.channels
  | none => 4096

/-- The derate is recomputed and delivered (R26, R82). -/
def deliverVibDerate (s : State) : State :=
  { s with
    vib := { s.vib with derate := derateNow s }
    lim := { s.lim with stack := { s.lim.stack with vibDerate := derateNow s } } }

/-! ### Changes of a channel's state (R78 to R80) -/

/-- The VIB_STATE event (R80). -/
def raiseVibState (c : Fin 6) (old new : ChannelState) (reason : VibReason) (level : Nat) (s : State) : State :=
  raise .vibState (.channel c) (count16 reason.code) (vibStateData old new) (count32 level) s

/-- The VIB_DANGER condition of a channel, handed to the trip controller (R79, R101). -/
def setVibDanger (c : Fin 6) (on : Bool) (s : State) : State :=
  setCondition ⟨.vibDanger, .channel c⟩ on (setChannel c { s.vib.channels[c] with danger := on } s)

/-- A channel leaves its state for another: the ALERT condition is judged (R158), VIB_STATE is raised, and
a DANGER left makes VIB_DANGER inactive (R78, points 1 and 2). -/
def changeChannel (c : Fin 6) (new : ChannelState) (reason : VibReason) (level : Nat) (s : State) : State :=
  let old := s.vib.channels[c].state
  if old = new then s
  else
    let s := judgeAlert (setChannel c { s.vib.channels[c] with state := new } s)
    let s := raiseVibState c old new reason level s
    if old = .danger then setVibDanger c false s else s

/-- The VIB_DANGER condition and cause of a channel that enters DANGER (R79). -/
def enterDanger (c : Fin 6) (level : Nat) (s : State) : State :=
  deliverCause { own := none, inSetpoint := false } ⟨.vibDanger, .channel c⟩ (count32 level)
    (setVibDanger c true s)

/-- The window is discarded: GATHER, nothing gathered (R81, R83). -/
def Channel.emptyWindow (x : Channel) : Channel :=
  { x with phase := .gather, acc := 0, frames := 0, overrange := false }

/-! ### Windows (R74 to R78) -/

/-- The persistence count after a window (R77). -/
def persistAfter (cfg : ChannelConfig) (count level : Nat) : Nat :=
  if cfg.danger ≤ level then min (count + 1) cfg.persist else 0

/-- The new state from the present one, the persistence count and the level (R78). -/
def stateAfterWindow (cfg : ChannelConfig) (state : ChannelState) (count level : Nat) : ChannelState :=
  match state with
  | .off => .off
  | .silent | .normal =>
    if cfg.danger ≤ level then (if count = cfg.persist then .danger else .alert)
    else if cfg.alert ≤ level then .alert
    else .normal
  | .alert =>
    if cfg.danger ≤ level then (if count = cfg.persist then .danger else .alert)
    else if cfg.clear ≤ level then .alert
    else .normal
  | .danger =>
    if cfg.danger ≤ level then .danger
    else if cfg.clear ≤ level then .alert
    else .normal

/-- What the window leaves for the next one (R75, step 6). -/
def Channel.nextWindow (x : Channel) (gap : Nat) : Channel :=
  if 0 < gap then { x with phase := .skip, frames := 0 } else x.emptyWindow

/-- The level of a channel's complete window (R75, steps 1 to 3). -/
def Channel.level (x : Channel) (cfg : ChannelConfig) : Nat :=
  liftLevel x.overrange cfg.alert (windowLevel x.acc cfg.window)

/-- Steps 4 and 5 of R75: last level and persistence count stored, the state changed with what follows
(R77, R78). -/
def judgeWindow (c : Fin 6) (cfg : ChannelConfig) (s : State) : State :=
  let x := s.vib.channels[c]
  let level := x.level cfg
  let count := persistAfter cfg x.persist level
  let new := stateAfterWindow cfg x.state count level
  let s := setChannel c { x with lastLevel := level, persist := count } s
  if x.state = new then s
  else
    let s := deliverVibDerate (changeChannel c new .window level s)
    if new = .danger then enterDanger c level s else s

/-- A window evaluation (R75). -/
def evaluateWindow (c : Fin 6) (cfg : ChannelConfig) (s : State) : State :=
  let s := judgeWindow c cfg s
  setChannel c (s.vib.channels[c].nextWindow cfg.gap) s

/-- A frame in GATHER, before the evaluation it may bring (R74). -/
def Channel.gathered (x : Channel) (samples : Vector Word 8) : Channel :=
  { x with
    acc := x.acc + sumSquares samples
    overrange := x.overrange || hasFullScale samples
    frames := x.frames + 1 }

/-- A frame in SKIP (R76). -/
def Channel.skipped (x : Channel) (gap : Nat) : Channel :=
  if gap ≤ x.frames + 1 then x.emptyWindow else { x with frames := x.frames + 1 }

/-- A frame taken by the phase the channel is in, its silence timer restarted (R73). -/
def takeFrame (c : Fin 6) (cfg : ChannelConfig) (samples : Vector Word 8) (s : State) : State :=
  let x := { s.vib.channels[c] with silenceTimer := .running cfg.silenceTime }
  match x.phase with
  | .gather =>
    let s := setChannel c (x.gathered samples) s
    if x.frames + 1 = cfg.window then evaluateWindow c cfg s else s
  | .skip => setChannel c (x.skipped cfg.gap) s

/-- VIBSAMPLE (R73): an OFF channel discards its frames. -/
def execVibSample (c : Fin 6) (seq : Seq) (samples : Vector Word 8) (s : State) :
    Host.Outcome State Fault Refusal :=
  let s := acceptFrame .H ⟨c.val, by have := c.isLt; omega⟩ seq s
  match s.vib.channels[c].state, channelConfig s c with
  | .off, _ => .next s
  | _, none => .next s
  | _, some cfg => .next (takeFrame c cfg samples s)

/-! ### Silence (R81) -/

/-- The change of state of a silent channel, with the derate (R81). -/
def fallSilent (c : Fin 6) (s : State) : State :=
  if s.vib.channels[c].state = .silent then s
  else deliverVibDerate (changeChannel c .silent .silence s.vib.channels[c].lastLevel s)

/-- SILENCE_TIMER_EXPIRY (R81).  A stopped timer has no expiry (assumption 2). -/
def execSilenceTimerExpiry (c : Fin 6) (s : State) : Host.Outcome State Fault Refusal :=
  match s.vib.channels[c].silenceTimer with
  | .stopped => .next s
  | .running _ =>
    .next (fallSilent c (setChannel c
      { s.vib.channels[c].emptyWindow with persist := 0, silenceTimer := .stopped } s))

/-! ### Restarts (R83, R85) -/

/-- The working state of a restarted or disabled channel is cleared (R83, R85). -/
def Channel.cleared (x : Channel) : Channel :=
  { x.emptyWindow with persist := 0, lastLevel := 0, silenceTimer := .stopped }

/-- A channel is put into a state with its record cleared; the VIB_STATE record carries the last level held
before (R80, assumption 12). -/
def restartChannel (c : Fin 6) (into : ChannelState) (reason : VibReason) (s : State) : State :=
  let s := changeChannel c into reason s.vib.channels[c].lastLevel s
  setChannel c s.vib.channels[c].cleared s

/-- The channel is enabled in the active VIB table. -/
def channelEnabled (s : State) (c : Fin 6) : Bool := ((channelConfig s c).map ChannelConfig.enable).getD false

/-- VIB_RESTART of a channel that exists (R83): an enabled one is restarted, a disabled one stays OFF; the
derate is delivered in either case. -/
def vibRestartChannel (c : Fin 6) (s : State) : Reply :=
  let s := if channelEnabled s c then restartChannel c .silent .restart s else s
  let s := deliverVibDerate s
  { state := s, answer := .ok, data := count8 s.vib.channels[c].state.code :: bytes16 (word16 s.vib.derate) }

/-- VIB_RESTART by its argument bytes (R83, R184). -/
def vibRestart (args : List Byte) (s : State) : Reply :=
  match args with
  | [n] =>
    if h : n.toNat < 6 then vibRestartChannel ⟨n.toNat, h⟩ s else refuse .badRequest [] s
  | _ => refuse .badRequest [] s

/-- VIB_RESTART (R83). -/
def execVibRestart (r : Request) (s : State) : Host.Outcome State Fault Refusal :=
  .next (serve 19 r (vibRestart r.args) s)

/-- A channel is set up under a new VIB image: SILENT where enabled, OFF where disabled (R85). -/
def setUpChannel (c : Fin 6) (s : State) : State :=
  restartChannel c (if channelEnabled s c then .silent else .off) .commit s

/-- The vibration watch's part of a VIB commit (R85). -/
def vibCommit (s : State) : State :=
  deliverVibDerate (allChannels.foldl (fun s c => setUpChannel c s) s)

end Sys2Proof.Machine
end

