-- ==== Sys2Proof/Machine/Tables.lean ====
section
/-! DEFINITION. The table manager: staging, commits, reading back, lock bits and the LOCK line (R164 to R175),
with what a commit brings to the owners (R21, R56, R85, R97, R161, R182). -/

namespace Sys2Proof.Machine

/-! ### Buffers (R164) -/

/-- Staging buffer 0 (false) or 1 (true). -/
def TableManager.buffer (t : TableManager) (n : Bool) : Option Staging := if n then t.buf1 else t.buf0

def TableManager.setBuffer (t : TableManager) (n : Bool) (b : Option Staging) : TableManager :=
  if n then { t with buf1 := b } else { t with buf0 := b }

/-- The staging buffer of the model's state is replaced. -/
def setBuffer (n : Bool) (b : Option Staging) (s : State) : State := { s with tab := s.tab.setBuffer n b }

/-- The buffer's number as it is answered. -/
def bufferByte (n : Bool) : Byte := if n then 1 else 0

/-- The buffer a byte names. -/
def bufferOfByte (b : Byte) : Option Bool :=
  match b.toNat with
  | 0 => some false
  | 1 => some true
  | _ => none

/-- The FILLING buffer a byte names, with its number (R168, R169). -/
def fillingBuffer (s : State) (b : Byte) : Option (Bool × Staging) :=
  match bufferOfByte b with
  | some n => (s.tab.buffer n).map fun x => (n, x)
  | none => none

/-- A buffer is FILLING for a table. -/
def fills (b : Option Staging) (t : TableId) : Bool :=
  match b with
  | some x => x.table == t
  | none => false

/-- The number of the buffer FILLING for a table (R166). -/
def TableManager.fillingFor (m : TableManager) (t : TableId) : Option Bool :=
  if fills m.buf0 t then some false else if fills m.buf1 t then some true else none

/-- The buffer a TABLE_OPEN takes: 0 if it is FREE, otherwise 1 (R166). -/
def TableManager.freeBuffer (m : TableManager) : Option Bool :=
  if m.buf0.isNone then some false else if m.buf1.isNone then some true else none

/-! ### TABLE_OPEN (R166) -/

/-- A buffer as TABLE_OPEN leaves it: the header in positions 0 to 5, all else unwritten. -/
def Staging.opened (t : TableId) (version : Word) (len : Nat) : Staging where
  table := t
  version := version
  length := len
  cells := Cells.writeAll [] 0 (imageHeader t version len)

/-- TABLE_OPEN of a table at an allowed length (R166, checks 2 and 3). -/
def openTable (t : TableId) (version : Word) (len : Nat) (s : State) : Reply :=
  match s.tab.fillingFor t, s.tab.freeBuffer with
  | some n, _ => refuse .inUse [bufferByte n] s
  | none, none => refuse .noBuffer [] s
  | none, some n =>
    { state := setBuffer n (some (Staging.opened t version len)) s, answer := .ok, data := [bufferByte n] }

/-- TABLE_OPEN by its argument bytes (R166, R184). -/
def tableOpen (args : List Byte) (s : State) : Reply :=
  match args with
  | [t, v1, v0, l1, l0] =>
    match TableId.ofByte t with
    | some t =>
      if lengthOk t (be16 l1 l0).toNat then openTable t (be16 v1 v0) (be16 l1 l0).toNat s
      else refuse .badRequest [] s
    | none => refuse .badRequest [] s
  | _ => refuse .badRequest [] s

/-- TABLE_OPEN (R166). -/
def execTableOpen (r : Request) (s : State) : Host.Outcome State Fault Refusal :=
  .next (serve 4 r (tableOpen r.args) s)

/-! ### TABLE_WRITE (R167) -/

/-- The buffer a position byte names, in bit 7. -/
def positionBuffer (pos : Byte) : Bool := pos.getLsbD 7

/-- The image offset a position byte names: bits 6 to 0, and 6. -/
def positionOffset (pos : Byte) : Nat := (pos.extractLsb' 0 7).toNat + 6

/-- A buffer with a run of bytes stored (R167). -/
def Staging.stored (b : Staging) (offset : Nat) (bytes : List Byte) : Staging :=
  { b with cells := Cells.writeAll b.cells offset bytes }

/-- The count of bytes written and the highest offset, two bytes each. -/
def Staging.progress (b : Staging) : List Byte :=
  bytes16 (count16 b.written) ++ bytes16 (count16 b.highest)

/-- TABLE_WRITE of 1 to 28 bytes (R167). -/
def writeTable (n : Bool) (offset : Nat) (bytes : List Byte) (s : State) : Reply :=
  match s.tab.buffer n with
  | none => refuse .badRequest [] s
  | some b =>
    if b.length < offset + bytes.length then refuse .badLength [] s
    else
      { state := setBuffer n (some (b.stored offset bytes)) s, answer := .ok,
        data := (b.stored offset bytes).progress }

/-- TABLE_WRITE by its argument bytes (R167, R184). -/
def tableWrite (args : List Byte) (s : State) : Reply :=
  match args with
  | pos :: bytes =>
    if 1 ≤ bytes.length ∧ bytes.length ≤ 28 then
      writeTable (positionBuffer pos) (positionOffset pos) bytes s
    else refuse .badRequest [] s
  | [] => refuse .badRequest [] s

/-- TABLE_WRITE (R167). -/
def execTableWrite (r : Request) (s : State) : Host.Outcome State Fault Refusal :=
  .next (serve 5 r (tableWrite r.args) s)

/-! ### TABLE_ABORT (R168) -/

/-- TABLE_ABORT by its argument bytes (R168, R184). -/
def tableAbort (args : List Byte) (s : State) : Reply :=
  match args with
  | [b] =>
    match fillingBuffer s b with
    | some (n, x) => { state := setBuffer n none s, answer := .ok, data := [count8 x.table.code] }
    | none => refuse .badRequest [] s
  | _ => refuse .badRequest [] s

/-- TABLE_ABORT (R168). -/
def execTableAbort (r : Request) (s : State) : Host.Outcome State Fault Refusal :=
  .next (serve 7 r (tableAbort r.args) s)

/-! ### Accepted commits: the owners (R171, step 3) -/

/-- The line and the timer at an EVENT commit, before the judgement (R161, step 3): a change to PULSE
releases the line, a change to LEVEL stops the timer. -/
def EventLog.changeMode (old new : AlertMode) (l : EventLog) : EventLog :=
  match old, new with
  | .level, .pulse => { l with alertLine := false, pulseTimer := .stopped }
  | .pulse, .level => { l with pulseTimer := .stopped }
  | .level, .level | .pulse, .pulse => l

/-- The judgement of an EVENT commit (R161, step 4): the condition a change to PULSE finds holding is not a
rise. -/
def EventLog.judgeCommit (old : AlertMode) (t : EventTable) (inputs : Bool) (l : EventLog) : EventLog :=
  match old, t.alertMode with
  | .level, .pulse => { l with alertCond := l.condition t inputs }
  | .level, .level | .pulse, .pulse | .pulse, .level => l.judge t inputs

/-- The event log at an EVENT commit (R161), the mode before it given. -/
def eventCommit (old : AlertMode) (s : State) : State :=
  let t := eventTable s
  let l := ({ s.log with counters := Vector.replicate 16 0 } : EventLog).changeMode old t.alertMode
  { s with log := l.judgeCommit old t (alertInputs s) }

/-- The conditions of a regulator whose motor is outside the motor set are inactive (R56). -/
def releaseMotor (m : Motor) (s : State) : State :=
  if inDriveSet s m then s else setFbLost m false (setModFault m false (setOvertemp m false s))

/-- The report pattern restarts (R182). -/
def restartPattern (s : State) : State :=
  { s with link := { s.link with reportPhase := .pass, remaining := (reportPattern s).1 } }

/-- The attempt count is lowered to the new BRK_RETRIES (R21). -/
def lowerAttempts (s : State) : State :=
  { s with run := { s.run with attempts := min s.run.attempts (driveFieldsOf s).brkRetries } }

/-- A DRIVE commit: the regulators, the report pattern, the run controller (R56, R182, R21). -/
def driveCommit (s : State) : State :=
  evaluateReady (lowerAttempts (restartPattern (releaseMotor .B (releaseMotor .A s))))

/-- The owners of a table, in the order of R171, step 3; the mode of the ALERT line before the commit
given. -/
def informOwners (t : TableId) (old : AlertMode) (s : State) : State :=
  match t with
  | .gain => evaluateReady s
  | .limit => evaluateReady s
  | .vib => shellCommit (vibCommit s)
  | .event => eventCommit old s
  | .drive => driveCommit s

/-- The TABLE event (R171, step 4). -/
def raiseTable (t : TableId) (version : Word) (adjusted : Nat) (s : State) : State :=
  raise .table (.table t) (count16 (bit (decide (0 < adjusted)) 0)) (version.setWidth 32)
    (count32 adjusted) s

/-- An accepted commit, steps 1 to 4 (R171). -/
def acceptCommit (n : Bool) (b : Staging) (fields : List Int) (adjusted : Nat) (s : State) : State :=
  let old := (eventTable s).alertMode
  let s := { s with tab := (s.tab.activate b.table b.version fields).setBuffer n none }
  raiseTable b.table b.version adjusted (informOwners b.table old s)

/-! ### TABLE_COMMIT (R169, R170) -/

/-- The lock bit of a table is set and the LOCK line asserted (R169, step 3). -/
def lockedNow (s : State) (t : TableId) : Bool := s.tab.locks[t.index] && s.tab.lockLine

/-- The commit of a FILLING buffer (R169, checks 2 to 5; R170; R171, step 5). -/
def commitBuffer (n : Bool) (b : Staging) (s : State) : Reply :=
  match b.firstUnwritten with
  | some p => refuse .badLength (bytes16 (count16 p)) s
  | none =>
    if lockedNow s b.table then refuse .locked [] s
    else if b.table = .drive ∧ energised s then refuse .running [] s
    else
      match validate b.table b.length b.image with
      | .bad k => refuse .badTable (bytes16 (count16 k)) s
      | .good fields adjusted =>
        { state := acceptCommit n b fields adjusted s
          answer := if adjusted = 0 then .ok else .adjusted
          data := if adjusted = 0 then [] else bytes16 (count16 adjusted) }

/-- TABLE_COMMIT by its argument bytes (R169, R184). -/
def tableCommit (args : List Byte) (s : State) : Reply :=
  match args with
  | [b] =>
    match fillingBuffer s b with
    | some (n, x) => commitBuffer n x s
    | none => refuse .badRequest [] s
  | _ => refuse .badRequest [] s

/-- TABLE_COMMIT (R169 to R171). -/
def execTableCommit (r : Request) (s : State) : Host.Outcome State Fault Refusal :=
  .next (serve 6 r (tableCommit r.args) s)

/-! ### TABLE_READ (R173) -/

/-- The 28 bytes of an image from an offset; beyond its end they read 0. -/
def readBytes (image : List Byte) (offset : Nat) : List Byte :=
  (List.range 28).map fun i => image.getD (offset + i) 0

/-- TABLE_READ of a table (R173). -/
def readTable (t : TableId) (offset : Nat) (s : State) : Reply :=
  match s.tab.image t with
  | none => refuse .noRecord [] s
  | some image =>
    if image.length ≤ offset then refuse .badRequest [] s
    else { state := s, answer := .ok, data := readBytes image offset }

/-- TABLE_READ by its argument bytes (R173, R184). -/
def tableRead (args : List Byte) (s : State) : Reply :=
  match args with
  | [t, o] =>
    match TableId.ofByte t with
    | some t => readTable t o.toNat s
    | none => refuse .badRequest [] s
  | _ => refuse .badRequest [] s

/-- TABLE_READ (R173). -/
def execTableRead (r : Request) (s : State) : Host.Outcome State Fault Refusal :=
  .next (serve 8 r (tableRead r.args) s)

/-! ### Lock bits and the LOCK line (R174, R175) -/

/-- A lock bit takes a value. -/
def setLock (t : TableId) (on : Bool) (s : State) : State :=
  { s with tab := { s.tab with locks := s.tab.locks.set t.index on } }

/-- The five lock bits and the level of the LOCK line (spec 12.3). -/
def lockData (s : State) : List Byte :=
  [count8 (bit s.tab.locks[0] 0 + bit s.tab.locks[1] 1 + bit s.tab.locks[2] 2 + bit s.tab.locks[3] 3
      + bit s.tab.locks[4] 4),
   boolByte s.tab.lockLine]

/-- LOCK_SET by its argument bytes (R174, R184). -/
def lockSet (args : List Byte) (s : State) : Reply :=
  match args with
  | [t] =>
    match TableId.ofByte t with
    | some t => { state := setLock t true s, answer := .ok, data := lockData (setLock t true s) }
    | none => refuse .badRequest [] s
  | _ => refuse .badRequest [] s

/-- LOCK_SET (R174). -/
def execLockSet (r : Request) (s : State) : Host.Outcome State Fault Refusal :=
  .next (serve 9 r (lockSet r.args) s)

/-- LOCK_CLEAR by its argument bytes (R174, R184). -/
def lockClear (args : List Byte) (s : State) : Reply :=
  match args with
  | [t] =>
    match TableId.ofByte t with
    | some t =>
      if s.tab.lockLine then refuse .locked (lockData s) s
      else { state := setLock t false s, answer := .ok, data := lockData (setLock t false s) }
    | none => refuse .badRequest [] s
  | _ => refuse .badRequest [] s

/-- LOCK_CLEAR (R174). -/
def execLockClear (r : Request) (s : State) : Host.Outcome State Fault Refusal :=
  .next (serve 10 r (lockClear r.args) s)

/-- LOCK_LINE_CHANGE (R175): the line takes a level, and nothing else is done. -/
def execLockLineChange (asserted : Bool) (s : State) : Host.Outcome State Fault Refusal :=
  .next { s with tab := { s.tab with lockLine := asserted } }

end Sys2Proof.Machine
end

