-- ==== Sys2Proof/Machine/LinkEvents.lean ====
section
/-! DEFINITION. The link interface's own events: refused frames (R178, R180), requests of an unknown code
(R184), the ends of transmissions (R177, R183), and hardware reset (R188). -/

namespace Sys2Proof.Machine

/-! ### Requests by code (R184) -/

/-- The owner a request code names, given the argument bytes (R184, spec 12.3). -/
def requestOwner (code : Byte) (args : List Byte) : State → Reply :=
  match code.toNat with
  | 1 => identify args
  | 2 => statusClear args
  | 3 => restart args
  | 4 => tableOpen args
  | 5 => tableWrite args
  | 6 => tableCommit args
  | 7 => tableAbort args
  | 8 => tableRead args
  | 9 => lockSet args
  | 10 => lockClear args
  | 11 => tripReset args
  | 12 => tripRead args
  | 13 => storeTrim args
  | 14 => storeEraseAll args
  | 15 => storeBlankCheck args
  | 16 => storeStatus args
  | 17 => eventRead args
  | 18 => eventMark args
  | 19 => vibRestart args
  | _ => refuse .badRequest []

/-- REQUEST_UNKNOWN_CODE (R184): the answer is BAD_REQUEST.  A code that does name a request, which is no
operand of this row, is taken as that request (assumption 10). -/
def execRequestUnknownCode (code : Byte) (r : Request) (s : State) : Host.Outcome State Fault Refusal :=
  .next (serve code r (requestOwner code r.args) s)

/-! ### Refused frames (R178, R180) -/

/-- The error count of a port rises by 1. -/
def countError (p : Port) (s : State) : State :=
  { s with link := { s.link with
      errors := s.link.errors.set (portIndex p) (riseBy s.link.errors[portIndex p] 1) } }

/-- A frame is refused for a reason (R178): the count, then the LINK_ERR occurrence (R180). -/
def refuseFrame (p : Port) (reason : LinkReason) (channel : BitVec 4) (s : State) : State :=
  let s := countError p s
  linkError p reason channel s.link.errors[portIndex p] s

/-- What an accepted frame does. -/
def execArrival (a : Arrival) (s : State) : Host.Outcome State Fault Refusal :=
  match a with
  | .setpoint seq mode flags tReq supTime => execSetpoint seq mode flags tReq supTime s
  | .request code r => .next (serve code r (requestOwner code r.args) s)
  | .feedback m f => execFeedback m f s
  | .vibSample c seq samples => execVibSample c seq samples s
  | .position seq angle => execPosition seq angle s

/-- REFUSED_FRAME (R178).  A frame that passes the checks, which is no operand of this row, is taken as the
arrival it is (assumption 10). -/
def execRefusedFrame (p : Port) (bytes : List Byte) (s : State) : Host.Outcome State Fault Refusal :=
  match checkFrame p bytes, decodeArrival p bytes with
  | some reason, _ => .next (refuseFrame p reason (arrivalChannel bytes) s)
  | none, some a => execArrival a s
  | none, none => .next s

/-! ### The ends of transmissions (R177, R183) -/

/-- The S transmitter when its frame has gone out (R183): a waiting answer follows a report, and an
answer's end empties the slot. -/
def Link.endS (l : Link) : Link :=
  match l.sTx with
  | .idle => l
  | .report _ _ =>
    match l.slot with
    | some a => { l with sTx := .answer l.outS a, outS := l.outS + 1 }
    | none => { l with sTx := .idle }
  | .answer _ _ => { l with sTx := .idle, slot := none }

/-- TRANSMISSION_END (R183).  An idle transmitter ends nothing (assumption 2). -/
def execTransmissionEnd (s : State) : Host.Outcome State Fault Refusal :=
  .next { s with link := s.link.endS }

/-- An M port's transmitter when its VCMD has gone out: the next one formed follows, under the port's
outbound sequence (R177). -/
def VcmdTransmitter.finish (t : VcmdTransmitter) (out : Seq) : VcmdTransmitter × Seq :=
  match t.sending, t.waiting with
  | none, _ => (t, out)
  | some _, [] => ({ sending := none, waiting := [] }, out)
  | some _, v :: rest => ({ sending := some (out, v), waiting := rest }, out + 1)

def Link.endVcmd (l : Link) (m : Motor) : Link :=
  match m with
  | .A => { l with m0Tx := (l.m0Tx.finish l.outM0).1, outM0 := (l.m0Tx.finish l.outM0).2 }
  | .B => { l with m1Tx := (l.m1Tx.finish l.outM1).1, outM1 := (l.m1Tx.finish l.outM1).2 }

/-- VCMD_TRANSMISSION_END (R177).  An idle transmitter ends nothing (assumption 2). -/
def execVcmdTransmissionEnd (m : Motor) (s : State) : Host.Outcome State Fault Refusal :=
  .next { s with link := s.link.endVcmd m }

/-! ### Hardware reset (R188) -/

/-- HARDWARE_RESET (R188): every block at its reset values.  The store's memory is kept (R143), and with it
the level of the LOCK line and the commands that wait (assumptions 5 and 8). -/
def execHardwareReset (s : State) : Host.Outcome State Fault Refusal :=
  .next (State.afterReset s.store.nv s.store.nextTag s.tab.lockLine s.pending)

end Sys2Proof.Machine
end

