-- ==== Sys2Proof/Machine/RunTimers.lean ====
section
/-! DEFINITION. The run controller's timers: BRK_TIME, BRK_REST and STOP_TIME (R13, R14, R17).  A stopped
timer has no expiry (assumption 2). -/

namespace Sys2Proof.Machine

/-- An attempt times out with attempts remaining (R13). -/
def attemptTimedOut (s : State) : State :=
  compute (changeDrive .resting .attemptTimeout
    { s with run := { s.run with restTimer := .running (driveFieldsOf s).brkRest } })

/-- The attempts are exhausted (R13): BRK_END FAIL, then the BREAKAWAY_FAIL cause. -/
def breakawayFailed (s : State) : State :=
  deliverCause { own := none, inSetpoint := false } ⟨.breakawayFail, .none⟩ (count32 (mag (paceSpeed s)))
    (raiseBrkEnd .fail s)

/-- BRK_TIME_EXPIRY (R13). -/
def execBrkTimeExpiry (s : State) : Host.Outcome State Fault Refusal :=
  match s.run.brkTimer with
  | .stopped => .next s
  | .running _ =>
    let s := { s with run := { s.run with brkTimer := .stopped } }
    .next (if s.run.attempts < (driveFieldsOf s).brkRetries then attemptTimedOut s else breakawayFailed s)

/-- BRK_REST_EXPIRY (R14). -/
def execBrkRestExpiry (s : State) : Host.Outcome State Fault Refusal :=
  match s.run.restTimer with
  | .stopped => .next s
  | .running _ =>
    .next (compute (beginAttempt (s.run.attempts + 1) .restEnd .afterRest
      { s with run := { s.run with restTimer := .stopped } }))

/-- STOP_TIME_EXPIRY (R17). -/
def execStopTimeExpiry (s : State) : Host.Outcome State Fault Refusal :=
  match s.run.stopTimer with
  | .stopped => .next s
  | .running _ => .next (endStop none .stopTimer s)

end Sys2Proof.Machine
end

