-- ==== Sys2Proof/Machine/Dispatch.lean ====
section
/-! DEFINITION. The dispatch: one arm per command of the table, each a call of its meaning. -/

namespace Sys2Proof.Machine

def exec (i : Instr) (s : State) : Host.Outcome State Fault Refusal :=
  match i with
  | .setpoint seq mode flags tReq supTime => Sys2Proof.Machine.execSetpoint seq mode flags tReq supTime s
  | .feedback m f => Sys2Proof.Machine.execFeedback m f s
  | .vibSample c seq samples => Sys2Proof.Machine.execVibSample c seq samples s
  | .position seq angle => Sys2Proof.Machine.execPosition seq angle s
  | .refusedFrame p bytes => Sys2Proof.Machine.execRefusedFrame p bytes s
  | .requestUnknownCode code r => Sys2Proof.Machine.execRequestUnknownCode code r s
  | .identify r => Sys2Proof.Machine.execIdentify r s
  | .statusClear r => Sys2Proof.Machine.execStatusClear r s
  | .restart r => Sys2Proof.Machine.execRestart r s
  | .tableOpen r => Sys2Proof.Machine.execTableOpen r s
  | .tableWrite r => Sys2Proof.Machine.execTableWrite r s
  | .tableAbort r => Sys2Proof.Machine.execTableAbort r s
  | .tableCommit r => Sys2Proof.Machine.execTableCommit r s
  | .tableRead r => Sys2Proof.Machine.execTableRead r s
  | .lockSet r => Sys2Proof.Machine.execLockSet r s
  | .lockClear r => Sys2Proof.Machine.execLockClear r s
  | .tripReset r => Sys2Proof.Machine.execTripReset r s
  | .tripRead r => Sys2Proof.Machine.execTripRead r s
  | .storeTrim r => Sys2Proof.Machine.execStoreTrim r s
  | .storeEraseAll r => Sys2Proof.Machine.execStoreEraseAll r s
  | .storeBlankCheck r => Sys2Proof.Machine.execStoreBlankCheck r s
  | .storeStatus r => Sys2Proof.Machine.execStoreStatus r s
  | .eventRead r => Sys2Proof.Machine.execEventRead r s
  | .eventMark r => Sys2Proof.Machine.execEventMark r s
  | .vibRestart r => Sys2Proof.Machine.execVibRestart r s
  | .hardwareReset => Sys2Proof.Machine.execHardwareReset s
  | .lockLineChange asserted => Sys2Proof.Machine.execLockLineChange asserted s
  | .brkTimeExpiry => Sys2Proof.Machine.execBrkTimeExpiry s
  | .brkRestExpiry => Sys2Proof.Machine.execBrkRestExpiry s
  | .stopTimeExpiry => Sys2Proof.Machine.execStopTimeExpiry s
  | .stallTimerExpiry => Sys2Proof.Machine.execStallTimerExpiry s
  | .setpointTimerExpiry => Sys2Proof.Machine.execSetpointTimerExpiry s
  | .feedbackTimerExpiry m => Sys2Proof.Machine.execFeedbackTimerExpiry m s
  | .silenceTimerExpiry c => Sys2Proof.Machine.execSilenceTimerExpiry c s
  | .positionTimerExpiry => Sys2Proof.Machine.execPositionTimerExpiry s
  | .postLimitExpiry => Sys2Proof.Machine.execPostLimitExpiry s
  | .pulseTimerExpiry => Sys2Proof.Machine.execPulseTimerExpiry s
  | .scanEnd => Sys2Proof.Machine.execScanEnd s
  | .programCompletion took => Sys2Proof.Machine.execProgramCompletion took s
  | .eraseCompletion verified => Sys2Proof.Machine.execEraseCompletion verified s
  | .blankCheckCompletion => Sys2Proof.Machine.execBlankCheckCompletion s
  | .transmissionEnd => Sys2Proof.Machine.execTransmissionEnd s
  | .vcmdTransmissionEnd m => Sys2Proof.Machine.execVcmdTransmissionEnd m s

end Sys2Proof.Machine
end

