-- ==== Sys2Proof/Machine/Step.lean ====
section
/-! DEFINITION. One step of the part: the command at the front of the queue (assumption 1). -/

namespace Sys2Proof.Machine

/-- The state with a queue of waiting commands put in place. -/
def State.withPending (s : State) (queue : List Instr) : State := { s with pending := queue }

/-- One step: the command at the front of the queue is taken with the queue's rest; on an empty queue the
part idles (assumption 1). -/
def step (s : State) : Host.Outcome State Fault Refusal :=
  match s.pending with
  | [] => .next s
  | c :: rest => exec c (s.withPending rest)

/-- The command a table word spells, put at the front of the queue.  No word spells one (assumption 1). -/
def State.withFetchWord (s : State) (nbits w : Nat) : State :=
  match decodeTableWord nbits w with
  | some c => s.withPending (c :: s.pending)
  | none => s

end Sys2Proof.Machine
end

