-- ==== Sys2Proof/Safety.lean ====
section
/-! DEFINITION. What a safe state of the part is: the laws of the device that the manual's prose states over
all its events, each as a condition on one state that every step keeps. -/

namespace Sys2Proof.Machine

/-! ### Drive state, trip latch and timers (R2, R10, R13, R14, R17, R19, R41, R100 to R104) -/

/-- A timer runs. -/
def Timer.runs (t : Timer) : Prop := t ≠ .stopped

/-- The causes that can be delivered while the drive is not energised: those of the regulators' arrivals, of
the channels and of EXT_TRIP.  Every entry behind the first is one of them (R100). -/
def lateCauses : List CauseId :=
  [⟨.overtemp, .motor .A⟩, ⟨.overtemp, .motor .B⟩, ⟨.modFault, .motor .A⟩, ⟨.modFault, .motor .B⟩,
   ⟨.vibDanger, .channel 0⟩, ⟨.vibDanger, .channel 1⟩, ⟨.vibDanger, .channel 2⟩,
   ⟨.vibDanger, .channel 3⟩, ⟨.vibDanger, .channel 4⟩, ⟨.vibDanger, .channel 5⟩, ⟨.extTrip, .none⟩]

/-- The kinds and sources of the cause list. -/
def TripController.listed (t : TripController) : List CauseId := t.list.map CauseEntry.id

/-- The drive state, the latch with its list and line, and the run controller's timers agree. -/
structure RunTripLaw (s : State) : Prop where
  /-- TRIPPED is the drive state of a latched trip (R19, R20). -/
  tripped : s.trip.latch = true ↔ s.run.state = .tripped
  /-- The list is empty exactly while the latch is clear (R100). -/
  listed : s.trip.latch = true ↔ s.trip.list ≠ []
  /-- The TRIP line follows the latch (R104). -/
  line : s.trip.tripLine = s.trip.latch
  /-- At most eight entries (R100). -/
  short : s.trip.list.length ≤ 8
  /-- No cause stands twice in list and overflow set (R103). -/
  distinct : (s.trip.listed ++ s.trip.overflowSet).Nodup
  /-- Behind the first entry stand only causes that need no energised drive. -/
  late : ∀ c ∈ s.trip.listed.tail ++ s.trip.overflowSet, c ∈ lateCauses
  /-- The overflow count is the size of the overflow set (R100, R103). -/
  counted : s.trip.overflowCount = s.trip.overflowSet.length
  /-- Overflow begins at a full list (R103). -/
  full : s.trip.overflowSet ≠ [] → s.trip.list.length = 8
  /-- The overflow count is 0 to 4 (R100). -/
  few : s.trip.overflowCount ≤ 4
  /-- READY and the energised states have their three tables (R4). -/
  tables : s.run.state = .ready ∨ energised s = true →
    s.tab.gain.isSome = true ∧ s.tab.limit.isSome = true ∧ s.tab.drive.isSome = true
  /-- BRK_TIME runs in BREAKAWAY alone (R11 to R13). -/
  brkTime : s.run.brkTimer.runs ↔ s.run.state = .breakaway
  /-- BRK_REST runs in RESTING alone (R13, R14). -/
  brkRest : s.run.restTimer.runs ↔ s.run.state = .resting
  /-- STOP_TIME runs in STOPPING alone (R16 to R18). -/
  stopTime : s.run.stopTimer.runs ↔ s.run.state = .stopping
  /-- The stall timer runs in RUN alone (R41). -/
  stall : s.lim.stallTimer.runs → s.run.state = .run
  /-- OFF and READY hold no attempt (R10). -/
  noAttempt : s.run.state = .off ∨ s.run.state = .ready → s.run.attempts = 0
  /-- BREAKAWAY and RESTING are an attempt (R11). -/
  someAttempt : s.run.state = .breakaway ∨ s.run.state = .resting → 1 ≤ s.run.attempts

/-! ### Torque (R34 to R37) -/

/-- The drive states in which the torque command follows the request (R34). -/
def DriveState.follows (d : DriveState) : Bool := d == .breakaway || d == .run

/-- The torque command, its shares and references. -/
structure TorqueLaw (s : State) : Prop where
  /-- Outside BREAKAWAY and RUN nothing is commanded (R34, R36, R37). -/
  still : s.run.state.follows = false →
    s.lim.tCmd = 0 ∧ s.lim.shareA = 0 ∧ s.lim.shareB = 0 ∧ s.lim.iqRefA = 0 ∧ s.lim.iqRefB = 0
      ∧ s.lim.stack.limiting = false
  /-- The shares sum to the command (R36). -/
  shared : s.tab.drive.isSome = true → s.lim.shareA + s.lim.shareB = s.lim.tCmd
  /-- IQMAX of an active DRIVE table is not negative (R45). -/
  iqMax : ∀ d, activeDrive s = some d → 0 ≤ d.iqMax

/-! ### Integrators (R2, R3, R57) -/

/-- Both integrators of a regulator are zero unless the drive is energised and its motor in the set. -/
def IntegratorLaw (s : State) : Prop :=
  ∀ m, (energised s && inDriveSet s m) = false → (s.reg m).intD = 0 ∧ (s.reg m).intQ = 0

/-! ### Conditions (R56, R79, R101) -/

/-- The condition as its owner holds it. -/
def conditionHolds (s : State) (c : CauseId) : Bool :=
  match c.kind, c.source with
  | .overtemp, .motor m => (s.reg m).overtemp
  | .modFault, .motor m => (s.reg m).modFault
  | .fbLost, .motor m => (s.reg m).fbLost
  | .supLost, .none => s.lim.supLost
  | .vibDanger, .channel k => s.vib.channels[k].danger
  | .extTrip, .none => s.trip.extTrip
  | _, _ => false

/-- The active-condition set is what the owners hold. -/
structure ConditionLaw (s : State) : Prop where
  /-- The set holds exactly the active conditions (R101). -/
  set : s.trip.active = conditionOrder.filter (conditionHolds s)
  /-- VIB_DANGER is active while the channel is in DANGER (R79). -/
  danger : ∀ c : Fin 6, s.vib.channels[c].danger = (s.vib.channels[c].state == .danger)
  /-- A motor outside the motor set holds its three conditions inactive (R56). -/
  outside : ∀ m, inDriveSet s m = false →
    (s.reg m).overtemp = false ∧ (s.reg m).modFault = false ∧ (s.reg m).fbLost = false

/-! ### Vibration watch (R72, R81 to R85) -/

/-- The delivered derate and the channels agree with the active VIB table. -/
structure WatchLaw (s : State) : Prop where
  /-- The vibration derate in the limit stack is the least factor of the channels that count (R82). -/
  derate : s.lim.stack.vibDerate = derateNow s
  /-- It is the derate last delivered (R71). -/
  delivered : s.vib.derate = s.lim.stack.vibDerate
  /-- A channel is OFF exactly while it is not enabled (R83, R85). -/
  off : ∀ c : Fin 6, s.vib.channels[c].state = .off ↔ channelEnabled s c = false
  /-- No silence timer runs on an OFF channel (R73, R85). -/
  silence : ∀ c : Fin 6, s.vib.channels[c].silenceTimer.runs → s.vib.channels[c].state ≠ .off

/-! ### Event log and ALERT line (R150, R151, R155, R158 to R160) -/

/-- Counters, ring, ALERT condition and ALERT line. -/
structure LogLaw (s : State) : Prop where
  /-- At most 128 records (R150). -/
  size : s.log.ring.length ≤ ringSize
  /-- No counter stands above its kind's interval (R151). -/
  counters : ∀ k : Fin 16, s.log.counters[k] ≤ (eventTable s).intervals[k]
  /-- The missed count stays at 65535 (R150). -/
  missed : s.log.missed ≤ 65535
  /-- The condition as last judged is the condition as it stands (R158). -/
  judged : s.log.alertCond = s.log.condition (eventTable s) (alertInputs s)
  /-- In LEVEL the line is the condition and no pulse runs (R159). -/
  level : (eventTable s).alertMode = .level →
    s.log.alertLine = s.log.alertCond ∧ s.log.pulseTimer = .stopped
  /-- In PULSE the line is asserted while the pulse timer runs (R160). -/
  pulse : (eventTable s).alertMode = .pulse → (s.log.alertLine = true ↔ s.log.pulseTimer.runs)

/-! ### Trip recorder (R113 to R123) -/

/-- The recorder holds a RAM record in these states (R122). -/
def RecorderState.holdsRecord : RecorderState → Bool
  | .frozen | .writing | .done => true
  | .armed | .post => false

/-- The offer is a retry. -/
def Offer.isRetry : Offer → Bool
  | .retry _ => true
  | .none | .newRecord => false

/-- The recorder, the latch, and the record's way into the store. -/
structure RecorderLaw (s : State) : Prop where
  /-- A trip is recorded from its latch until its reset (R116, R123). -/
  latched : s.trip.latch = true ↔ s.recorder.state ≠ .armed
  /-- POST_LIMIT runs in POST alone (R116, R118, R119). -/
  limit : s.recorder.postTimer.runs ↔ s.recorder.state = .post
  /-- The RAM record is present from the freeze to the reset (R122). -/
  ram : s.recorder.ramRecord.isSome = s.recorder.state.holdsRecord
  /-- At most 256 snapshots (R113). -/
  size : s.recorder.ring.length ≤ historySize
  /-- In POST the ring is the pre part and the post part, short of its target (R116, R117). -/
  post : s.recorder.state = .post →
    s.recorder.ring.length = s.recorder.preCount + s.recorder.postCount
      ∧ s.recorder.postCount < s.recorder.postTarget
      ∧ s.recorder.preCount + s.recorder.postTarget ≤ historySize
  /-- A FROZEN record is the one offered (R120). -/
  frozen : s.recorder.state = .frozen ↔ s.store.offer = .newRecord
  /-- A record in WRITING is in flight or waits for its retry (R136, R138). -/
  writing : s.recorder.state = .writing ↔ s.store.program.isSome = true ∨ s.store.offer.isRetry = true
  /-- One record at a time (R133). -/
  one : s.store.program.isSome = true → s.store.offer = .none
  /-- A program is in flight exactly in PROGRAMMING (R128). -/
  flight : s.store.program.isSome = true ↔ s.store.activity = .programming
  /-- PRE_COUNT of an active DRIVE table is 32 to 224 (R124). -/
  preCount : ∀ d, activeDrive s = some d → 32 ≤ d.preCount ∧ d.preCount ≤ 224

/-! ### Trip store (R127 to R129) -/

/-- The states that follow from a bank's slots (R128). -/
def BankState.fromSlots : BankState → Bool
  | .blank | .open | .full => true
  | .erasing | .eraseSuspended | .needsErase | .retired => false

/-- At most one bank is programmed or erased, and the index agrees with itself. -/
structure StoreLaw (t : TripStore) : Prop where
  /-- A program is in flight exactly in PROGRAMMING (R128). -/
  flight : t.program.isSome = true ↔ t.activity = .programming
  /-- The slot in flight is WRITING, with its number, in the busy bank (R136). -/
  slot : ∀ p, t.program = some p →
    t.busy = some p.bank ∧ t.banks[p.bank].state.fromSlots = true
      ∧ t.banks[p.bank].slots[p.slot] = { state := .writing, number := some p.number }
  /-- No other slot is WRITING (R127). -/
  only : ∀ (b : Fin 4) (k : Fin 8), t.banks[b].slots[k].state = .writing →
    ∃ p, t.program = some p ∧ p.bank = b ∧ p.slot = k
  /-- A bank is ERASING exactly while its erase runs (R128). -/
  erasing : ∀ b : Fin 4, t.banks[b].state = .erasing ↔ t.activity = .erasing ∧ t.busy = some b
  /-- An erase that runs, and a check, have a bank (R128). -/
  bank : t.activity = .erasing ∨ t.activity = .blankChecking → t.busy.isSome = true
  /-- No bank is busy in IDLE and SCANNING (R128). -/
  still : t.activity = .idle ∨ t.activity = .scanning → t.busy = none
  /-- A bank is ERASE_SUSPENDED only while a record is being programmed (R128). -/
  suspended : ∀ b : Fin 4, t.banks[b].state = .eraseSuspended → t.activity = .programming
  /-- At most one bank is suspended (R128). -/
  single : ∀ b c : Fin 4, t.banks[b].state = .eraseSuspended → t.banks[c].state = .eraseSuspended → b = c
  /-- No bank is in the queue twice (R129). -/
  queue : t.queue.Nodup
  /-- BLANK, OPEN and FULL follow from the slots (R128). -/
  derived : ∀ b : Fin 4, t.banks[b].state.fromSlots = true → t.banks[b].state = stateFromSlots t.banks[b].slots
  /-- The VALID count is the number of VALID slots (R129). -/
  valid : ∀ b : Fin 4,
    t.banks[b].validCount = (t.banks[b].slots.toList.filter fun x => x.state == .valid).length

/-! ### Trip numbers (R131, R132) -/

/-- The trip numbers of the records written or being written. -/
def TripStore.liveNumbers (t : TripStore) : List DWord :=
  allBanks.flatMap fun b => t.banks[b].slots.toList.filterMap fun x =>
    if x.state = .valid ∨ x.state = .writing then x.number else none

/-- A slot holds both markers (R127). -/
def NvSlot.complete (n : NvSlot) : Bool := n.word 0 == headerMarker && n.word 47 == completionMarker

/-- The trip numbers of the complete records in the stamped banks of the memory. -/
def TripStore.storedNumbers (t : TripStore) : List DWord :=
  allBanks.flatMap fun b => if t.nv[b].stamp.isSome then
    t.nv[b].slots.toList.filterMap fun n => if n.complete then some n.headerNumber else none
  else []

/-- A number has been assigned: it lies below the next one, or the numbers are exhausted (R132). -/
def TripStore.assigned (t : TripStore) (n : DWord) : Prop := t.nextNumber = 0 ∨ n.toNat < t.nextNumber.toNat

/-- Records carry distinct numbers, all of them assigned, in the index and in the memory the next scan
reads. -/
structure NumberLaw (t : TripStore) : Prop where
  store : StoreLaw t
  /-- Complete records in the memory carry distinct numbers (R132). -/
  stored : t.storedNumbers.Nodup
  /-- After the scan the index's records carry distinct numbers (R132). -/
  live : t.activity ≠ .scanning → t.liveNumbers.Nodup
  /-- Every one of them has been assigned (R132). -/
  below : t.activity ≠ .scanning → ∀ n ∈ t.liveNumbers, t.assigned n
  /-- A complete record of a stamped bank is VALID in the index, with its number (R130, R137). -/
  held : t.activity ≠ .scanning → ∀ (b : Fin 4) (k : Fin 8), t.nv[b].stamp.isSome = true →
    t.nv[b].slots[k].complete = true →
      t.banks[b].slots[k] = { state := .valid, number := some t.nv[b].slots[k].headerNumber }
  /-- A slot of a stamped bank that the index holds as BLANK reads erased (R130, R142): no cell changes by itself
  (assumption 41). -/
  blank : t.activity ≠ .scanning → ∀ (b : Fin 4) (k : Fin 8), t.nv[b].stamp.isSome = true →
    t.banks[b].slots[k].state = .blank → t.nv[b].slots[k].firstProgrammed = none
  /-- The slot in flight, in a stamped bank, reads as its header and erased beyond it (R136). -/
  header : ∀ p, t.program = some p → t.nv[p.bank].stamp.isSome = true → ∀ o < slotWords,
    t.nv[p.bank].slots[p.slot].word o = (headerPlaced p.number).getD o erasedWord
  /-- A bank whose erase has begun has lost its stamp (R140). -/
  unstamped : ∀ b : Fin 4, t.banks[b].state = .erasing ∨ t.banks[b].state = .eraseSuspended →
    t.nv[b].stamp = none
  /-- A waiting retry's number is assigned, and no slot's (R138). -/
  retry : ∀ n, t.offer = .retry n → t.activity ≠ .scanning ∧ n ∉ t.liveNumbers ∧ t.assigned n

/-! ### Tables (R164 to R171) -/

/-- An image that validates with nothing to change, at an allowed length (R165, R170). -/
def accepted (t : TableId) (image : List Byte) : Prop :=
  lengthOk t image.length = true ∧ ∃ fields, validate t image.length image = .good fields 0

/-- A staging buffer is in its canonical form and holds its header (R164 to R167). -/
structure StagingLaw (b : Staging) : Prop where
  length : lengthOk b.table b.length = true
  canonical : Cells.wf b.cells = true
  inside : ∀ c ∈ b.cells, c.1 < b.length
  header : ∀ i < 6, Cells.read b.cells i = (imageHeader b.table b.version b.length)[i]?

/-- Every active table is wholly one accepted image, and no table is FILLING twice (R164). -/
structure TableLaw (m : TableManager) : Prop where
  active : ∀ t image, m.image t = some image → accepted t image
  staging : ∀ n b, m.buffer n = some b → StagingLaw b
  once : ∀ a b, m.buf0 = some a → m.buf1 = some b → a.table ≠ b.table

/-! ### Link (R177, R183) -/

/-- The transmitters and the pending-answer slot agree, and the counts stay in their range. -/
structure LinkLaw (l : Link) : Prop where
  /-- The answer being sent is the one in the slot (R183). -/
  sending : ∀ q a, l.sTx = .answer q a → l.slot = some a
  /-- No answer waits behind an idle transmitter (R183). -/
  waiting : l.sTx = .idle → l.slot = none
  /-- No VCMD waits behind an idle transmitter (R177). -/
  m0 : l.m0Tx.sending = none → l.m0Tx.waiting = []
  m1 : l.m1Tx.sending = none → l.m1Tx.waiting = []
  /-- The counts stay at 65535 once reached (R177). -/
  errors : ∀ p : Fin 4, l.errors[p] ≤ 65535
  gaps : ∀ p : Fin 4, l.gaps[p] ≤ 65535
  skipped : l.skipped ≤ 65535

/-! ### The frame of a request and its answer, for statements -/

/-- The numbers of argument bytes the request codes take (spec 12.3). -/
def argumentCount (code n : Nat) : Bool :=
  match code with
  | 1 | 2 | 3 | 11 | 13 | 14 | 16 | 17 => n == 0
  | 4 => n == 5
  | 5 => 2 ≤ n && n ≤ 29
  | 6 | 7 | 9 | 10 | 15 | 19 => n == 1
  | 8 => n == 2
  | 12 => n == 7
  | 18 => n == 9
  | _ => false

/-- Arguments of the right number that their rule refuses with BAD_REQUEST for their values alone (R144, R147,
R157, R166, R168, R169, R173, R174, R83). -/
def argumentOutOfRange (code : Nat) (args : List Byte) : Bool :=
  match code, args with
  | 4, [n, _, _, l1, l0] =>
    match TableId.ofByte n with
    | some t => !lengthOk t (be16 l1 l0).toNat
    | none => true
  | 6, [n] => 2 ≤ n.toNat
  | 7, [n] => 2 ≤ n.toNat
  | 8, [n, _] => (TableId.ofByte n).isNone
  | 9, [n] => (TableId.ofByte n).isNone
  | 10, [n] => (TableId.ofByte n).isNone
  | 12, [_, _, _, _, o1, o0, l] => (l != 8 && l != 16) || 2160 ≤ (be16 o1 o0).toNat
  | 15, [n] => 4 ≤ n.toNat
  | 18, [n, _, _, _, _, _, _, _, _] => 16 ≤ n.toNat
  | 19, [n] => 6 ≤ n.toNat
  | _, _ => false

/-- The state in which the owner of a request finds the part: the frame's sequence has been judged (R179). -/
def requestTaken (r : Request) (s : State) : State := acceptFrame .S 0 r.seq s

/-- The answer to a request is in the slot, and is being sent if the transmitter was idle (R183, R184). -/
def answerPlaced (code : Byte) (r : Request) (answer : AnswerCode) (data : List Byte) (s : State) : State :=
  { s with link := s.link.placeAnswer { code := code, tag := r.tag, answer := answer, data := data } }

/-! ### The records of the run controller, the torque limiter and a latch, for statements -/

/-- The DRIVE_STATE record of a change or a refusal: the old value, the new one and the reason (R22). -/
def driveStateRecord (old new reason : Nat) (s : State) : State :=
  raise .driveState .none (BitVec.ofNat 16 reason) (BitVec.ofNat 32 old) (BitVec.ofNat 32 new) s

/-- The BRK_START record of an attempt: where it began, its number and the speed (R11, R23). -/
def brkStartRecord (origin attempt : Nat) (s : State) : State :=
  raise .brkStart .none (BitVec.ofNat 16 origin) (BitVec.ofNat 32 attempt)
    (BitVec.ofNat 32 (paceSpeed s).natAbs) s

/-- The BRK_END record of a breakaway: 0 SUCCESS, 1 FAIL or 2 ABANDONED, and the attempt count (R23). -/
def brkEndRecord (how attempts : Nat) (s : State) : State :=
  raise .brkEnd .none 0 (BitVec.ofNat 32 how) (BitVec.ofNat 32 attempts) s

/-- The TLIM record of a computation, by what the torque limiter holds after it: one where limiting is true,
with the direction in bit 0 of its flags and tightest in bits 5 and 4, else none (R35). -/
def tlimRecord (l : TorqueLimiter) (s : State) : State :=
  if l.stack.limiting = true then
    raise .tlim .none
      (BitVec.ofNat 16 ((if l.tReq < -l.stack.lRev then 1 else 0) + match l.stack.tightest with
        | .none => 0
        | .vib => 16
        | .thermA => 32
        | .thermB => 48))
      (BitVec.ofInt 32 l.tReq) (BitVec.ofInt 32 l.tCmd) s
  else s

/-- The DRIVE_STATE record, with reason CONDITIONS, of an evaluation point at which the READY conditions hold or
fail (R5, R22): one in OFF where they hold and in READY where they fail. -/
def conditionsRecord (ready : Bool) (s : State) : State :=
  match s.run.state, ready with
  | .off, true => driveStateRecord 0 1 0 s
  | .ready, false => driveStateRecord 1 0 0 s
  | _, _ => s

/-- The records of a cause that latches (R102, R105): the latch is judged for the ALERT line (R158), the run
controller's DRIVE_STATE to TRIPPED follows, BRK_END ABANDONED where a breakaway is cut off by anything but its
own failure (R15, R19), and TRIP with flags FIRST. -/
def latchRecords (c : CauseId) (value : DWord) (s : State) : State :=
  let latched := judgeAlert { s with trip := { s.trip with latch := true } }
  let changed := driveStateRecord s.run.state.code 6 10 latched
  let closed :=
    if (s.run.state = .breakaway ∨ s.run.state = .resting) ∧ c.kind ≠ .breakawayFail then
      brkEndRecord 2 s.run.attempts changed
    else changed
  raise .trip c.source 0 (BitVec.ofNat 32 c.kind.code) value closed

/-- The immediate blocking command of a regulator: zero voltages under its last sequence (R3). -/
def blockingCommand (r : Regulator) : Vcmd := { seq := r.lastSeq, vd := 0, vq := 0, block := true }

/-- Ports and regulators across a trip from `s` to `t` (R3, R19).  Out of an energised state every regulator clears
its integrators, and each that has had feedback sends one blocking command at once, but for `own`, in whose own
arrival or expiry the cause is delivered (R58, R66); in any other state nothing reaches them.  That the command sent
is the last voltage kept is the model's reading (assumption 22). -/
structure TripBlocks (own : Option Motor) (s t : State) : Prop where
  sent : ∀ m, t.link.vcmds m = s.link.vcmds m ++
    (if energised s = true ∧ own ≠ some m ∧ (s.reg m).seen = true then [blockingCommand (s.reg m)] else [])
  regulators : ∀ m, t.reg m =
    if energised s = true then
      { s.reg m with
        intD := 0, intQ := 0
        vdLast := if own ≠ some m ∧ (s.reg m).seen = true then 0 else (s.reg m).vdLast
        vqLast := if own ≠ some m ∧ (s.reg m).seen = true then 0 else (s.reg m).vqLast }
    else s.reg m
  link : t.link = { s.link with
    m0Tx := t.link.m0Tx, m1Tx := t.link.m1Tx, outM0 := t.link.outM0, outM1 := t.link.outM1 }
  still : energised s = false → t.link = s.link

/-- The VIB_STATE record of a channel that goes from its present state to another (R80), after the ALERT
condition has been judged for the change (R158). -/
def vibStateRecord (c : Fin 6) (new : ChannelState) (reason level : Nat) (s : State) : State :=
  let x := s.vib.channels[c]
  raise .vibState (.channel c) (BitVec.ofNat 16 reason) (BitVec.ofNat 32 (x.state.code * 65536 + new.code))
    (BitVec.ofNat 32 level)
    (judgeAlert { s with vib := { s.vib with channels := s.vib.channels.set c { x with state := new } } })

/-- The RING_STATE record of a ring alert that takes a value it does not have (R95), after the ALERT condition
has been judged for the change (R158); none where it keeps its value. -/
def ringStateRecord (on : Bool) (reason ecc : Nat) (s : State) : State :=
  if s.load.ringAlert = on then s
  else
    raise .ringState .none (BitVec.ofNat 16 reason) (if on then 1 else 0) (BitVec.ofNat 32 ecc)
      (judgeAlert { s with load := { s.load with ringAlert := on } })

end Sys2Proof.Machine
end

