-- ==== Sys2Proof/WellFormed.lean ====
section
/-! DEFINITION. Which operands make a command of its row.  The meanings take every operand: a command
that is not well formed stands for an arrival the part takes under another row, and is taken so
(assumption 10). -/

namespace Sys2Proof

/-- A REQUEST payload has at most 29 argument bytes (spec 12.2). -/
def Request.wellFormed (r : Request) : Bool := r.args.length ≤ 29

/-- The operands are ones the row's frame, request or line event can bring. -/
def Instr.wellFormed : Instr → Bool
  | .setpoint _ _ _ _ _ => true
  | .feedback _ _ => true
  | .vibSample _ _ _ => true
  | .position _ _ => true
  | .refusedFrame p bytes => (checkFrame p bytes).isSome
  | .requestUnknownCode code r => !namesRequest code && r.wellFormed
  | .identify r => r.wellFormed
  | .statusClear r => r.wellFormed
  | .restart r => r.wellFormed
  | .tableOpen r => r.wellFormed
  | .tableWrite r => r.wellFormed
  | .tableAbort r => r.wellFormed
  | .tableCommit r => r.wellFormed
  | .tableRead r => r.wellFormed
  | .lockSet r => r.wellFormed
  | .lockClear r => r.wellFormed
  | .tripReset r => r.wellFormed
  | .tripRead r => r.wellFormed
  | .storeTrim r => r.wellFormed
  | .storeEraseAll r => r.wellFormed
  | .storeBlankCheck r => r.wellFormed
  | .storeStatus r => r.wellFormed
  | .eventRead r => r.wellFormed
  | .eventMark r => r.wellFormed
  | .vibRestart r => r.wellFormed
  | .hardwareReset => true
  | .lockLineChange _ => true
  | .brkTimeExpiry => true
  | .brkRestExpiry => true
  | .stopTimeExpiry => true
  | .stallTimerExpiry => true
  | .setpointTimerExpiry => true
  | .feedbackTimerExpiry _ => true
  | .silenceTimerExpiry _ => true
  | .positionTimerExpiry => true
  | .postLimitExpiry => true
  | .pulseTimerExpiry => true
  | .scanEnd => true
  | .programCompletion _ => true
  | .eraseCompletion _ => true
  | .blankCheckCompletion => true
  | .transmissionEnd => true
  | .vcmdTransmissionEnd _ => true

end Sys2Proof
end

