-- ==== Sys2Proof/Certificates/Slice0/Obligations.lean ====
section
/-! DEFINITION. The statements about the model that are to be proved. -/

open Sys2Proof Sys2Proof.Machine

/-! ### The queue and the laws of the device -/

/-- A step takes the command at the front of the queue, with the queue's rest; an empty queue idles.  The
model's own (assumption 1). -/
def Obligations.StepRunsTheFrontCommand : Prop :=
  (∀ (c : Instr) (rest : List Instr) (s : State),
    step (s.withPending (c :: rest)) = exec c (s.withPending rest))
  ∧ ∀ s : State, step (s.withPending []) = .next (s.withPending [])

/-- The state right after reset satisfies every law that a step keeps.  The erased memory of a part that has never
run and the store's index before its scan are the model's (assumptions 4, 6 and 33). -/
def Obligations.ResetSatisfiesTheLaws : Prop :=
  RunTripLaw State.reset ∧ TorqueLaw State.reset ∧ IntegratorLaw State.reset ∧ ConditionLaw State.reset
    ∧ WatchLaw State.reset ∧ LogLaw State.reset ∧ RecorderLaw State.reset ∧ StoreLaw State.reset.store
    ∧ NumberLaw State.reset.store ∧ TableLaw State.reset.tab ∧ LinkLaw State.reset.link

/-- Drive state, latch, cause list, TRIP line and the run controller's timers agree after every step. -/
def Obligations.StepKeepsRunTripLaw : Prop :=
  ∀ s t : State, RunTripLaw s → step s = .next t → RunTripLaw t

/-- Nothing is commanded outside BREAKAWAY and RUN, and the shares sum to the command. -/
def Obligations.StepKeepsTorqueLaw : Prop :=
  ∀ s t : State, TorqueLaw s → step s = .next t → TorqueLaw t

/-- The integrators of a regulator that is not driven are zero. -/
def Obligations.StepKeepsIntegratorLaw : Prop :=
  ∀ s t : State, RunTripLaw s → IntegratorLaw s → step s = .next t → IntegratorLaw t

/-- The active-condition set is what the owners of the conditions hold. -/
def Obligations.StepKeepsConditionLaw : Prop :=
  ∀ s t : State, ConditionLaw s → step s = .next t → ConditionLaw t

/-- The vibration derate in the limit stack is the least factor of the channels that count. -/
def Obligations.StepKeepsWatchLaw : Prop :=
  ∀ s t : State, WatchLaw s → step s = .next t → WatchLaw t

/-- The event ring holds at most 128 records, and the ALERT line follows the condition or the pulse. -/
def Obligations.StepKeepsLogLaw : Prop :=
  ∀ s t : State, LogLaw s → step s = .next t → LogLaw t

/-- The recorder's state, ring, timer and record agree with the latch and the store, where the tables and the
staging buffers satisfy their own law. -/
def Obligations.StepKeepsRecorderLaw : Prop :=
  ∀ s t : State, TableLaw s.tab → RecorderLaw s → step s = .next t → RecorderLaw t

/-- At most one store bank is programmed or erased, and the index agrees with itself. -/
def Obligations.StepKeepsStoreLaw : Prop :=
  ∀ s t : State, StoreLaw s.store → step s = .next t → StoreLaw t.store

/-- Records carry distinct trip numbers, through failures, misses, erases and resets.  With them every step keeps that
a slot of a stamped bank the index holds as BLANK reads erased, and that the slot in flight reads as its header and
erased beyond it: no cell changes by itself (the model's choice, assumption 41), and programming turns bits from 1 to
0 alone. -/
def Obligations.StepKeepsNumberLaw : Prop :=
  ∀ s t : State, NumberLaw s.store → step s = .next t → NumberLaw t.store

/-- Every active table is wholly one accepted image, and no table is FILLING twice. -/
def Obligations.StepKeepsTableLaw : Prop :=
  ∀ s t : State, TableLaw s.tab → step s = .next t → TableLaw t.tab

/-- The transmitters and the pending-answer slot agree. -/
def Obligations.StepKeepsLinkLaw : Prop :=
  ∀ s t : State, LinkLaw s.link → step s = .next t → LinkLaw t.link

/-! ### Frames -/

/-- A frame built for an arrival is accepted on its port and decodes to the arrival's command. -/
def Obligations.BuiltFramesDecodeToTheirCommand : Prop :=
  ∀ a : Arrival, (arrivalCommand a).wellFormed = true →
    checkFrame (arrivalPort a) (encodeArrival a) = none
      ∧ decodeFrame (arrivalPort a) (encodeArrival a) = arrivalCommand a

/-- A frame brings nothing exactly when a check refuses it.  That an arrival too short for its fields fails the CRC
check is the model's choice (assumption 9). -/
def Obligations.FrameBringsNothingExactlyWhenRefused : Prop :=
  ∀ (p : Port) (bytes : List Byte), decodeArrival p bytes = none ↔ (checkFrame p bytes).isSome = true

/-- The CRC of the nine bytes "123456789", and one hand-built frame of each arriving kind decoded: SETPOINT,
REQUEST, FEEDBACK, VIBSAMPLE and POSITION; a POSITION on channel 8 is refused.  The payloads the part builds,
byte by byte: ANSWER, VCMD and REPORT. -/
def Obligations.WrittenOutFramesDecode : Prop :=
  crc16 [0x31, 0x32, 0x33, 0x34, 0x35, 0x36, 0x37, 0x38, 0x39] = 0x29B1#16
  ∧ decodeFrame .S [0x10, 0x0A, 0xBC, 0x08, 0x01, 0x00, 0xF0, 0x00, 0x00, 0x00, 0x00, 0x07, 0x90, 0x32]
      = .setpoint 0xABC 1 0 0xF000#16 7
  ∧ decodeFrame .S [0x20, 0x00, 0x05, 0x05, 0x08, 0x12, 0x34, 0x05, 0x06, 0xF7, 0x9C]
      = .tableRead { seq := 5, tag := 0x1234, args := [5, 6] }
  ∧ decodeFrame .M1 [0x50, 0x00, 0x07, 0x0D, 0xFF, 0xFF, 0x0C, 0x1C, 0xFE, 0xD4, 0x07, 0xD0, 0x00, 0x3E,
        0x02, 0x00, 0x11, 0x1D, 0x59]
      = .feedback .B { seq := 7, id := 0xFFFF, iq := 3100, speed := 0xFED4, dcLink := 2000, temp := 62,
                       modState := 2, fault := 17 }
  ∧ decodeFrame .H [0x75, 0x00, 0x02, 0x10, 0x00, 0x01, 0x00, 0x02, 0x00, 0x03, 0x00, 0x04, 0x00, 0x05,
        0x00, 0x06, 0x00, 0x07, 0x80, 0x00, 0x11, 0x18]
      = .vibSample 5 2 #v[1, 2, 3, 4, 5, 6, 7, 0x8000]
  ∧ decodeFrame .H [0x87, 0x00, 0x01, 0x02, 0x80, 0x00, 0x11, 0x3D] = .position 1 0x8000#16
  ∧ decodeFrame .H [0x88, 0x00, 0x01, 0x02, 0x80, 0x00, 0xD4, 0x3E]
      = .refusedFrame .H [0x88, 0x00, 0x01, 0x02, 0x80, 0x00, 0xD4, 0x3E]
  ∧ (∀ a : Answer, a.payload = a.code :: bytes16 a.tag ++ BitVec.ofNat 8 a.answer.code :: a.data)
  ∧ (∀ v : Vcmd, v.payload = bytes16 (v.seq.setWidth 16) ++ bytes16 (BitVec.ofInt 16 v.vd)
      ++ bytes16 (BitVec.ofInt 16 v.vq) ++ [if v.block then 1 else 0])
  ∧ (∀ x : Report, x.payload =
      [BitVec.ofNat 8 x.drive.code,
        BitVec.ofNat 8 ((if x.trip then 1 else 0) + (if x.eccValid then 2 else 0) + (if x.ringAlert then 4 else 0)),
        match x.firstCause with | some c => BitVec.ofNat 8 c.kind.code | none => 0,
        match x.firstCause with | some c => c.source.code.setWidth 8 | none => 15]
      ++ bytes16 (BitVec.ofInt 16 x.tCmd) ++ bytes16 (BitVec.ofInt 16 x.lFwd) ++ bytes16 (BitVec.ofInt 16 x.lRev)
      ++ bytes16 (BitVec.ofInt 16 x.iqA) ++ bytes16 (BitVec.ofInt 16 x.iqB) ++ bytes16 (BitVec.ofInt 16 x.speed)
      ++ [BitVec.ofNat 8 (x.channels[0].code * 16 + x.channels[1].code),
        BitVec.ofNat 8 (x.channels[2].code * 16 + x.channels[3].code),
        BitVec.ofNat 8 (x.channels[4].code * 16 + x.channels[5].code), BitVec.ofNat 8 x.fill]
      ++ bytes16 (BitVec.ofNat 16 (min x.ecc 65535))
      ++ [BitVec.ofNat 8 (x.activity.code * 16 + match x.busy with | some b => b.val | none => 15),
        BitVec.ofNat 8 ((if x.sticky.requestOverrun then 1 else 0) + (if x.sticky.linkErrSeen then 2 else 0)
          + (if x.sticky.eventMissed then 4 else 0) + (if x.sticky.programFail then 8 else 0)
          + (if x.sticky.eraseFail then 16 else 0))]
      ++ bytes16 (BitVec.ofNat 16 x.skipped))

/-- Every accepted frame is taken to a next state, in which its sequence is the receive reference of its port
and channel, no error is counted, the gap count is what the judgement leaves, and the queue is as it was.  A
gap before it is added to the port's gap count and raised as LINK_ERR; without a gap nothing but the reference
changes.  For frames of every kind: the judgement comes first, and the frame then does what it does in sequence.
That in a pace arrival the pace count rises before the judgement is the model's reading (assumption 23,
DEDUCED). -/
def Obligations.AcceptedFramesAreSequenced : Prop :=
  (∀ (a : Arrival) (s : State), ∃ t, exec (arrivalCommand a) s = .next t
    ∧ t.link.errors = s.link.errors ∧ t.pending = s.pending
    ∧ (match a with
      | .setpoint seq _ _ _ _ => t.link.refS = some seq
      | .request _ r => t.link.refS = some r.seq
      | .feedback .A f => t.link.refM0 = some f.seq
      | .feedback .B f => t.link.refM1 = some f.seq
      | .vibSample c seq _ => t.link.refH[c.val] = some seq
      | .position seq _ => t.link.refH[7] = some seq))
  ∧ (∀ (p : Port) (c : Fin 8) (q : Seq) (s : State),
    (acceptFrame p c q s).link.ref p c = some q
    ∧ (s.link.ref p c = none ∨ s.link.ref p c = some (q - 1) →
        acceptFrame p c q s = { s with link := s.link.setRef p c q })
    ∧ ∀ old, s.link.ref p c = some old → q - old - 1 ≠ 0 →
        (acceptFrame p c q s).link.gaps[portIndex p]
            = min (s.link.gaps[portIndex p] + (q - old - 1).toNat) 65535
        ∧ (acceptFrame p c q s).link.linkErrSeen = true
        ∧ (acceptFrame p c q s).log =
            (raise .linkErr (.port p) (BitVec.ofNat 16 (64 + c.val)) (BitVec.ofNat 32 (portCode p))
              (BitVec.ofNat 32 (q - old - 1).toNat) s).log
        ∧ acceptFrame p c q s =
            { s with link := (acceptFrame p c q s).link, log := (acceptFrame p c q s).log })
  ∧ (∀ (a : Arrival) (s : State),
    let place : Fin 8 × Seq := match a with
      | .setpoint seq _ _ _ _ => (0, seq)
      | .request _ r => (0, r.seq)
      | .feedback _ f => (0, f.seq)
      | .vibSample c seq _ => (c.castLE (by decide), seq)
      | .position seq _ => (7, seq)
    let p := arrivalPort a
    let pace := match a with
      | .feedback m _ => if m = paceMotor s then s.link.paceCount + 1 else s.link.paceCount
      | _ => s.link.paceCount
    let j := acceptFrame p place.1 place.2 { s with link := { s.link with paceCount := pace } }
    exec (arrivalCommand a) s = exec (arrivalCommand a)
        { j with link := { j.link.setRef p place.1 (place.2 - 1) with paceCount := s.link.paceCount } }
    ∧ ∃ t, exec (arrivalCommand a) s = .next t ∧ t.link.gaps = j.link.gaps
      ∧ (match a with
        | .request _ _ => True
        | _ => t.link.linkErrSeen = j.link.linkErrSeen))

/-- REFUSED_FRAME: the port's error count rises, LINK_ERR is raised with the reason, LINK_ERR_SEEN is set,
and no block is reached.  The reason of an arrival too short for its fields is the model's choice (assumption 9). -/
def Obligations.RefusedFrameIsCountedAndRaised : Prop :=
  ∀ (p : Port) (bytes : List Byte) (reason : LinkReason) (s : State), checkFrame p bytes = some reason →
    ∃ t, exec (.refusedFrame p bytes) s = .next t
      ∧ t = { s with link := t.link, log := t.log }
      ∧ t.link = { s.link with
          errors := s.link.errors.set (portIndex p) (min (s.link.errors[portIndex p] + 1) 65535)
          linkErrSeen := true }
      ∧ t.log = (raise .linkErr (.port p)
          (BitVec.ofNat 16 (linkReasonCode reason * 16 + (arrivalChannel bytes).toNat))
          (BitVec.ofNat 32 (portCode p))
          (BitVec.ofNat 32 (min (s.link.errors[portIndex p] + 1) 65535)) s).log

/-! ### The event log -/

/-- An occurrence is passed over and counted down, or becomes a record and reloads its counter; a full ring
loses its oldest record (WRAP) or its newest (HOLD), and the loss is counted.  With an interval of n, of
n + 1 occurrences in a row the first alone becomes a record. -/
def Obligations.OccurrencesPassTheirCounter : Prop :=
  (∀ (k : EventKind) (o : Source) (f : Word) (a b : DWord) (s : State) (t : State),
    t = raise k o f a b s →
      t = { s with log := t.log }
      ∧ (∀ n, s.log.counters[k.index] = n + 1 →
          t.log = { s.log with counters := s.log.counters.set k.index n })
      ∧ (s.log.counters[k.index] = 0 →
          t.log.counters = s.log.counters.set k.index (eventTable s).intervals[k.index]
          ∧ (s.log.ring.length < 128 →
              t.log.ring = s.log.ring ++ [⟨k, o, f, s.link.paceCount, a, b⟩]
              ∧ t.log.missed = s.log.missed ∧ t.log.eventMissed = s.log.eventMissed)
          ∧ (128 ≤ s.log.ring.length →
              t.log.ring = (if (eventTable s).ringMode = .wrap then s.log.ring.tail else s.log.ring.dropLast)
                ++ [⟨k, o, f, s.link.paceCount, a, b⟩]
              ∧ t.log.missed = min (s.log.missed + 1) 65535 ∧ t.log.eventMissed = true)))
  ∧ (∀ (k : EventKind) (o : Source) (f : Word) (a b : DWord) (s : State), s.log.counters[k.index] = 0 →
    let n := (eventTable s).intervals[k.index]
    let t := (raise k o f a b)^[n + 1] s
    t.log.ring = (raise k o f a b s).log.ring ∧ t.log.counters[k.index] = 0)

/-- EVENT_READ removes up to two of the oldest records and answers with them.  EVENT_MARK is one occurrence of
MARK with the source and data given, and the answer says whether it was inserted; a source above 15 is
answered BAD_REQUEST, and nothing is done. -/
def Obligations.EventRequestsReadAndMark : Prop :=
  (∀ (r : Request) (s : State), s.link.slot = none → r.args = [] →
    let u := requestTaken r s
    let rest := u.log.ring.drop 2
    ∃ t, exec (.eventRead r) s = .next t
      ∧ t = { u with log := t.log, link := t.link }
      ∧ t.log.ring = rest ∧ t.log.counters = u.log.counters ∧ t.log.missed = u.log.missed
      ∧ t.log.eventMissed = u.log.eventMissed
      ∧ t.log.alertCond = (alertInputs u || decide ((eventTable u).fillThreshold ≤ rest.length))
      ∧ t.link = u.link.placeAnswer
          { code := 17, tag := r.tag, answer := .ok
            data := [BitVec.ofNat 8 (min 2 u.log.ring.length), BitVec.ofNat 8 rest.length]
              ++ bytes16 (BitVec.ofNat 16 u.log.missed)
              ++ (u.log.ring.take 2).flatMap EventRecord.compact })
  ∧ (∀ (r : Request) (s : State) (src a3 a2 a1 a0 b3 b2 b1 b0 : Byte), s.link.slot = none →
    r.args = [src, a3, a2, a1, a0, b3, b2, b1, b0] →
    let u := requestTaken r s
    let v := raise .mark (.mark (src.setWidth 4)) 0 (be32 a3 a2 a1 a0) (be32 b3 b2 b1 b0) u
    (15 < src.toNat → exec (.eventMark r) s = .next (answerPlaced 18 r .badRequest [] u))
    ∧ (src.toNat ≤ 15 →
      exec (.eventMark r) s = .next (answerPlaced 18 r .ok
        ((if u.log.counters[0] = 0 then 1 else 0) :: BitVec.ofNat 8 v.log.ring.length
          :: bytes16 (BitVec.ofNat 16 v.log.missed)) v)))

/-- PULSE_TIMER_EXPIRY releases the ALERT line and leaves all else. -/
def Obligations.PulseExpiryReleasesTheLine : Prop :=
  ∀ (s : State) (d : Nat), s.log.pulseTimer = .running d →
    exec .pulseTimerExpiry s =
      .next { s with log := { s.log with pulseTimer := .stopped, alertLine := false } }

/-! ### The request cycle -/

/-- Every request that finds the slot empty is answered once, with its code and tag; the answer is sent at
once from an idle transmitter and waits behind a report.  That the outbound sequence stands while the answer
waits is the model's reading (assumption 11, DEDUCED). -/
def Obligations.RequestIsAnsweredOnce : Prop :=
  ∀ (code : Byte) (r : Request) (s : State), s.link.slot = none →
    ∃ t a, exec (requestCommand code r) s = .next t
      ∧ t.link.slot = some a ∧ a.code = code ∧ a.tag = r.tag ∧ a.data.length ≤ 28
      ∧ (s.link.sTx = .idle → t.link.sTx = .answer s.link.outS a ∧ t.link.outS = s.link.outS + 1)
      ∧ (s.link.sTx ≠ .idle → t.link.sTx = s.link.sTx ∧ t.link.outS = s.link.outS)
      ∧ t.link.paceCount = s.link.paceCount ∧ t.pending = s.pending

/-- A request that finds an answer pending is discarded: its sequence has been judged, REQUEST_OVERRUN is
set, and nothing else changes. -/
def Obligations.RequestDuringPendingAnswerIsDiscarded : Prop :=
  ∀ (code : Byte) (r : Request) (s : State) (a : Answer), s.link.slot = some a →
    exec (requestCommand code r) s = .next { requestTaken r s with
      link := { (requestTaken r s).link with overrun := true } }

/-- A request with a wrong number of argument bytes, with an argument that names nothing or lies out of
range, with a code that names no request (REQUEST_UNKNOWN_CODE), or that writes, commits or aborts a FREE
buffer is answered BAD_REQUEST, and nothing is done. -/
def Obligations.BadRequestsChangeNothing : Prop :=
  (∀ (code : Byte) (r : Request) (s : State), s.link.slot = none →
    argumentCount code.toNat r.args.length = false →
    exec (requestCommand code r) s = .next (answerPlaced code r .badRequest [] (requestTaken r s)))
  ∧ (∀ (code : Byte) (r : Request) (s : State), s.link.slot = none →
    argumentOutOfRange code.toNat r.args = true →
    exec (requestCommand code r) s = .next (answerPlaced code r .badRequest [] (requestTaken r s)))
  ∧ (∀ (code : Byte) (r : Request) (s : State), s.link.slot = none → code.toNat = 0 ∨ 19 < code.toNat →
    exec (.requestUnknownCode code r) s = .next (answerPlaced code r .badRequest [] (requestTaken r s)))
  ∧ (∀ (r : Request) (s : State), s.link.slot = none →
    (∀ n : Bool, r.args = [if n then 1 else 0] → s.tab.buffer n = none →
      exec (.tableCommit r) s = .next (answerPlaced 6 r .badRequest [] (requestTaken r s))
      ∧ exec (.tableAbort r) s = .next (answerPlaced 7 r .badRequest [] (requestTaken r s)))
    ∧ (∀ (pos : Byte) (bytes : List Byte), r.args = pos :: bytes →
      s.tab.buffer (decide (128 ≤ pos.toNat)) = none →
      exec (.tableWrite r) s = .next (answerPlaced 5 r .badRequest [] (requestTaken r s))))

/-- IDENTIFY answers vendor, part, revision, table formats and store geometry, in every state; the widths of
vendor, part, revision, bank count and slots per bank in its bytes are the model's reading (assumption 40,
DEDUCED).  STATUS_CLEAR clears the five sticky flags and answers them as they stood, with the error and gap
counts, which it keeps. -/
def Obligations.IdentifyAndStatusClearAnswer : Prop :=
  (∀ (r : Request) (s : State), s.link.slot = none → r.args = [] →
    exec (.identify r) s = .next (answerPlaced 1 r .ok
      [0x00, 0x56, 0x0D, 0x42, 0x00, 0x01, 1, 1, 1, 1, 1, 4, 8, 0x08, 0x70] (requestTaken r s)))
  ∧ (∀ (r : Request) (s : State), s.link.slot = none → r.args = [] →
    let u := requestTaken r s
    exec (.statusClear r) s = .next (answerPlaced 2 r .ok
      ((stickyFlags u).byte
        :: bytes16 (BitVec.ofNat 16 u.link.errors[0]) ++ bytes16 (BitVec.ofNat 16 u.link.gaps[0])
        ++ bytes16 (BitVec.ofNat 16 u.link.errors[1]) ++ bytes16 (BitVec.ofNat 16 u.link.gaps[1])
        ++ bytes16 (BitVec.ofNat 16 u.link.errors[2]) ++ bytes16 (BitVec.ofNat 16 u.link.gaps[2])
        ++ bytes16 (BitVec.ofNat 16 u.link.errors[3]) ++ bytes16 (BitVec.ofNat 16 u.link.gaps[3]))
      { u with
        link := { u.link with overrun := false, linkErrSeen := false }
        log := { u.log with eventMissed := false }
        store := { u.store with programFail := false, eraseFail := false } }))

/-- An accepted RESTART returns run controller, recorder and trip to their start, empties the event ring of
every old record, sets counters and missed count to 0 and keeps EVENT_MISSED, and enters READY where the READY
conditions hold; what stands in the ring afterwards are the DRIVE_STATE records of the RESTART, that of reason
RESTART the first.  Tables, regulators, watch, load profile and store are kept.  It is refused with RUNNING
while the drive is energised, else with RECORDING while the recorder is FROZEN or WRITING, and then changes
nothing.  That the trigger copy is cleared with the rest of the recorder is the model's reading (assumption 31). -/
def Obligations.RestartReturnsToTheStart : Prop :=
  (∀ (r : Request) (s : State), s.link.slot = none → r.args = [] → energised s = false →
    s.recorder.state ≠ .frozen → s.recorder.state ≠ .writing →
    ∃ t, exec (.restart r) s = .next t
      ∧ t.run = { RunController.reset with state := if readyConditions t then .ready else .off }
      ∧ t.trip = { s.trip with
          latch := false, list := [], overflowCount := 0, overflowSet := [], tripLine := false,
          active := s.trip.active.filter fun c => c != ⟨.supLost, .none⟩ }
      ∧ t.recorder = Recorder.reset
      ∧ t.lim.missCount = 0 ∧ t.lim.supLost = false ∧ t.lim.tReq = s.lim.tReq
      ∧ t.lim.supTime = s.lim.supTime ∧ t.lim.spTimer = s.lim.spTimer
      ∧ t.log.ring.length ≤ 2 ∧ t.log.missed = 0
      ∧ (∀ k : Fin 16, k ≠ 10 → t.log.counters[k] = 0)
      ∧ ((eventTable s).intervals[10] = 0 → t.log.counters[10] = 0)
      ∧ (∀ e ∈ t.log.ring, e.kind = .driveState ∧ e.pace = s.link.paceCount ∧ (e.flags = 12 ∨ e.flags = 0))
      ∧ (s.run.state = .off → readyConditions t = false → t.log.ring = [] ∧ t.log.counters[10] = 0)
      ∧ (s.run.state ≠ .off → t.log.ring.head? = some {
          kind := .driveState, source := .none, flags := 12, pace := s.link.paceCount,
          data1 := BitVec.ofNat 32 s.run.state.code, data2 := 0 })
      ∧ t.log.eventMissed = (requestTaken r s).log.eventMissed
      ∧ t.link = (requestTaken r s).link.placeAnswer
          { code := 3, tag := r.tag, answer := .ok, data := [] }
      ∧ t = { s with
          run := t.run, trip := t.trip, recorder := t.recorder, lim := t.lim, log := t.log, link := t.link })
  ∧ (∀ (r : Request) (s : State), s.link.slot = none → r.args = [] →
    (energised s = true →
      exec (.restart r) s = .next (answerPlaced 3 r .running [] (requestTaken r s)))
    ∧ (energised s = false → s.recorder.state = .frozen →
      exec (.restart r) s = .next (answerPlaced 3 r .recording [2] (requestTaken r s)))
    ∧ (energised s = false → s.recorder.state = .writing →
      exec (.restart r) s = .next (answerPlaced 3 r .recording [3] (requestTaken r s))))

/-! ### The ends of transmissions, the lines, reset -/

/-- TRANSMISSION_END: a waiting answer follows a report, an answer's end empties the slot, and otherwise the
transmitter is idle.  VCMD_TRANSMISSION_END: the next VCMD formed follows; without one the transmitter is idle.
That a waiting frame takes the port's outbound sequence, which then advances, at the start of its own
transmission is the model's reading (assumption 11, DEDUCED). -/
def Obligations.TransmissionEndsFreeOrFollow : Prop :=
  (∀ s : State,
    (∀ q a, s.link.sTx = .answer q a →
      exec .transmissionEnd s = .next { s with link := { s.link with sTx := .idle, slot := none } })
    ∧ (∀ q x a, s.link.sTx = .report q x → s.link.slot = some a →
      exec .transmissionEnd s =
        .next { s with link := { s.link with sTx := .answer s.link.outS a, outS := s.link.outS + 1 } })
    ∧ (∀ q x, s.link.sTx = .report q x → s.link.slot = none →
      exec .transmissionEnd s = .next { s with link := { s.link with sTx := .idle } }))
  ∧ (∀ (s : State) (x v : Seq × Vcmd) (w : Vcmd) (rest : List Vcmd),
    (s.link.m0Tx = { sending := some x, waiting := w :: rest } →
      exec (.vcmdTransmissionEnd .A) s = .next { s with link := { s.link with
        m0Tx := { sending := some (s.link.outM0, w), waiting := rest }, outM0 := s.link.outM0 + 1 } })
    ∧ (s.link.m0Tx = { sending := some x, waiting := [] } →
      exec (.vcmdTransmissionEnd .A) s = .next { s with link := { s.link with
        m0Tx := { sending := none, waiting := [] } } })
    ∧ (s.link.m1Tx = { sending := some v, waiting := w :: rest } →
      exec (.vcmdTransmissionEnd .B) s = .next { s with link := { s.link with
        m1Tx := { sending := some (s.link.outM1, w), waiting := rest }, outM1 := s.link.outM1 + 1 } })
    ∧ (s.link.m1Tx = { sending := some v, waiting := [] } →
      exec (.vcmdTransmissionEnd .B) s = .next { s with link := { s.link with
        m1Tx := { sending := none, waiting := [] } } }))

/-- HARDWARE_RESET, in every state, completes in the whole reset state: each register of each block at the
value the manual gives, with the store's memory kept and its scan begun.  The model's choices among these are
the LOCK line and the queue kept (assumptions 5 and 8), the store's current bank, next number and bank entries
until the scan ends (assumptions 33 and 6), the VCMD frames on M0 and M1 discarded (assumption 38), and the
counter of free values, which is the model's own (assumption 3). -/
def Obligations.HardwareResetKeepsTheMemoryAlone : Prop :=
  ∀ s : State, ∃ t, exec .hardwareReset s = .next t
    ∧ t.store.nv = s.store.nv ∧ t.store.activity = .scanning ∧ t.store.queue = [] ∧ t.store.offer = .none
    ∧ t.store.overwritten = 0 ∧ t.store.missed = 0 ∧ t.store.programFail = false ∧ t.store.eraseFail = false
    ∧ t.store.programFails = 0 ∧ t.store.eraseFails = 0 ∧ t.store.eraseAll = false
    ∧ t.store.program = none ∧ t.store.busy = none
    ∧ t.store.current = 0 ∧ t.store.nextNumber = 0 ∧ t.store.nextTag = s.store.nextTag
    ∧ (∀ b : Fin 4, t.store.banks[b] =
        { state := .needsErase, eraseCount := 0, validCount := 0,
          slots := Vector.replicate 8 { state := .void, number := none }, marks := [] })
    ∧ t.run = { state := .off, runEdge := false, attempts := 0, brkTimer := .stopped, restTimer := .stopped,
                stopTimer := .stopped }
    ∧ t.lim = {
        stack := { baseFwd := 0, baseRev := 0, vibDerate := 4096, thermA := 4096, thermB := 4096, derate := 4096,
                   tightest := .none, lFwd := 0, lRev := 0, limiting := false },
        tReq := 0, tCmd := 0, supTime := 0, shareA := 0, shareB := 0, iqRefA := 0, iqRefB := 0, tMeas := 0,
        otCount := 0, stallTimer := .stopped, missCount := 0, spTimer := .stopped, supLost := false }
    ∧ (∀ m, t.reg m = {
        seen := false, lastSeq := 0, idMeas := 0, iqMeas := 0, speed := 0, dcLink := 0, temp := 0,
        modState := .notReady, faultCode := 0, therm := 4096, intD := 0, intQ := 0, band := 0, vdLast := 0,
        vqLast := 0, missCount := 0, fbTimer := .stopped, overtemp := false, modFault := false, fbLost := false })
    ∧ (∀ c : Fin 6, t.vib.channels[c] =
        { state := .off, phase := .gather, acc := 0, frames := 0, overrange := false, persist := 0,
          lastLevel := 0, silenceTimer := .stopped, danger := false })
    ∧ t.vib.derate = 4096
    ∧ t.load = { refPresent := false, lastAngle := 0, posTimer := .stopped, acc := Vector.replicate 16 0,
                 cnt := Vector.replicate 16 0, avg := Vector.replicate 16 0, ecc := 0, eccValid := false,
                 ringAlert := false }
    ∧ t.trip = { latch := false, list := [], overflowCount := 0, overflowSet := [], active := [],
                 extTrip := false, tripLine := false }
    ∧ t.recorder = {
        state := .armed, ring := [], preCount := 0, postCount := 0, postTarget := 0, postTimer := .stopped,
        trigger := { pace := 0, supTime := 0, lFwd := 0, derate := 0, attempts := 0, dcA := 0, tempA := 0,
                     dcB := 0, tempB := 0 },
        ramRecord := none }
    ∧ t.log = { counters := Vector.replicate 16 0, ring := [], missed := 0, eventMissed := false,
                alertCond := false, pulseTimer := .stopped, alertLine := false }
    ∧ t.tab.gain = none ∧ t.tab.limit = none ∧ t.tab.vib = none ∧ t.tab.drive = none
    ∧ t.tab.event = { version := 0, table := EventTable.default } ∧ t.tab.buf0 = none ∧ t.tab.buf1 = none
    ∧ (∀ k : Fin 5, t.tab.locks[k] = false)
    ∧ t.link.refS = none ∧ t.link.refM0 = none ∧ t.link.refM1 = none
    ∧ (∀ c : Fin 8, t.link.refH[c] = none)
    ∧ (∀ p : Fin 4, t.link.errors[p] = 0 ∧ t.link.gaps[p] = 0)
    ∧ t.link.paceCount = 0 ∧ t.link.outS = 0 ∧ t.link.outM0 = 0 ∧ t.link.outM1 = 0
    ∧ t.link.reportPhase = .pass ∧ t.link.remaining = 0 ∧ t.link.skipped = 0
    ∧ t.link.slot = none ∧ t.link.sTx = .idle
    ∧ t.link.m0Tx = { sending := none, waiting := [] } ∧ t.link.m1Tx = { sending := none, waiting := [] }
    ∧ t.link.overrun = false ∧ t.link.linkErrSeen = false
    ∧ t.tab.lockLine = s.tab.lockLine ∧ t.pending = s.pending

/-- LOCK_LINE_CHANGE changes the level of the line and nothing else; LOCK_SET sets one lock bit whatever the
line shows; LOCK_CLEAR clears one while the line is released and is refused with LOCKED while it is
asserted; the answers carry the five bits and the line. -/
def Obligations.LocksFollowTheLine : Prop :=
  (∀ (x : Bool) (s : State),
    exec (.lockLineChange x) s = .next { s with tab := { s.tab with lockLine := x } })
  ∧ ∀ (r : Request) (s : State) (n : Byte) (t : TableId), s.link.slot = none → r.args = [n] →
      TableId.ofByte n = some t →
      let u := requestTaken r s
      let bits := fun v : Vector Bool 5 => BitVec.ofNat 8
        ((if v[0] then 1 else 0) + (if v[1] then 2 else 0) + (if v[2] then 4 else 0)
          + (if v[3] then 8 else 0) + (if v[4] then 16 else 0))
      let line : Byte := if s.tab.lockLine then 1 else 0
      let with_ := fun x : Bool => Vector.ofFn fun k : Fin 5 => if k.val + 1 = t.code then x else s.tab.locks[k]
      exec (.lockSet r) s = .next (answerPlaced 9 r .ok [bits (with_ true), line]
          { u with tab := { u.tab with locks := with_ true } })
      ∧ (s.tab.lockLine = true →
        exec (.lockClear r) s = .next (answerPlaced 10 r .locked [bits s.tab.locks, line] u))
      ∧ (s.tab.lockLine = false →
        exec (.lockClear r) s = .next (answerPlaced 10 r .ok [bits (with_ false), line]
          { u with tab := { u.tab with locks := with_ false } }))

/-! ### Tables -/

/-- TABLE_OPEN of a table that is not FILLING, at an allowed length, takes buffer 0 if it is FREE, otherwise
buffer 1: the header stands in positions 0 to 5 and nothing else is written.  It is refused with IN_USE and
the buffer's number where a buffer is FILLING for the table, else with NO_BUFFER where neither is FREE, and
then changes nothing. -/
def Obligations.TableOpenTakesAFreeBuffer : Prop :=
  (∀ (r : Request) (s : State) (n v1 v0 l1 l0 : Byte) (t : TableId), s.link.slot = none →
    r.args = [n, v1, v0, l1, l0] → TableId.ofByte n = some t → lengthOk t (be16 l1 l0).toNat = true →
    (∀ x b, s.tab.buffer x = some b → b.table ≠ t) → s.tab.buf0 = none ∨ s.tab.buf1 = none →
    let k := s.tab.buf0.isSome
    ∃ b, exec (.tableOpen r) s = .next (answerPlaced 4 r .ok [if k then 1 else 0]
          { requestTaken r s with tab := (requestTaken r s).tab.setBuffer k (some b) })
      ∧ b.table = t ∧ b.version = be16 v1 v0 ∧ b.length = (be16 l1 l0).toNat
      ∧ (∀ i, Cells.read b.cells i = [0, BitVec.ofNat 8 t.code, v1, v0, l1, l0][i]?)
      ∧ b.written = 6 ∧ b.highest = 5 ∧ Cells.wf b.cells = true)
  ∧ (∀ (r : Request) (s : State) (n v1 v0 l1 l0 : Byte) (t : TableId) (a b : Staging), s.link.slot = none →
    r.args = [n, v1, v0, l1, l0] → TableId.ofByte n = some t → lengthOk t (be16 l1 l0).toNat = true →
    (s.tab.buf0 = some a → a.table = t →
      exec (.tableOpen r) s = .next (answerPlaced 4 r .inUse [0] (requestTaken r s)))
    ∧ (s.tab.buf1 = some b → b.table = t → (∀ x, s.tab.buf0 = some x → x.table ≠ t) →
      exec (.tableOpen r) s = .next (answerPlaced 4 r .inUse [1] (requestTaken r s)))
    ∧ (s.tab.buf0 = some a → s.tab.buf1 = some b → a.table ≠ t → b.table ≠ t →
      exec (.tableOpen r) s = .next (answerPlaced 4 r .noBuffer [] (requestTaken r s))))

/-- TABLE_WRITE stores each byte at its position and leaves every other position of both buffers as it was;
the answer carries the count of bytes written and the highest offset. -/
def Obligations.TableWriteStoresItsBytesAlone : Prop :=
  ∀ (r : Request) (s : State) (pos : Byte) (bytes : List Byte) (b : Staging), s.link.slot = none →
    r.args = pos :: bytes → 1 ≤ bytes.length → bytes.length ≤ 28 →
    s.tab.buffer (decide (128 ≤ pos.toNat)) = some b →
    let offset := pos.toNat % 128 + 6
    (b.length < offset + bytes.length →
      exec (.tableWrite r) s = .next (answerPlaced 5 r .badLength [] (requestTaken r s)))
    ∧ (offset + bytes.length ≤ b.length →
      ∃ c, exec (.tableWrite r) s = .next (answerPlaced 5 r .ok
            (bytes16 (BitVec.ofNat 16 c.written) ++ bytes16 (BitVec.ofNat 16 c.highest))
            { requestTaken r s with
              tab := (requestTaken r s).tab.setBuffer (decide (128 ≤ pos.toNat)) (some c) })
        ∧ c = { b with cells := c.cells }
        ∧ (∀ i (h : i < bytes.length), Cells.read c.cells (offset + i) = some bytes[i])
        ∧ (∀ k, k < offset ∨ offset + bytes.length ≤ k → Cells.read c.cells k = Cells.read b.cells k))

/-- TABLE_ABORT of a FILLING buffer frees it, answers the table it was filling and touches nothing else; of a
FREE buffer, or of a number that is not 0 or 1, it is answered BAD_REQUEST. -/
def Obligations.TableAbortFreesTheBuffer : Prop :=
  ∀ (r : Request) (s : State) (x : Byte), s.link.slot = none → r.args = [x] →
    (1 < x.toNat → exec (.tableAbort r) s = .next (answerPlaced 7 r .badRequest [] (requestTaken r s)))
    ∧ (∀ n : Bool, x = (if n then 1 else 0) → s.tab.buffer n = none →
      exec (.tableAbort r) s = .next (answerPlaced 7 r .badRequest [] (requestTaken r s)))
    ∧ (∀ (n : Bool) (b : Staging), x = (if n then 1 else 0) → s.tab.buffer n = some b →
      exec (.tableAbort r) s = .next (answerPlaced 7 r .ok [BitVec.ofNat 8 b.table.code]
        { requestTaken r s with tab := (requestTaken r s).tab.setBuffer n none }))

/-- The refusals of TABLE_COMMIT in their order: a position not written, a locked table under an asserted
line, a DRIVE table while energised, a hard error; a refused commit changes nothing. -/
def Obligations.TableCommitIsRefusedInOrder : Prop :=
  ∀ (r : Request) (s : State) (n : Bool) (b : Staging), s.link.slot = none →
    r.args = [if n then 1 else 0] → s.tab.buffer n = some b →
    let u := requestTaken r s
    let full := ∀ i < b.length, Cells.read b.cells i ≠ none
    let locked := s.tab.locks[b.table.index] = true ∧ s.tab.lockLine = true
    let running := b.table = .drive ∧ energised s = true
    (∀ p, p < b.length → Cells.read b.cells p = none → (∀ i < p, Cells.read b.cells i ≠ none) →
      exec (.tableCommit r) s = .next (answerPlaced 6 r .badLength (bytes16 (BitVec.ofNat 16 p)) u))
    ∧ (full → locked → exec (.tableCommit r) s = .next (answerPlaced 6 r .locked [] u))
    ∧ (full → ¬locked → running → exec (.tableCommit r) s = .next (answerPlaced 6 r .running [] u))
    ∧ (∀ k, full → ¬locked → ¬running → validate b.table b.length b.image = .bad k →
      exec (.tableCommit r) s = .next (answerPlaced 6 r .badTable (bytes16 (BitVec.ofNat 16 k)) u))

/-- An accepted TABLE_COMMIT puts the accepted image in place of the active one with its version, frees the
buffer, and answers OK or ADJUSTED with the count; the regulators' measurements, the store, the recorder, the
cause list and the latch are as they were.  A GAIN or LIMIT commit is an evaluation point of the READY
conditions in OFF and READY.  A DRIVE commit restarts the report pattern, makes the conditions of a motor
outside the new set inactive, lowers the attempt count to the new BRK_RETRIES and is an evaluation point.  An
EVENT commit clears the counters, keeps ring, missed count and EVENT_MISSED, changes the ALERT mode and judges
the condition under the new table.  For each of the five tables the TABLE event comes last, after every record its
owners raise: for GAIN, LIMIT and DRIVE the DRIVE_STATE record of the evaluation point, for EVENT none, for VIB
those of the channels and the ring alert, which O37 states (with the model's readings, assumptions 12 and 19). -/
def Obligations.TableCommitReplacesTheImage : Prop :=
  ∀ (r : Request) (s : State) (n : Bool) (b : Staging) (fields : List Int) (k : Nat), s.link.slot = none →
    r.args = [if n then 1 else 0] → s.tab.buffer n = some b →
    (∀ i < b.length, Cells.read b.cells i ≠ none) →
    ¬(s.tab.locks[b.table.index] = true ∧ s.tab.lockLine = true) →
    ¬(b.table = .drive ∧ energised s = true) →
    validate b.table b.length b.image = .good fields k →
    let image := { requestTaken r s with tab := (s.tab.activate b.table b.version fields).setBuffer n none }
    let reported := fun x : State => raise .table (.table b.table) (if 0 < k then 1 else 0)
      (b.version.setWidth 32) (BitVec.ofNat 32 k) x
    ∃ t, exec (.tableCommit r) s = .next t
      ∧ t.log = (reported (informOwners b.table (eventTable s).alertMode image)).log
      ∧ (b.table = .gain ∨ b.table = .limit ∨ b.table = .drive →
          t.log = (reported (conditionsRecord (readyConditions t) image)).log)
      ∧ t.tab = (s.tab.activate b.table b.version fields).setBuffer n none
      ∧ t.link.slot = some
          { code := 6, tag := r.tag, answer := if k = 0 then .ok else .adjusted,
            data := if k = 0 then [] else bytes16 (BitVec.ofNat 16 k) }
      ∧ (b.table ≠ .drive → t.regA = s.regA ∧ t.regB = s.regB)
      ∧ (b.table ≠ .vib → t.vib = s.vib ∧ t.load = s.load ∧ t.lim.stack.vibDerate = s.lim.stack.vibDerate)
      ∧ (b.table = .vib ∨ b.table = .event → t.run = s.run)
      ∧ t.regA.iqMeas = s.regA.iqMeas ∧ t.regB.iqMeas = s.regB.iqMeas
      ∧ t.lim.tReq = s.lim.tReq ∧ t.trip.latch = s.trip.latch ∧ t.trip.list = s.trip.list
      ∧ t.store = s.store ∧ t.recorder = s.recorder ∧ t.pending = s.pending
      ∧ (b.table = .gain ∨ b.table = .limit → t.run =
          (if s.run.state = .off ∧ readyConditions t = true then
            { s.run with state := .ready, runEdge := false, attempts := 0 }
          else if s.run.state = .ready ∧ readyConditions t = false then { s.run with state := .off, attempts := 0 }
          else s.run))
      ∧ (b.table = .drive →
          let d := DriveTable.ofFields fields
          let released := fun c : CauseId => ∃ m, d.motorSet.has m = false
            ∧ (c = ⟨.overtemp, .motor m⟩ ∨ c = ⟨.modFault, .motor m⟩ ∨ c = ⟨.fbLost, .motor m⟩)
          t.link.reportPhase = .pass ∧ t.link.remaining = d.reportPass
          ∧ (∀ m, t.reg m = if d.motorSet.has m then s.reg m
              else { s.reg m with overtemp := false, modFault := false, fbLost := false })
          ∧ (∀ c, c ∈ t.trip.active ↔ c ∈ s.trip.active ∧ ¬released c)
          ∧ t.run =
            (if s.run.state = .off ∧ readyConditions t = true then
              { s.run with state := .ready, runEdge := false, attempts := 0 }
            else if s.run.state = .ready ∧ readyConditions t = false then
              { s.run with state := .off, attempts := 0 }
            else { s.run with attempts := min s.run.attempts d.brkRetries }))
      ∧ (b.table = .event →
          let e := EventTable.ofFields fields
          let u := requestTaken r s
          let was := (eventTable s).alertMode
          let holds := alertInputs s || decide (e.fillThreshold ≤ u.log.ring.length)
          ∃ l : EventLog,
            t.log = (raise .table (.table .event) (if 0 < k then 1 else 0) (b.version.setWidth 32)
              (BitVec.ofNat 32 k) { u with tab := t.tab, log := l }).log
            ∧ (∀ i : Fin 16, l.counters[i] = 0)
            ∧ l.ring = u.log.ring ∧ l.missed = u.log.missed ∧ l.eventMissed = u.log.eventMissed
            ∧ l.alertCond = holds
            ∧ (e.alertMode = .level → l.alertLine = holds
                ∧ l.pulseTimer = if was = .pulse then .stopped else u.log.pulseTimer)
            ∧ (e.alertMode = .pulse → was = .level → l.alertLine = false ∧ l.pulseTimer = .stopped)
            ∧ (e.alertMode = .pulse → was = .pulse →
                if holds = true ∧ u.log.alertCond = false then
                  l.alertLine = true ∧ l.pulseTimer = .running e.pulseWidth
                else l.alertLine = u.log.alertLine ∧ l.pulseTimer = u.log.pulseTimer))

/-- The active image, read back and validated again, is accepted with nothing to change: clamping, replacing
and forcing are done once. -/
def Obligations.AcceptedImageRevalidatesUnchanged : Prop :=
  ∀ (t : TableId) (image : List Byte) (fields : List Int) (k : Nat) (m : TableManager) (v : Word),
    lengthOk t image.length = true → validate t image.length image = .good fields k →
    ∃ back, (m.activate t v fields).image t = some back
      ∧ back.length = image.length
      ∧ back.take 6 = bytes16 (BitVec.ofNat 16 t.code) ++ bytes16 v ++ bytes16 (BitVec.ofNat 16 image.length)
      ∧ validate t back.length back = .good fields 0

/-- TABLE_READ answers 28 bytes of the active image from the offset on, zeros beyond its end, and changes
nothing.  It is refused with BAD_REQUEST where the number names no table, else with NO_RECORD without an
active image, else with BAD_REQUEST at an offset at or beyond the image's length. -/
def Obligations.TableReadReturnsTheImage : Prop :=
  ∀ (r : Request) (s : State) (n o : Byte), s.link.slot = none → r.args = [n, o] →
    let u := requestTaken r s
    (n.toNat = 0 ∨ 5 < n.toNat → exec (.tableRead r) s = .next (answerPlaced 8 r .badRequest [] u))
    ∧ (∀ t : TableId, n.toNat = t.code → s.tab.image t = none →
        exec (.tableRead r) s = .next (answerPlaced 8 r .noRecord [] u))
    ∧ (∀ (t : TableId) image, n.toNat = t.code → s.tab.image t = some image → image.length ≤ o.toNat →
        exec (.tableRead r) s = .next (answerPlaced 8 r .badRequest [] u))
    ∧ (∀ (t : TableId) image, n.toNat = t.code → s.tab.image t = some image → o.toNat < image.length →
        ∃ data, exec (.tableRead r) s = .next (answerPlaced 8 r .ok data u)
          ∧ data.length = 28 ∧ ∀ i < 28, data[i]? = some (image.getD (o.toNat + i) 0))

/-- An accepted VIB commit sets up every channel under the new image: SILENT where enabled and OFF where
disabled, with its window, persistence count and last level cleared and VIB_DANGER inactive, and delivers
the derate of the new factors.  The load profile keeps reference, last angle, sums, averages, ECC with its valid
flag, and a running position timer with its duration; its ring alert alone is judged, against the new thresholds.
The records: VIB_STATE of every channel that changes, in channel order, then RING_STATE of a ring alert that
changes, both with reason COMMIT, then TABLE.  The model's readings: VIB_STATE carries the last level as it stood
before it is cleared (assumption 12, DEDUCED), and the ALERT condition is judged for each change of a channel and of
the ring alert before its record is raised (assumption 19, DEDUCED). -/
def Obligations.VibCommitRestartsEveryChannel : Prop :=
  ∀ (r : Request) (s : State) (n : Bool) (b : Staging) (fields : List Int) (k : Nat), s.link.slot = none →
    ConditionLaw s →
    r.args = [if n then 1 else 0] → s.tab.buffer n = some b → b.table = .vib →
    (∀ i < b.length, Cells.read b.cells i ≠ none) →
    ¬(s.tab.locks[2] = true ∧ s.tab.lockLine = true) →
    validate .vib b.length b.image = .good fields k →
    let state := fun c : Fin 6 =>
      if (VibTable.ofFields fields).channels[c].enable then ChannelState.silent else ChannelState.off
    ∃ t image, exec (.tableCommit r) s = .next t
      ∧ t.tab.vib = some { version := b.version, table := image } ∧ image = VibTable.ofFields fields
      ∧ (∀ c : Fin 6, t.vib.channels[c] =
          { state := if image.channels[c].enable then .silent else .off, phase := .gather, acc := 0,
            frames := 0, overrange := false, persist := 0, lastLevel := 0, silenceTimer := .stopped,
            danger := false })
      ∧ (∀ c : Fin 6, ⟨.vibDanger, .channel c⟩ ∉ t.trip.active)
      ∧ t.lim.stack.vibDerate = ((List.finRange 6).filter fun c =>
            image.channels[c].enable && image.channels[c].required).foldl
          (fun d c => min d image.channels[c].factor) 4096
      ∧ t.vib.derate = t.lim.stack.vibDerate
      ∧ t.load = { s.load with ringAlert :=
          if s.load.eccValid = true ∧ image.ringAlert ≤ s.load.ecc then true
          else if s.load.ecc < image.ringClear then false
          else s.load.ringAlert }
      ∧ t.log = (raise .table (.table .vib) (if 0 < k then 1 else 0) (b.version.setWidth 32)
          (BitVec.ofNat 32 k) (ringStateRecord t.load.ringAlert 2 s.load.ecc
            (([0, 1, 2, 3, 4, 5] : List (Fin 6)).foldl
              (fun x c => if s.vib.channels[c].state = state c then x
                else vibStateRecord c (state c) 3 s.vib.channels[c].lastLevel x)
              { requestTaken r s with tab := t.tab }))).log

/-! ### Trips -/

/-- The first cause latches: it becomes the one entry of the list, TRIP is asserted, the drive enters TRIPPED
with its timers stopped and nothing commanded, an ARMED recorder is triggered and copies the limits computed in
TRIPPED, and out of an energised state every regulator clears its integrators and, but for the one whose own event it
is, blocks at once where it has had feedback; the records are DRIVE_STATE to TRIPPED, BRK_END ABANDONED where a
breakaway is cut off by another cause than its own failure, and TRIP with flags FIRST.  A later cause is appended once, up to eight entries; beyond them it is counted once as overflow; a repeat
changes nothing.  A cause that latches inside a setpoint (EXT_TRIP) does the same but for the torque computation,
which is the setpoint's own.  The model's readings: the recorder then copies the limits of the computation before
the setpoint (assumption 32, DEDUCED), the ALERT condition is judged for the latch before the records of the trip are
raised (assumption 19, DEDUCED), and a blocking command sets the last voltages to 0 (assumption 22, DEDUCED). -/
def Obligations.CausesLatchAndAreListedOnce : Prop :=
  (∀ (d : Delivery) (c : CauseId) (v : DWord) (s : State), s.trip.latch = false → d.inSetpoint = false →
    0 ≤ (driveFieldsOf s).iqMax →
    let t := deliverCause d c v s
    t.trip = { s.trip with
        latch := true, tripLine := true,
        list := [{ id := c, pace := s.link.paceCount, value := v, supTime := s.lim.supTime }] }
    ∧ t.run.state = .tripped ∧ t.run.attempts = s.run.attempts ∧ t.run.runEdge = s.run.runEdge
    ∧ t.run.brkTimer = .stopped ∧ t.run.restTimer = .stopped ∧ t.run.stopTimer = .stopped
    ∧ t.lim.tCmd = 0 ∧ t.lim.iqRefA = 0 ∧ t.lim.iqRefB = 0 ∧ t.lim.otCount = 0
    ∧ t.lim.stallTimer = .stopped
    ∧ (energised s = true → t.regA.intD = 0 ∧ t.regA.intQ = 0 ∧ t.regB.intD = 0 ∧ t.regB.intQ = 0)
    ∧ (s.recorder.state = .armed → t.recorder.state = .post ∧ t.recorder.postCount = 0
        ∧ t.recorder.preCount = min s.recorder.ring.length (preCountAt s)
        ∧ t.recorder.postTarget = 256 - preCountAt s
        ∧ t.recorder.postTimer = .running (postLimitAt s)
        ∧ t.recorder.ring = s.recorder.ring.drop (s.recorder.ring.length - preCountAt s)
        ∧ t.recorder.trigger = {
            pace := s.link.paceCount, supTime := s.lim.supTime, lFwd := t.lim.stack.lFwd,
            derate := t.lim.stack.derate, attempts := s.run.attempts, dcA := s.regA.dcLink,
            tempA := s.regA.temp, dcB := s.regB.dcLink, tempB := s.regB.temp })
    ∧ t.lim.stack.derate = leastDerate (motorSet s) s.lim.stack.vibDerate s.lim.stack.thermA s.lim.stack.thermB
    ∧ (∀ l, activeLimit s = some l →
        (t.lim.stack.baseFwd, t.lim.stack.baseRev) = curveAt l.points (mag (paceSpeed s)))
    ∧ (∀ x, activeDrive s = some x → t.lim.stack.lFwd =
        if x.motorSet = .ab then (t.lim.stack.baseFwd * t.lim.stack.derate).tdiv 4096
        else min x.smCap ((t.lim.stack.baseFwd * t.lim.stack.derate).tdiv 4096))
    ∧ (LinkLaw s.link → TripBlocks d.own s t)
    ∧ t.log = (latchRecords c v s).log
    ∧ t.vib = s.vib ∧ t.load = s.load ∧ t.store = s.store ∧ t.tab = s.tab ∧ t.pending = s.pending)
  ∧ (∀ (d : Delivery) (c : CauseId) (v : DWord) (s : State), s.trip.latch = true →
    let t := deliverCause d c v s
    let listed := ∃ e ∈ s.trip.list, e.id = c
    (listed → t = s)
    ∧ (¬listed → s.trip.list.length < 8 →
        t = { s with log := t.log, trip := { s.trip with
          list := s.trip.list ++
            [{ id := c, pace := s.link.paceCount, value := v, supTime := s.lim.supTime }] } }
        ∧ t.log = (raise .trip c.source 1 (BitVec.ofNat 32 c.kind.code) v s).log)
    ∧ (¬listed → 8 ≤ s.trip.list.length → c ∉ s.trip.overflowSet →
        t = { s with log := t.log, trip := { s.trip with
          overflowSet := s.trip.overflowSet ++ [c], overflowCount := s.trip.overflowCount + 1 } }
        ∧ t.log = (raise .trip c.source 2 (BitVec.ofNat 32 c.kind.code) v s).log)
    ∧ (¬listed → 8 ≤ s.trip.list.length → c ∈ s.trip.overflowSet → t = s))
  ∧ (∀ (d : Delivery) (c : CauseId) (v : DWord) (s : State), s.trip.latch = false → d.inSetpoint = true →
    let t := deliverCause d c v s
    t.trip = { s.trip with
        latch := true, tripLine := true,
        list := [{ id := c, pace := s.link.paceCount, value := v, supTime := s.lim.supTime }] }
    ∧ t.run = { s.run with
        state := .tripped, brkTimer := .stopped, restTimer := .stopped, stopTimer := .stopped }
    ∧ t.lim = { s.lim with otCount := 0 }
    ∧ (energised s = true → t.regA.intD = 0 ∧ t.regA.intQ = 0 ∧ t.regB.intD = 0 ∧ t.regB.intQ = 0)
    ∧ (energised s = false → t.regA = s.regA ∧ t.regB = s.regB ∧ t.link = s.link)
    ∧ (LinkLaw s.link → TripBlocks d.own s t)
    ∧ (s.recorder.state = .armed → t.recorder.state = .post ∧ t.recorder.postCount = 0
        ∧ t.recorder.preCount = min s.recorder.ring.length (preCountAt s)
        ∧ t.recorder.postTarget = 256 - preCountAt s
        ∧ t.recorder.postTimer = .running (postLimitAt s)
        ∧ t.recorder.ring = s.recorder.ring.drop (s.recorder.ring.length - preCountAt s)
        ∧ t.recorder.trigger = {
            pace := s.link.paceCount, supTime := s.lim.supTime, lFwd := s.lim.stack.lFwd,
            derate := s.lim.stack.derate, attempts := s.run.attempts, dcA := s.regA.dcLink,
            tempA := s.regA.temp, dcB := s.regB.dcLink, tempB := s.regB.temp })
    ∧ t.log = (latchRecords c v s).log
    ∧ t.vib = s.vib ∧ t.load = s.load ∧ t.store = s.store ∧ t.tab = s.tab ∧ t.pending = s.pending)
  ∧ (∀ (seq : Seq) (mode flags : Byte) (q : Word) (u : DWord) (s : State), s.trip.latch = false →
    flags.getLsbD 0 = true →
    ∃ t, exec (.setpoint seq mode flags q u) s = .next t
      ∧ t.trip.latch = true ∧ t.trip.tripLine = true ∧ t.trip.extTrip = true
      ∧ t.trip.list = [{ id := ⟨.extTrip, .none⟩, pace := s.link.paceCount, value := 0, supTime := u }]
      ∧ t.log = (latchRecords ⟨.extTrip, .none⟩ 0 (acceptFrame .S 0 seq s)).log
      ∧ t.run = { s.run with
          state := .tripped, brkTimer := .stopped, restTimer := .stopped, stopTimer := .stopped,
          runEdge := if mode = 1 then s.run.runEdge else true }
      ∧ t.lim.tCmd = 0 ∧ t.lim.otCount = 0 ∧ t.lim.stallTimer = .stopped
      ∧ (energised s = true → t.regA.intD = 0 ∧ t.regA.intQ = 0 ∧ t.regB.intD = 0 ∧ t.regB.intQ = 0)
      ∧ (LinkLaw s.link → TripBlocks none (acceptFrame .S 0 seq s) t)
      ∧ (s.recorder.state = .armed → t.recorder.state = .post ∧ t.recorder.trigger = {
            pace := s.link.paceCount, supTime := u, lFwd := s.lim.stack.lFwd, derate := s.lim.stack.derate,
            attempts := s.run.attempts, dcA := s.regA.dcLink, tempA := s.regA.temp, dcB := s.regB.dcLink,
            tempB := s.regB.temp }))

/-- An accepted TRIP_RESET clears list, latch and line, re-arms the recorder, and enters READY or OFF by the
READY conditions; its records are TRIP_RESET with entries and overflow count and then DRIVE_STATE with reason
TRIP_RESET; the answer carries the entries and the overflow count.  The refusals in their order:
NOT_TRIPPED; CAUSE_ACTIVE, naming the first listed cause that is active, else the first active one;
RECORDING, naming the recorder's state; a refused request changes nothing.  That the ALERT condition is judged for
the cleared latch before TRIP_RESET is raised is the model's reading (assumption 19, DEDUCED). -/
def Obligations.TripResetClearsTheTrip : Prop :=
  (∀ (r : Request) (s : State), s.link.slot = none → r.args = [] → s.trip.latch = true →
    s.trip.active = [] → s.recorder.state = .done →
    ∃ t, exec (.tripReset r) s = .next t
      ∧ t.trip = { s.trip with
          latch := false, list := [], overflowCount := 0, overflowSet := [], tripLine := false }
      ∧ t.recorder.state = .armed ∧ t.recorder.ring = [] ∧ t.recorder.ramRecord = none
      ∧ t.recorder.preCount = 0 ∧ t.recorder.postCount = 0 ∧ t.recorder.postTarget = 0
      ∧ t.run.state = (if readyConditions t then .ready else .off) ∧ t.run.attempts = 0
      ∧ t.run.runEdge = (if readyConditions t then false else s.run.runEdge)
      ∧ t.lim.tReq = s.lim.tReq ∧ t.lim.supTime = s.lim.supTime
      ∧ t.log = (driveStateRecord s.run.state.code (if readyConditions t then 1 else 0) 11
          (raise .tripReset .none 0 (BitVec.ofNat 32 s.trip.list.length)
            (BitVec.ofNat 32 s.trip.overflowCount)
            (judgeAlert { requestTaken r s with trip := t.trip }))).log
      ∧ t.link = (requestTaken r s).link.placeAnswer
          { code := 11, tag := r.tag, answer := .ok,
            data := [BitVec.ofNat 8 s.trip.list.length, BitVec.ofNat 8 s.trip.overflowCount] }
      ∧ t = { s with
          run := t.run, trip := t.trip, recorder := t.recorder, lim := t.lim, log := t.log, link := t.link })
  ∧ (∀ (r : Request) (s : State), s.link.slot = none → r.args = [] →
    let u := requestTaken r s
    let named := fun c : CauseId => [BitVec.ofNat 8 c.kind.code, c.source.code.setWidth 8]
    (s.trip.latch = false → exec (.tripReset r) s = .next (answerPlaced 11 r .notTripped [] u))
    ∧ (s.trip.latch = true → ∀ before e after_, s.trip.list = before ++ e :: after_ →
        e.id ∈ s.trip.active → (∀ x ∈ before, x.id ∉ s.trip.active) →
        exec (.tripReset r) s = .next (answerPlaced 11 r .causeActive (named e.id) u))
    ∧ (s.trip.latch = true → (∀ x ∈ s.trip.list, x.id ∉ s.trip.active) → ∀ c rest,
        s.trip.active = c :: rest →
        exec (.tripReset r) s = .next (answerPlaced 11 r .causeActive (named c) u))
    ∧ (s.trip.latch = true → s.trip.active = [] → s.recorder.state ≠ .done →
        exec (.tripReset r) s =
          .next (answerPlaced 11 r .recording [BitVec.ofNat 8 s.recorder.state.code] u)))

/-- TRIP_READ of a record that can be read answers the eight words of the aligned group that begin at the
offset, in the group's rotation; number 0 is the RAM record, any other the slot that carries it.  It is
refused with SCANNING, NO_RECORD or BANK_BUSY, in that order, and then changes nothing.  The words of a record, of
which the RAM record answers: the markers in words 0 and 47, between them the number, the trigger's values, the
counts, the flags, versions, levels, channel states, ECC and averages; eight words for each of eight cause slots from
word 48 and for each snapshot from word 112; FFFFh in cause slots not used and beyond the last snapshot. -/
def Obligations.TripReadAnswersTheGroup : Prop :=
  (∀ (r : Request) (s : State) (n3 n2 n1 n0 o1 o0 l : Byte) (word : Nat → Word), s.link.slot = none →
    r.args = [n3, n2, n1, n0, o1, o0, l] → l = 8 ∨ l = 16 → (be16 o1 o0).toNat < 2160 →
    s.store.activity ≠ .scanning →
    (be32 n3 n2 n1 n0 = 0 ∧ (∃ x, s.recorder.ramRecord = some x ∧ word = x.word)
      ∨ be32 n3 n2 n1 n0 ≠ 0 ∧ ∃ b k, s.store.locate (be32 n3 n2 n1 n0) = some (b, k)
          ∧ s.store.bankBusy b = false ∧ word = s.store.nv[b].slots[k].word) →
    let o := (be16 o1 o0).toNat
    let start := o - o % l.toNat
    exec (.tripRead r) s = .next (answerPlaced 12 r .ok
      ((List.range 8).flatMap fun i => bytes16 (word (start + (o - start + i) % l.toNat)))
      (requestTaken r s)))
  ∧ (∀ (r : Request) (s : State) (n3 n2 n1 n0 o1 o0 l : Byte), s.link.slot = none →
    r.args = [n3, n2, n1, n0, o1, o0, l] → l = 8 ∨ l = 16 → (be16 o1 o0).toNat < 2160 →
    let n := be32 n3 n2 n1 n0
    let u := requestTaken r s
    let carried := fun (b : Fin 4) (k : Fin 8) =>
      (s.store.banks[b].slots[k].state = .valid ∨ s.store.banks[b].slots[k].state = .writing)
        ∧ s.store.banks[b].slots[k].number = some n
    (s.store.activity = .scanning →
      exec (.tripRead r) s = .next (answerPlaced 12 r .scanning [] u))
    ∧ (s.store.activity ≠ .scanning → n = 0 → s.recorder.ramRecord = none →
      exec (.tripRead r) s = .next (answerPlaced 12 r .noRecord [] u))
    ∧ (s.store.activity ≠ .scanning → n ≠ 0 → (∀ b k, ¬carried b k) →
      exec (.tripRead r) s = .next (answerPlaced 12 r .noRecord [] u))
    ∧ (s.store.activity ≠ .scanning → n ≠ 0 → ∀ b k, carried b k →
      (∀ c j, carried c j → c = b) →
      (s.store.banks[b].state = .erasing ∨ s.store.banks[b].state = .eraseSuspended
        ∨ ∃ p, s.store.program = some p ∧ p.bank = b) →
      exec (.tripRead r) s = .next (answerPlaced 12 r .bankBusy [] u)))
  ∧ (∀ x : TripRecord,
    let w := x.word
    w 0 = 0xA5C3#16 ∧ w 1 ++ w 2 = x.tripNumber ∧ w 3 ++ w 4 = x.trigger.pace
    ∧ w 5 ++ w 6 = x.trigger.supTime
    ∧ w 7 = BitVec.ofInt 16 x.trigger.lFwd ∧ w 8 = BitVec.ofInt 16 x.trigger.derate
    ∧ w 9 = BitVec.ofNat 16 x.trigger.attempts
    ∧ w 10 = BitVec.ofInt 16 x.trigger.dcA ∧ w 11 = BitVec.ofInt 16 x.trigger.tempA
    ∧ w 12 = BitVec.ofInt 16 x.trigger.dcB ∧ w 13 = BitVec.ofInt 16 x.trigger.tempB
    ∧ w 14 = BitVec.ofNat 8 x.preCount ++ BitVec.ofNat 8 x.postCount
    ∧ w 15 = BitVec.ofNat 8 x.causes.length ++ BitVec.ofNat 8 x.overflowCount
    ∧ (∀ i < 16, (w 16).getLsbD i =
        if i = 8 then x.eccValid else if i = 12 then x.reason == .limit else x.valid.toList.getD i false)
    ∧ (∀ k : Fin 5, w (17 + k) = x.versions[k])
    ∧ (∀ c : Fin 6, w (22 + c) = BitVec.ofNat 16 x.levels[c])
    ∧ (∀ c : Fin 6, (if c < 4 then w 28 else w 29).extractLsb' (12 - 4 * (c % 4)) 4
        = BitVec.ofNat 4 x.channelStates[c].code)
    ∧ (w 29).extractLsb' 0 8 = 0 ∧ w 30 = BitVec.ofNat 16 x.ecc
    ∧ (∀ k : Fin 16, w (31 + k) = BitVec.ofNat 16 x.avg[k])
    ∧ w 47 = 0x5A3C#16
    ∧ (∀ (k : Nat) (c : CauseEntry), k < 8 → x.causes[k]? = some c →
        let v := fun i => w (48 + 8 * k + i)
        v 0 = BitVec.ofNat 8 c.id.kind.code ++ c.id.source.code.setWidth 8 ∧ v 1 ++ v 2 = c.pace
          ∧ v 3 ++ v 4 = c.value ∧ v 5 ++ v 6 = c.supTime ∧ v 7 = 0)
    ∧ (∀ o, 48 + 8 * x.causes.length ≤ o → o < 112 → w o = 0xFFFF#16)
    ∧ (∀ (j : Nat) (y : Snapshot), x.snapshots[j]? = some y →
        let v := fun i => w (112 + 8 * j + i)
        v 0 = y.pace ∧ v 1 = BitVec.ofInt 16 y.tCmd ∧ v 2 = BitVec.ofInt 16 y.lFwd
          ∧ v 3 = BitVec.ofInt 16 y.iqA ∧ v 4 = BitVec.ofInt 16 y.iqB ∧ v 5 = BitVec.ofInt 16 y.vqA
          ∧ v 6 = BitVec.ofInt 16 y.vqB ∧ v 7 = BitVec.ofInt 16 y.speed)
    ∧ (∀ o, 112 + 8 * x.snapshots.length ≤ o → w o = 0xFFFF#16))

/-- POST_LIMIT_EXPIRY freezes the record with reason LIMIT and the post count as it stands, and offers it: the
offer waits in SCANNING and BLANK_CHECKING, and is taken through target selection at once in IDLE and ERASING
(in PROGRAMMING, where no run offers, it waits: assumption 28).  An offer taken ends in a slot, where a header
with its number is placed, a running erase is suspended and the recorder is in WRITING; in a wait, after the
bank it needs has joined the queue, for overwrite or plainly; or in a miss, which consumes a number only where
a number mark is free for it, counts, raises OVERWRITE and STORE, and leaves the recorder in DONE.  A retry
keeps its number.  The model's readings: a new record is missed at once when numbers are exhausted (assumption
14), with the events and the reason NO_ROOM of a miss for lack of room (39), a retry is still placed then (34), the
mark is looked for from the current bank on (15), the slot has the header words alone programmed (20), and the events
of a miss have source NONE (17).  Programming turns bits from 1 to 0 alone: the slot keeps every bit that read 0, and
one that read erased holds the header with its number and FFFFh beyond it. -/
def Obligations.PostLimitFreezesTheRecord : Prop :=
  (∀ (s : State) (d : Nat), s.recorder.postTimer = .running d →
    let x : TripRecord :=
      { tripNumber := 0, trigger := s.recorder.trigger, preCount := s.recorder.preCount,
        postCount := s.recorder.postCount, reason := .limit, valid := s.tab.validFlags,
        versions := s.tab.versions,
        levels := Vector.ofFn fun c : Fin 6 => s.vib.channels[c].lastLevel,
        channelStates := Vector.ofFn fun c : Fin 6 => s.vib.channels[c].state,
        ecc := min s.load.ecc 65535, eccValid := s.load.eccValid,
        avg := Vector.ofFn fun k : Fin 16 => min s.load.avg[k] 65535,
        causes := s.trip.list, overflowCount := s.trip.overflowCount, snapshots := s.recorder.ring }
    let u : State :=
      { s with
        recorder := { s.recorder with state := .frozen, postTimer := .stopped, ramRecord := some x }
        store := { s.store with offer := .newRecord } }
    let taken := if s.store.nextNumber = 0 then Selection.miss else s.store.select (storeMode s)
    (s.store.activity = .scanning ∨ s.store.activity = .blankChecking ∨ s.store.activity = .programming →
      exec .postLimitExpiry s = .next u)
    ∧ (s.store.activity = .idle ∨ s.store.activity = .erasing →
      ∃ t, exec .postLimitExpiry s = .next t ∧ t = chooseWork (takeOffer u)
        ∧ t.recorder.ring = s.recorder.ring ∧ t.recorder.postTimer = .stopped
        ∧ (match taken with
          | .slot b _ => t.recorder.state = .writing ∧ t.store.activity = .programming
              ∧ t.store.busy = some b ∧ t.store.offer = .none
              ∧ t.recorder.ramRecord = some { x with tripNumber := s.store.nextNumber }
              ∧ t.store.nextNumber = s.store.nextNumber + 1
          | .wait | .queueErase _ | .queueOverwrite _ => t.recorder.state = .frozen
              ∧ t.store.offer = .newRecord ∧ t.recorder.ramRecord = some x
          | .miss => t.recorder.state = .done ∧ t.store.offer = .none)
        ∧ t = { s with recorder := t.recorder, store := t.store, log := t.log }))
  ∧ (∀ s : State, s.store.offer = .none → takeOffer s = s)
  ∧ (∀ (s : State) (n : DWord) (retry : Bool),
    s.store.offer = (if retry then .retry n else .newRecord) → (retry = false → n = s.store.nextNumber) →
    let t := takeOffer s
    let c := s.store.current
    let holder := [c, c + 1, c + 2, c + 3].find? fun a =>
      s.store.nv[a].stamp.isSome && s.store.banks[a].state != .retired && s.store.banks[a].state != .erasing
        && s.store.banks[a].state != .eraseSuspended && !s.store.queue.contains a
        && decide (s.store.nv[a].marks.length < 16)
    let exhausted := retry = false ∧ s.store.nextNumber = 0
    let given : DWord := if retry then n else if exhausted then 0 else if holder.isSome then n else 0
    let sel := s.store.select (storeMode s)
    (¬exhausted → ∀ b k, sel = .slot b k → (s.store.activity = .erasing → s.store.busy ≠ some b) →
        t.store.banks[b].slots[k] = { state := .writing, number := some n }
        ∧ t.store.banks[b].state =
            (if ∃ j : Fin 8, t.store.banks[b].slots[j].state = .blank then .open else .full)
        ∧ (∀ (a : Fin 4) (j : Fin 8), a ≠ b ∨ j ≠ k →
            t.store.banks[a].slots[j] = s.store.banks[a].slots[j]
            ∧ t.store.nv[a].slots[j] = s.store.nv[a].slots[j])
        ∧ (∀ a : Fin 4, a ≠ b → t.store.banks[a].state =
            if s.store.activity = .erasing ∧ s.store.busy = some a then .eraseSuspended
            else s.store.banks[a].state)
        ∧ (∀ a : Fin 4, t.store.nv[a].stamp = s.store.nv[a].stamp ∧ t.store.nv[a].marks = s.store.nv[a].marks)
        ∧ (∀ o, t.store.nv[b].slots[k].word o = s.store.nv[b].slots[k].word o &&&
            (if o = 0 then 0xA5C3#16 else if o = 1 then n.extractLsb' 16 16
              else if o = 2 then n.extractLsb' 0 16 else 0xFFFF#16))
        ∧ ((∀ o, s.store.nv[b].slots[k].word o = 0xFFFF#16) →
            t.store.nv[b].slots[k].word 0 = 0xA5C3#16
            ∧ t.store.nv[b].slots[k].word 1 ++ t.store.nv[b].slots[k].word 2 = n
            ∧ ∀ o, 3 ≤ o → t.store.nv[b].slots[k].word o = 0xFFFF#16)
        ∧ t.store = { s.store with
            nv := t.store.nv, banks := t.store.banks, current := b, offer := .none,
            program := some { bank := b, slot := k, number := n, retry := retry },
            nextNumber := if retry then s.store.nextNumber else n + 1,
            activity := .programming, busy := some b }
        ∧ t.recorder = (if retry then s.recorder else { s.recorder with
            state := .writing,
            ramRecord := s.recorder.ramRecord.map fun x => { x with tripNumber := n } })
        ∧ t = { s with store := t.store, recorder := t.recorder })
    ∧ (¬exhausted → sel = .wait → t = s)
    ∧ (¬exhausted → ∀ b, sel = .queueErase b →
        t = { s with store := { s.store with queue := s.store.queue ++ [b] } })
    ∧ (¬exhausted → ∀ b, sel = .queueOverwrite b →
        t = { s with
          store := { s.store with
            queue := s.store.queue ++ [b]
            overwritten := min (s.store.overwritten + s.store.banks[b].validCount) 65535 }
          log := (raise .overwrite (.bank b) 0 (BitVec.ofNat 32 b.val)
            (BitVec.ofNat 32 s.store.banks[b].validCount) s).log })
    ∧ (exhausted ∨ sel = .miss →
        t.store = { s.store with
            nv := t.store.nv, banks := t.store.banks, offer := .none,
            missed := min (s.store.missed + 1) 65535,
            nextNumber := if retry = false ∧ ¬exhausted ∧ holder.isSome then n + 1 else s.store.nextNumber }
        ∧ (∀ a : Fin 4, t.store.nv[a] = (if ¬exhausted ∧ holder = some a then
              { s.store.nv[a] with marks := s.store.nv[a].marks ++ [n] } else s.store.nv[a])
            ∧ t.store.banks[a] = (if ¬exhausted ∧ holder = some a then
              { s.store.banks[a] with marks := s.store.banks[a].marks ++ [n] } else s.store.banks[a]))
        ∧ t.log = (raise .store .none 3 given 0
            (raise .overwrite .none 1 given (BitVec.ofNat 32 (min (s.store.missed + 1) 65535)) s)).log
        ∧ t.recorder = (if retry then { s.recorder with state := .done } else { s.recorder with
            state := .done,
            ramRecord := s.recorder.ramRecord.map fun x => { x with tripNumber := given } })
        ∧ t = { s with store := t.store, recorder := t.recorder, log := t.log }))

/-! ### The trip store -/

/-- SCAN_END, in every state that scans: each stamped bank is classified from its markers and takes its state
from its slots, each unstamped one is NEEDS_ERASE and joins the queue in bank order; the next trip number is
one above the largest number among VALID slots, VOID slots and number marks where a record is VALID, else 1;
the current bank holds the largest VALID number, else is the lowest BLANK one, else 0; SCAN_DONE is raised; and
a waiting offer is taken through target selection, then the next work chosen.  Target selection itself: the
current bank's lowest BLANK slot, else by the next bank's state and the mode; under the erase-all flag another
BLANK bank, else a wait.  What an unstamped bank's slots hold is the model's (assumption 6); the offer and the work
taken up afterwards follow O41 and O43, with their readings and choices (14, 15, 17, 20, 34, 39). -/
def Obligations.ScanEndFillsTheIndex : Prop :=
  (∀ s : State, s.store.activity = .scanning →
    ∃ u, exec .scanEnd s = .next (chooseWork (takeOffer u))
      ∧ (∀ (b : Fin 4) (k : Fin 8), s.store.nv[b].stamp.isSome = true →
          u.store.banks[b].slots[k] =
            (if s.store.nv[b].slots[k].word 0 = 0xA5C3#16 then
              { state := if s.store.nv[b].slots[k].word 47 = 0x5A3C#16 then .valid else .void,
                number := some (s.store.nv[b].slots[k].word 1 ++ s.store.nv[b].slots[k].word 2) }
            else
              { state := if s.store.nv[b].slots[k].firstProgrammed = none then .blank else .void,
                number := none }))
      ∧ (∀ b : Fin 4, s.store.nv[b].stamp = none → u.store.banks[b] =
          { state := .needsErase, eraseCount := 0, validCount := 0,
            slots := Vector.replicate 8 { state := .void, number := none }, marks := [] })
      ∧ (∀ (b : Fin 4) (n : Nat), s.store.nv[b].stamp = some n →
          u.store.banks[b].eraseCount = n ∧ u.store.banks[b].marks = s.store.nv[b].marks
          ∧ u.store.banks[b].validCount =
              (u.store.banks[b].slots.toList.filter fun x => x.state == .valid).length
          ∧ u.store.banks[b].state =
              (if ∀ k : Fin 8, u.store.banks[b].slots[k].state = .blank then .blank
              else if ∃ k : Fin 8, u.store.banks[b].slots[k].state = .blank then .open else .full))
      ∧ (let valid := fun (b : Fin 4) (n : DWord) =>
            ∃ k : Fin 8, u.store.banks[b].slots[k] = { state := .valid, number := some n }
          let found := fun n : DWord => ∃ b : Fin 4, valid b n ∨ n ∈ u.store.banks[b].marks
            ∨ ∃ k : Fin 8, u.store.banks[b].slots[k] = { state := .void, number := some n }
          ((∀ b n, ¬valid b n) → u.store.nextNumber = 1
            ∧ ∀ b : Fin 4, (u.store.current = b ↔
                u.store.banks[b].state = .blank ∧ (∀ c : Fin 4, c < b → u.store.banks[c].state ≠ .blank)
                ∨ b = 0 ∧ ∀ c : Fin 4, u.store.banks[c].state ≠ .blank))
          ∧ ((∃ b n, valid b n) →
            (∃ n, found n ∧ u.store.nextNumber = n + 1 ∧ ∀ m, found m → m.toNat ≤ n.toNat)
            ∧ ∃ n, valid u.store.current n ∧ ∀ b m, valid b m → m.toNat ≤ n.toNat))
      ∧ u.store = { s.store with
          banks := u.store.banks, nextNumber := u.store.nextNumber, current := u.store.current,
          queue := s.store.queue ++ ([0, 1, 2, 3].filter fun b : Fin 4 =>
            s.store.nv[b].stamp.isNone && !s.store.queue.contains b),
          activity := .idle, busy := none }
      ∧ u.log = (raise .store .none 0
          (BitVec.ofNat 32 (u.store.banks[0].validCount + u.store.banks[1].validCount
            + u.store.banks[2].validCount + u.store.banks[3].validCount)) u.store.nextNumber s).log
      ∧ u = { s with store := u.store, log := u.log }
      ∧ (s.store.offer = .none → s.store.queue = [] →
          ((∀ b : Fin 4, s.store.nv[b].stamp.isSome = true) →
            (chooseWork (takeOffer u)).store.activity = .idle)
          ∧ ∀ b : Fin 4, s.store.nv[b].stamp = none → (∀ c : Fin 4, c < b → s.store.nv[c].stamp.isSome = true) →
            (chooseWork (takeOffer u)).store.activity = .erasing
            ∧ (chooseWork (takeOffer u)).store.busy = some b))
  ∧ (∀ (t : TripStore) (mode : StoreMode),
    let c := t.current
    let free := (t.banks[c].state = .open ∨ t.banks[c].state = .blank) ∧ c ∉ t.queue
    let lowest := fun (b : Fin 4) (k : Fin 8) => t.banks[b].slots[k].state = .blank
      ∧ ∀ j : Fin 8, j < k → t.banks[b].slots[j].state ≠ .blank
    let next := [c + 1, c + 2, c + 3].find? fun b => t.banks[b].state != .retired
    let other := [c + 1, c + 2, c + 3].find? fun b => t.banks[b].state == .blank && !t.queue.contains b
    (∀ k, free → lowest c k → t.select mode = .slot c k)
    ∧ (¬free → t.eraseAll = false →
        (next = none → t.select mode = .miss)
        ∧ ∀ b, next = some b →
          (b ∈ t.queue ∨ t.banks[b].state = .erasing ∨ t.banks[b].state = .eraseSuspended →
            t.select mode = .wait)
          ∧ (b ∉ t.queue →
            (t.banks[b].state = .blank → t.select mode = .slot b 0)
            ∧ (∀ k, t.banks[b].state = .open → lowest b k → t.select mode = .slot b k)
            ∧ (t.banks[b].state = .needsErase → t.select mode = .queueErase b)
            ∧ (t.banks[b].state = .full →
                t.select mode = if mode = .wrap then .queueOverwrite b else .miss)))
    ∧ (¬free → t.eraseAll = true →
        (other = none → t.select mode = .wait) ∧ ∀ b, other = some b → t.select mode = .slot b 0))

/-- STORE_TRIM in IDLE with nothing queued: the bank with the smallest trip number begins its erase, and the
answer names it with its VALID count.  STORE_ERASE_ALL: every bank that is neither RETIRED nor BLANK joins,
the current bank last, and the first erase begins under the erase-all flag; with no such bank the answer is
OK with 0.  Both are refused with SCANNING during the scan and with BUSY where the activity is not IDLE,
STORE_TRIM with NO_RECORD where no slot is VALID.  The choice of the next work: a suspended erase resumes;
else the head of the queue begins its erase, after the largest number it holds has gone to a number mark of
another bank, or is held back where none is free; else the store is IDLE and the erase-all flag clear.  Both
requests are stated for every IDLE store too, with banks queued or not and whichever bank holds the largest number:
the answer, what joins the queue, and then that choice.  That a trim with banks queued takes up the queue's head is
the model's choice (assumption 35); that a bank in the queue already stays where it is, joins no second time and is
not counted (16), and that the search for a mark begins with the current bank (15), are its readings. -/
def Obligations.StoreErasesOnRequest : Prop :=
  (∀ (r : Request) (s : State) (b : Fin 4) (k : Fin 8) (n : DWord), s.link.slot = none → r.args = [] →
    s.store.activity = .idle → s.store.queue = [] →
    (∀ c : Fin 4, s.store.banks[c].state ≠ .eraseSuspended) →
    s.store.banks[b].slots[k] = { state := .valid, number := some n } →
    (∀ (c : Fin 4) (j : Fin 8) (m : DWord), s.store.banks[c].slots[j] = { state := .valid, number := some m } →
      n.toNat < m.toNat ∨ c = b) →
    (∀ (j : Fin 8) (m : DWord), s.store.banks[b].slots[j] = { state := .valid, number := some m } →
      n.toNat ≤ m.toNat) →
    s.store.banks[b].holds (s.store.nextNumber - 1) = false →
    ∃ t, exec (.storeTrim r) s = .next (answerPlaced 13 r .accepted
          [BitVec.ofNat 8 b.val, BitVec.ofNat 8 s.store.banks[b].validCount] t)
      ∧ t.store.activity = .erasing ∧ t.store.busy = some b ∧ t.store.queue = []
      ∧ t.store.banks[b].state = .erasing ∧ t.store.banks[b].slots = s.store.banks[b].slots
      ∧ t.store.nv[b].stamp = none ∧ t.store.nv[b].marks = []
      ∧ (∀ c : Fin 4, c ≠ b → t.store.banks[c] = s.store.banks[c] ∧ t.store.nv[c] = s.store.nv[c])
      ∧ t.store.overwritten = s.store.overwritten
      ∧ t = { requestTaken r s with store := t.store })
  ∧ (∀ (r : Request) (s : State), s.link.slot = none → r.args = [] → s.store.activity = .idle →
    s.store.queue = [] → (∀ c : Fin 4, s.store.banks[c].state ≠ .eraseSuspended) →
    let c := s.store.current
    let banks := [c + 1, c + 2, c + 3, c].filter fun b =>
      s.store.banks[b].state != .retired && s.store.banks[b].state != .blank
    (banks = [] → exec (.storeEraseAll r) s = .next (answerPlaced 14 r .ok [0] (requestTaken r s)))
    ∧ ∀ b rest, banks = b :: rest → s.store.banks[b].holds (s.store.nextNumber - 1) = false →
        ∃ t, exec (.storeEraseAll r) s = .next (answerPlaced 14 r .accepted [BitVec.ofNat 8 banks.length] t)
          ∧ t.store.eraseAll = true ∧ t.store.queue = rest ∧ t.store.activity = .erasing
          ∧ t.store.busy = some b ∧ t.store.banks[b].state = .erasing
          ∧ (∀ a : Fin 4, a ≠ b → t.store.banks[a] = s.store.banks[a])
          ∧ t.store.overwritten = s.store.overwritten
          ∧ t = { requestTaken r s with store := t.store })
  ∧ (∀ (r : Request) (s : State), s.link.slot = none → r.args = [] →
    let u := requestTaken r s
    let working := s.store.activity ≠ .idle ∧ s.store.activity ≠ .scanning
    (s.store.activity = .scanning →
      exec (.storeTrim r) s = .next (answerPlaced 13 r .scanning [] u)
      ∧ exec (.storeEraseAll r) s = .next (answerPlaced 14 r .scanning [] u))
    ∧ (working → exec (.storeTrim r) s = .next (answerPlaced 13 r .busy [] u)
      ∧ exec (.storeEraseAll r) s = .next (answerPlaced 14 r .busy [] u))
    ∧ (s.store.activity = .idle →
      (∀ (b : Fin 4) (k : Fin 8), s.store.banks[b].slots[k].state ≠ .valid) →
      exec (.storeTrim r) s = .next (answerPlaced 13 r .noRecord [] u)))
  ∧ (∀ (r : Request) (s : State) (b : Fin 4) (k : Fin 8) (n : DWord), s.link.slot = none → r.args = [] →
    s.store.activity = .idle → s.store.banks[b].slots[k] = { state := .valid, number := some n } →
    (∀ (c : Fin 4) (j : Fin 8) (m : DWord), s.store.banks[c].slots[j] = { state := .valid, number := some m } →
      n.toNat < m.toNat ∨ c = b ∧ n.toNat ≤ m.toNat) →
    exec (.storeTrim r) s = .next (answerPlaced 13 r .accepted
      [BitVec.ofNat 8 b.val, BitVec.ofNat 8 s.store.banks[b].validCount]
      { requestTaken r s with store := TripStore.chooseWork { s.store with
          queue := if b ∈ s.store.queue then s.store.queue else s.store.queue ++ [b] } }))
  ∧ (∀ (r : Request) (s : State), s.link.slot = none → r.args = [] → s.store.activity = .idle →
    let c := s.store.current
    let joining := [c + 1, c + 2, c + 3, c].filter fun b =>
      s.store.banks[b].state != .retired && s.store.banks[b].state != .blank && !s.store.queue.contains b
    (joining = [] → exec (.storeEraseAll r) s = .next (answerPlaced 14 r .ok [0] (requestTaken r s)))
    ∧ (joining ≠ [] → exec (.storeEraseAll r) s = .next (answerPlaced 14 r .accepted
        [BitVec.ofNat 8 joining.length]
        { requestTaken r s with store := TripStore.chooseWork { s.store with
            queue := s.store.queue ++ joining, eraseAll := true } })))
  ∧ (∀ t : TripStore,
    let c := t.current
    let n := t.nextNumber - 1
    let holder := [c, c + 1, c + 2, c + 3].find? fun a =>
      t.nv[a].stamp.isSome && t.banks[a].state != .retired && t.banks[a].state != .erasing
        && t.banks[a].state != .eraseSuspended && !t.queue.contains a && decide (t.nv[a].marks.length < 16)
    let u := t.chooseWork
    let still := ∀ a : Fin 4, t.banks[a].state ≠ .eraseSuspended
    let stopped := { t with activity := .idle, busy := none, eraseAll := false }
    (t.activity ≠ .idle → u = t)
    ∧ (t.activity = .idle → ∀ b : Fin 4, t.banks[b].state = .eraseSuspended →
        (∀ a : Fin 4, t.banks[a].state = .eraseSuspended → a = b) →
        u = { t with
          banks := t.banks.set b { t.banks[b] with state := .erasing }, activity := .erasing, busy := some b })
    ∧ (t.activity = .idle → still → t.queue = [] → u = stopped)
    ∧ (t.activity = .idle → still → ∀ b rest, t.queue = b :: rest →
        let held := (∃ k : Fin 8, t.banks[b].slots[k].number = some n) ∨ n ∈ t.banks[b].marks
        (held → holder = none → u = stopped)
        ∧ (¬held ∨ holder.isSome = true →
            u = { t with
              nv := u.nv, banks := u.banks, nextTag := u.nextTag, queue := rest, activity := .erasing,
              busy := some b }
            ∧ u.banks[b] = { t.banks[b] with state := .erasing, marks := [] }
            ∧ u.nv[b].stamp = none ∧ u.nv[b].marks = []
            ∧ ∀ a : Fin 4, a ≠ b →
                u.nv[a] = (if held ∧ holder = some a then
                  { t.nv[a] with marks := t.nv[a].marks ++ [n] } else t.nv[a])
                ∧ u.banks[a] = (if held ∧ holder = some a then
                  { t.banks[a] with marks := t.banks[a].marks ++ [n] } else t.banks[a]))))

/-- STORE_BLANK_CHECK is refused with SCANNING, BANK_BUSY or BUSY, in that order, and is otherwise ACCEPTED and
makes the bank the busy bank.  At BLANK_CHECK_COMPLETION the first slot with a word not erased becomes VOID if
the index holds it as BLANK, and no other slot changes; BLANK_CHECK is raised with that slot and word, or
BLANK; then a waiting offer is taken through selection and the next work chosen, by O41 and O43 with their readings
and choices (assumptions 14, 15, 17, 20, 34, 39).  A slot whose content is not known is read by the model's free words
(30).  How a BLANK slot comes to read a programmed word is left open, and no run of the model brings it about (41). -/
def Obligations.BlankCheckReadsTheBank : Prop :=
  (∀ (r : Request) (s : State) (n : Byte) (b : Fin 4), s.link.slot = none → r.args = [n] → n.toNat = b.val →
    let u := requestTaken r s
    let taken := s.store.banks[b].state = .erasing ∨ s.store.banks[b].state = .eraseSuspended
      ∨ ∃ p, s.store.program = some p ∧ p.bank = b
    (s.store.activity = .scanning →
      exec (.storeBlankCheck r) s = .next (answerPlaced 15 r .scanning [] u))
    ∧ (s.store.activity ≠ .scanning → taken →
      exec (.storeBlankCheck r) s = .next (answerPlaced 15 r .bankBusy [] u))
    ∧ (s.store.activity ≠ .scanning → ¬taken → s.store.activity ≠ .idle →
      exec (.storeBlankCheck r) s = .next (answerPlaced 15 r .busy [] u))
    ∧ (s.store.activity = .idle → ¬taken →
      exec (.storeBlankCheck r) s = .next (answerPlaced 15 r .accepted []
        { u with store := { s.store with activity := .blankChecking, busy := some b } })))
  ∧ (∀ (s : State) (b : Fin 4), s.store.activity = .blankChecking → s.store.busy = some b →
    s.store.offer = .none →
    ∃ t, exec .blankCheckCompletion s = .next t
      ∧ t.store.activity ≠ .blankChecking
      ∧ (∀ (c : Fin 4) (j : Fin 8), c ≠ b → t.store.banks[c].slots[j] = s.store.banks[c].slots[j])
      ∧ (∀ k : Fin 8, s.store.nv[b].slots[k].firstProgrammed ≠ none →
          (∀ j : Fin 8, j < k → s.store.nv[b].slots[j].firstProgrammed = none) →
          t.store.banks[b].slots[k] =
            (if s.store.banks[b].slots[k].state = .blank then { state := .void, number := none }
             else s.store.banks[b].slots[k])
          ∧ ∀ j : Fin 8, j ≠ k → t.store.banks[b].slots[j] = s.store.banks[b].slots[j])
      ∧ ((∀ k : Fin 8, s.store.nv[b].slots[k].firstProgrammed = none) →
          t.store.banks[b].slots = s.store.banks[b].slots)
      ∧ t = { s with store := t.store, log := t.log })
  ∧ (∀ (s : State) (b : Fin 4), s.store.activity = .blankChecking → s.store.busy = some b →
    let event := fun data2 => (raise .store (.bank b) 6 (BitVec.ofNat 32 b.val) data2 s).log
    let ended := { s.store with activity := .idle, busy := none }
    ((∀ k : Fin 8, s.store.nv[b].slots[k].firstProgrammed = none) →
      exec .blankCheckCompletion s = .next (chooseWork (takeOffer
        { s with store := ended, log := event 0xFFFFFFFF#32 })))
    ∧ (∀ (k : Fin 8) (w : Nat), s.store.nv[b].slots[k].firstProgrammed = some w →
      (∀ j : Fin 8, j < k → s.store.nv[b].slots[j].firstProgrammed = none) →
      let e := { s.store.banks[b] with slots := s.store.banks[b].slots.set k { state := .void, number := none } }
      let log := event (BitVec.ofNat 32 (k.val * 65536 + w))
      (s.store.banks[b].slots[k].state ≠ .blank →
        exec .blankCheckCompletion s = .next (chooseWork (takeOffer { s with store := ended, log := log })))
      ∧ (s.store.banks[b].slots[k].state = .blank →
        exec .blankCheckCompletion s = .next (chooseWork (takeOffer
          { s with store := { ended with banks := s.store.banks.set b e.recomputed }, log := log })))))

/-- STORE_STATUS is refused with SCANNING during the scan.  Otherwise it answers activity, banks, next number,
counts and flags in their bytes.  It changes nothing. -/
def Obligations.StoreStatusAnswersTheIndex : Prop :=
  ∀ (r : Request) (s : State), s.link.slot = none → r.args = [] →
    let b := fun k : Fin 4 => BitVec.ofNat 8 (s.store.banks[k].state.code * 16 + s.store.banks[k].validCount)
      :: bytes16 (BitVec.ofNat 16 s.store.banks[k].eraseCount)
    (s.store.activity = .scanning →
      exec (.storeStatus r) s = .next (answerPlaced 16 r .scanning [] (requestTaken r s)))
    ∧ (s.store.activity ≠ .scanning →
      exec (.storeStatus r) s = .next (answerPlaced 16 r .ok
      (BitVec.ofNat 8 (s.store.activity.code * 16 + (s.store.busy.map Fin.val).getD 15)
        :: b 0 ++ b 1 ++ b 2 ++ b 3 ++ bytes32 s.store.nextNumber
        ++ bytes16 (BitVec.ofNat 16 s.store.overwritten) ++ bytes16 (BitVec.ofNat 16 s.store.missed)
        ++ bytes16 (BitVec.ofNat 16 s.store.programFails) ++ bytes16 (BitVec.ofNat 16 s.store.eraseFails)
        ++ [BitVec.ofNat 8 ((if s.store.programFail then 1 else 0) + (if s.store.eraseFail then 2 else 0))])
      (requestTaken r s)))

/-- PROGRAM_COMPLETION verifies where the cells took every word and every word then reads as programmed: as bits turn
from 1 to 0 alone, where no word of the record but the completion marker, placed after the verification, asks for a bit
that read 0 already.  One that verifies: the slot becomes VALID with its number and holds every word of the record,
each keeping the bits that read 0, the recorder enters DONE, and no other slot changes.  One that fails: PROGRAM_FAIL
is set and counted and the slot is VOID with its number; a first failure is offered as a retry with the same
number and taken through selection at once; the second failure of a record is missed, and the recorder enters
DONE.  After either, pre-erase is judged and the next work chosen.  Pre-erase: with fewer than two BLANK slots
in the current bank, the next bank joins the queue if it needs erase, and in WRAP mode a FULL or OPEN one is
queued for overwrite, its VALID count added to the overwritten count and reported.  The model's readings and
choices: whether the cells took every word is an operand (assumption 7), the STORE event of the second failure has
source NONE (17), the slot of a failed program keeps its header words alone (20), the marker is no part of what is
verified (41), pre-erase does not look at the erase-all flag (36), and the retry's offer and the work taken up
afterwards follow O41 and O43 (15, 34). -/
def Obligations.ProgramCompletionWritesOrVoids : Prop :=
  (∀ (s : State) (p : Program) (x : TripRecord), s.store.activity = .programming →
    s.store.program = some p → s.recorder.ramRecord = some x →
    let old := s.store.nv[p.bank].slots[p.slot]
    let r : TripRecord := { x with tripNumber := p.number }
    (∀ o < 2160, o ≠ 47 → old.word o &&& r.word o = r.word o) →
    ∃ t, exec (.programCompletion true) s = .next t
      ∧ t.store.banks[p.bank].slots[p.slot] = { state := .valid, number := some p.number }
      ∧ t.store.banks[p.bank].validCount = s.store.banks[p.bank].validCount + 1
      ∧ (∀ (b : Fin 4) (k : Fin 8), b ≠ p.bank ∨ k ≠ p.slot →
          t.store.banks[b].slots[k] = s.store.banks[b].slots[k])
      ∧ (t.store.banks[p.bank].state ≠ .erasing →
          (∀ o, t.store.nv[p.bank].slots[p.slot].word o = old.word o &&& r.word o)
          ∧ (∀ o < 2160, o ≠ 47 → t.store.nv[p.bank].slots[p.slot].word o = r.word o)
          ∧ (old.word 47 = 0xFFFF#16 → t.store.nv[p.bank].slots[p.slot].word 47 = 0x5A3C#16)
          ∧ ∀ j : Fin 8, j ≠ p.slot → t.store.nv[p.bank].slots[j] = s.store.nv[p.bank].slots[j])
      ∧ t.recorder = { s.recorder with state := .done } ∧ t.store.program = none
      ∧ t.store.nextNumber = s.store.nextNumber
      ∧ t = { s with store := t.store, log := t.log, recorder := t.recorder })
  ∧ (∀ (s : State) (p : Program) (took : Bool), s.store.activity = .programming → s.store.program = some p →
    (took = false ∨ ∃ x, s.recorder.ramRecord = some x
      ∧ ∃ o < 2160, o ≠ 47 ∧ s.store.nv[p.bank].slots[p.slot].word o
          &&& ({ x with tripNumber := p.number } : TripRecord).word o
        ≠ ({ x with tripNumber := p.number } : TripRecord).word o) →
    let place := BitVec.ofNat 32 (p.bank.val * 65536 + p.slot.val)
    let e := { s.store.banks[p.bank] with
        slots := s.store.banks[p.bank].slots.set p.slot { state := .void, number := some p.number } }
    let failed := { s.store with
      banks := s.store.banks.set p.bank e.recomputed, program := none, activity := .idle, busy := none,
      programFails := min (s.store.programFails + 1) 65535, programFail := true }
    let w := raise .store (.bank p.bank) 2 p.number place s
    (∃ t, exec (.programCompletion took) s = .next t
      ∧ t.store.banks[p.bank].slots[p.slot] = { state := .void, number := some p.number }
      ∧ t.store.programFail = true ∧ t.store.programFails = min (s.store.programFails + 1) 65535
      ∧ t.store.nextNumber = s.store.nextNumber
      ∧ (p.retry = true → t.recorder = { s.recorder with state := .done }
          ∧ t.store.missed = min (s.store.missed + 1) 65535)
      ∧ t = { s with store := t.store, log := t.log, recorder := t.recorder })
    ∧ (p.retry = false → exec (.programCompletion took) s = .next (chooseWork (preErase (takeOffer
      { s with store := { failed with offer := .retry p.number }, log := w.log }))))
    ∧ (p.retry = true → exec (.programCompletion took) s = .next (chooseWork (preErase
      { s with
        store := { failed with missed := min (s.store.missed + 1) 65535 }
        log := (raise .store .none 3 p.number 1 w).log
        recorder := { s.recorder with state := .done } }))))
  ∧ (∀ (s : State) (p : Program) (x : TripRecord), s.store.activity = .programming →
    s.store.program = some p → s.recorder.ramRecord = some x →
    let old := s.store.nv[p.bank].slots[p.slot]
    let r : TripRecord := { x with tripNumber := p.number }
    (∀ o < 2160, o ≠ 47 → old.word o &&& r.word o = r.word o) →
    ∃ (u : State) (n : NvSlot), exec (.programCompletion true) s = .next (chooseWork (preErase u))
      ∧ u.store = { s.store with
          nv := u.store.nv, banks := u.store.banks, program := none, activity := .idle, busy := none }
      ∧ (∀ b : Fin 4, b ≠ p.bank → u.store.nv[b] = s.store.nv[b] ∧ u.store.banks[b] = s.store.banks[b])
      ∧ u.store.nv[p.bank] = { s.store.nv[p.bank] with slots := s.store.nv[p.bank].slots.set p.slot n }
      ∧ (∀ o, n.word o = old.word o &&& r.word o)
      ∧ u.log = (raise .store (.bank p.bank) 1 p.number
          (BitVec.ofNat 32 (p.bank.val * 65536 + p.slot.val)) s).log
      ∧ u = { s with store := u.store, log := u.log, recorder := { s.recorder with state := .done } })
  ∧ (∀ s : State,
    let c := s.store.current
    let blanks := ((List.finRange 8).filter fun k => s.store.banks[c].slots[k].state == .blank).length
    let next := [c + 1, c + 2, c + 3].find? fun b => s.store.banks[b].state != .retired
    (2 ≤ blanks → preErase s = s)
    ∧ (blanks < 2 → next = none → preErase s = s)
    ∧ (blanks < 2 → ∀ b, next = some b →
      let holding := s.store.banks[b].state = .full ∨ s.store.banks[b].state = .open
      (b ∈ s.store.queue ∨ s.store.banks[b].state = .blank ∨ s.store.banks[b].state = .erasing
          ∨ s.store.banks[b].state = .eraseSuspended → preErase s = s)
      ∧ (b ∉ s.store.queue → s.store.banks[b].state = .needsErase →
          preErase s = { s with store := { s.store with queue := s.store.queue ++ [b] } })
      ∧ (b ∉ s.store.queue → holding → storeMode s = .keep → preErase s = s)
      ∧ (b ∉ s.store.queue → holding → storeMode s = .wrap → preErase s = { s with
          store := { s.store with
            queue := s.store.queue ++ [b]
            overwritten := min (s.store.overwritten + s.store.banks[b].validCount) 65535 }
          log := (raise .overwrite (.bank b) 0 (BitVec.ofNat 32 b.val)
            (BitVec.ofNat 32 s.store.banks[b].validCount) s).log })))

/-- ERASE_COMPLETION: success makes every slot of the bank BLANK, erases its words and writes its stamp with
the count raised, and raises ERASED; failure retires the bank with every slot VOID, sets ERASE_FAIL, counts and
raises it.  In either case a waiting offer is then taken through target selection and the next work chosen.
That a retired bank's VALID count is 0 is the model's reading (assumption 26); the offer and the work follow O41 and
O43, with their readings and choices (14, 15, 17, 20, 34, 39). -/
def Obligations.EraseCompletionBlanksOrRetires : Prop :=
  (∀ (s : State) (b : Fin 4), s.store.activity = .erasing → s.store.busy = some b → s.store.offer = .none →
    b ∉ s.store.queue → (∀ c : Fin 4, s.store.banks[c].state ≠ .eraseSuspended) →
    (∃ t, exec (.eraseCompletion true) s = .next t
      ∧ t.store.banks[b].state = .blank ∧ t.store.banks[b].validCount = 0
      ∧ t.store.banks[b].eraseCount = min (s.store.banks[b].eraseCount + 1) 65535
      ∧ (∀ k : Fin 8, t.store.banks[b].slots[k] = { state := .blank, number := none })
      ∧ t.store.nv[b].stamp = some (min (s.store.banks[b].eraseCount + 1) 65535)
      ∧ (∀ (k : Fin 8) (o : Nat), t.store.nv[b].slots[k].word o = 0xFFFF#16)
      ∧ t = { s with store := t.store, log := t.log })
    ∧ ∃ t, exec (.eraseCompletion false) s = .next t
      ∧ t.store.banks[b].state = .retired
      ∧ (∀ k : Fin 8, t.store.banks[b].slots[k] = { state := .void, number := none })
      ∧ t.store.eraseFail = true ∧ t.store.eraseFails = min (s.store.eraseFails + 1) 65535
      ∧ t.store.banks[b].eraseCount = s.store.banks[b].eraseCount
      ∧ t = { s with store := t.store, log := t.log })
  ∧ (∀ (s : State) (b : Fin 4), s.store.activity = .erasing → s.store.busy = some b →
    let count := min (s.store.banks[b].eraseCount + 1) 65535
    let ended := { s.store with activity := .idle, busy := none }
    exec (.eraseCompletion true) s = .next (chooseWork (takeOffer { s with
      store := { ended with
        nv := s.store.nv.set b { slots := Vector.replicate 8 NvSlot.erased, stamp := some count, marks := [] }
        banks := s.store.banks.set b
          { state := .blank, eraseCount := count, validCount := 0,
            slots := Vector.replicate 8 { state := .blank, number := none }, marks := [] } }
      log := (raise .store (.bank b) 4 (BitVec.ofNat 32 b.val) (BitVec.ofNat 32 count) s).log }))
    ∧ exec (.eraseCompletion false) s = .next (chooseWork (takeOffer { s with
      store := { ended with
        banks := s.store.banks.set b
          { s.store.banks[b] with
            state := .retired, validCount := 0, slots := Vector.replicate 8 { state := .void, number := none } }
        eraseFails := min (s.store.eraseFails + 1) 65535
        eraseFail := true }
      log := (raise .store (.bank b) 5 (BitVec.ofNat 32 b.val)
        (BitVec.ofNat 32 s.store.banks[b].eraseCount) s).log })))

/-- An expiry of a timer that does not run, a completion of work that is not in hand and the end of a
transmission that is not going on change nothing.  The model's own: the manual's timers and works end only
while they run (assumption 2). -/
def Obligations.NothingComesDueThatDoesNotRun : Prop :=
  ∀ s : State,
    (s.run.brkTimer = .stopped → exec .brkTimeExpiry s = .next s)
    ∧ (s.run.restTimer = .stopped → exec .brkRestExpiry s = .next s)
    ∧ (s.run.stopTimer = .stopped → exec .stopTimeExpiry s = .next s)
    ∧ (s.lim.stallTimer = .stopped → exec .stallTimerExpiry s = .next s)
    ∧ (s.lim.spTimer = .stopped → exec .setpointTimerExpiry s = .next s)
    ∧ (∀ m, (s.reg m).fbTimer = .stopped → exec (.feedbackTimerExpiry m) s = .next s)
    ∧ (∀ c : Fin 6, s.vib.channels[c].silenceTimer = .stopped → exec (.silenceTimerExpiry c) s = .next s)
    ∧ (s.load.posTimer = .stopped → exec .positionTimerExpiry s = .next s)
    ∧ (s.recorder.postTimer = .stopped → exec .postLimitExpiry s = .next s)
    ∧ (s.log.pulseTimer = .stopped → exec .pulseTimerExpiry s = .next s)
    ∧ (s.store.activity ≠ .scanning → exec .scanEnd s = .next s)
    ∧ (∀ v, s.store.activity ≠ .programming → exec (.programCompletion v) s = .next s)
    ∧ (∀ v, s.store.activity ≠ .erasing → exec (.eraseCompletion v) s = .next s)
    ∧ (s.store.activity ≠ .blankChecking → exec .blankCheckCompletion s = .next s)
    ∧ (s.link.sTx = .idle → exec .transmissionEnd s = .next s)
    ∧ (s.link.m0Tx.sending = none → exec (.vcmdTransmissionEnd .A) s = .next s)
    ∧ (s.link.m1Tx.sending = none → exec (.vcmdTransmissionEnd .B) s = .next s)

/-! ### Setpoints and the run controller -/

/-- SETPOINT, in every state: request, supervisor time and watch are stored, SUP_LOST ends, EXT_TRIP follows
the flag, and the command, its shares and references follow from the limits in force.  The computation that
follows step 1 changes the torque limiter and the log alone: it raises TLIM where it is limiting, with direction and
tightest, and its stall watch starts STALL_TIME where the drive is in RUN, the request is clamped at a limit and
the speed below STALL_SPEED, lets a running timer run on, and stops it otherwise.  A setpoint without the flag
touches no list, recorder or regulator; one with it trips as O38 states (with the model's readings, assumptions 19
and 32). -/
def Obligations.SetpointIsStoredAndComputed : Prop :=
  ∀ (seq : Seq) (mode flags : Byte) (q : Word) (u : DWord) (s : State),
    let acted := handOver (flags.getLsbD 0) (mode == 1) (storeSetpoint q u (acceptFrame .S 0 seq s))
    ∃ t, exec (.setpoint seq mode flags q u) s = .next t
      ∧ t = { acted with lim := t.lim, log := t.log }
      ∧ t.log = (tlimRecord t.lim acted).log
      ∧ t.lim.tReq = q.toInt ∧ t.lim.supTime = u ∧ t.lim.missCount = 0 ∧ t.lim.supLost = false
      ∧ t.lim.spTimer = (match activeDrive s with | some d => .running d.spTimeout | none => .stopped)
      ∧ t.trip.extTrip = flags.getLsbD 0 ∧ ⟨.supLost, .none⟩ ∉ t.trip.active
      ∧ (⟨.extTrip, .none⟩ ∈ t.trip.active ↔ flags.getLsbD 0 = true)
      ∧ t.link.refS = some seq
      ∧ t.lim.tCmd = (if t.run.state = .breakaway ∨ t.run.state = .run then
          clamp (-t.lim.stack.lRev) t.lim.stack.lFwd q.toInt else 0)
      ∧ t.lim.stack.limiting = ((t.run.state == .breakaway || t.run.state == .run) && t.lim.tCmd != q.toInt)
      ∧ t.lim.stack.derate = leastDerate (motorSet s) s.lim.stack.vibDerate s.lim.stack.thermA s.lim.stack.thermB
      ∧ t.lim.stack.tightest = (if t.lim.stack.derate = 4096 then .none
          else if s.lim.stack.vibDerate = t.lim.stack.derate then .vib
          else if (motorSet s).has .A = true ∧ s.lim.stack.thermA = t.lim.stack.derate then .thermA
          else .thermB)
      ∧ (t.run.state ≠ .run → t.lim.stallTimer = .stopped)
      ∧ (t.run.state ≠ .breakaway → ∀ l, activeLimit s = some l →
          (t.lim.stack.baseFwd, t.lim.stack.baseRev) = curveAt l.points (mag (paceSpeed s)))
      ∧ (∀ d, activeDrive s = some d →
          (t.run.state = .breakaway → t.lim.stack.baseFwd = d.brkLimit ∧ t.lim.stack.baseRev = d.brkLimit)
          ∧ (d.motorSet = .ab →
              t.lim.stack.lFwd = (t.lim.stack.baseFwd * t.lim.stack.derate).tdiv 4096
              ∧ t.lim.stack.lRev = (t.lim.stack.baseRev * t.lim.stack.derate).tdiv 4096
              ∧ t.lim.shareA = (t.lim.tCmd * d.shareA).tdiv 4096)
          ∧ (d.motorSet ≠ .ab →
              t.lim.stack.lFwd = min d.smCap ((t.lim.stack.baseFwd * t.lim.stack.derate).tdiv 4096)
              ∧ t.lim.stack.lRev = min d.smCap ((t.lim.stack.baseRev * t.lim.stack.derate).tdiv 4096))
          ∧ (d.motorSet = .a → t.lim.shareB = 0) ∧ (d.motorSet = .b → t.lim.shareA = 0)
          ∧ t.lim.shareA + t.lim.shareB = t.lim.tCmd
          ∧ t.lim.iqRefA = clamp (-d.iqMax) d.iqMax ((t.lim.shareA * d.kti).tdiv 4096)
          ∧ t.lim.iqRefB = clamp (-d.iqMax) d.iqMax ((t.lim.shareB * d.kti).tdiv 4096)
          ∧ t.lim.stallTimer =
              (if t.run.state = .run
                ∧ (t.lim.stack.lFwd < q.toInt ∧ t.lim.tCmd = t.lim.stack.lFwd
                  ∨ q.toInt < -t.lim.stack.lRev ∧ t.lim.tCmd = -t.lim.stack.lRev)
                ∧ |paceSpeed s| < d.stallSpeed then
                if s.lim.stallTimer = .stopped then .running d.stallTime else s.lim.stallTimer
              else .stopped))
      ∧ t.vib = s.vib ∧ t.load = s.load ∧ t.store = s.store ∧ t.tab = s.tab ∧ t.pending = s.pending
      ∧ t.lim.stack.vibDerate = s.lim.stack.vibDerate ∧ t.lim.stack.thermA = s.lim.stack.thermA
      ∧ t.lim.stack.thermB = s.lim.stack.thermB
      ∧ (flags.getLsbD 0 = false → t.trip.list = s.trip.list ∧ t.trip.latch = s.trip.latch
          ∧ t.recorder = s.recorder ∧ t.regA = s.regA ∧ t.regB = s.regB
          ∧ t.link = (acceptFrame .S 0 seq s).link)

/-- The mode of a setpoint without EXT_TRIP: STOP sets the run edge and ends BREAKAWAY, RESTING or RUN in
STOPPING; RUN is taken in READY with the run edge set, refused without it, and taken in STOPPING, into RUN
at BRK_SPEED or above and into a first attempt below it; in other states RUN does nothing.  What needs no field of
the DRIVE table holds without one.  Each change and the refusal has its DRIVE_STATE record, with BRK_START or
BRK_END behind it, and TLIM of the computation follows. -/
def Obligations.ModeMovesTheDrive : Prop :=
  ∀ (seq : Seq) (mode flags : Byte) (q : Word) (u : DWord) (s : State), flags.getLsbD 0 = false →
    let a := acceptFrame .S 0 seq s
    ∃ t, exec (.setpoint seq mode flags q u) s = .next t
      ∧ (mode ≠ 1 → s.run.state ≠ .breakaway → s.run.state ≠ .resting → s.run.state ≠ .run →
          t.run = { s.run with runEdge := true } ∧ t.log = a.log)
      ∧ (mode = 1 → s.run.state = .ready → s.run.runEdge = false →
          t.run = s.run ∧ t.log = (driveStateRecord 15 1 2 a).log)
      ∧ (mode = 1 → s.run.state ≠ .ready → s.run.state ≠ .stopping →
          t.run = s.run ∧ t.log = (tlimRecord t.lim a).log)
      ∧ ∀ d, activeDrive s = some d →
        (mode ≠ 1 → s.run.state = .breakaway ∨ s.run.state = .resting →
          t.run = { s.run with
            state := .stopping, runEdge := true, brkTimer := .stopped, restTimer := .stopped,
            stopTimer := .running d.stopTime }
          ∧ t.log = (brkEndRecord 2 s.run.attempts (driveStateRecord s.run.state.code 5 6 a)).log)
        ∧ (mode ≠ 1 → s.run.state = .run →
          t.run = { s.run with
            state := .stopping, runEdge := true, brkTimer := .stopped, restTimer := .stopped,
            stopTimer := .running d.stopTime }
          ∧ t.log = (driveStateRecord 4 5 6 a).log)
        ∧ (mode = 1 → s.run.state = .ready → s.run.runEdge = true → (d.brkSpeed : Int) ≤ |paceSpeed s| →
          t.run = { s.run with state := .run }
          ∧ t.log = (tlimRecord t.lim (driveStateRecord 1 4 1 a)).log)
        ∧ (mode = 1 → s.run.state = .ready → s.run.runEdge = true → |paceSpeed s| < d.brkSpeed →
          t.run = { s.run with state := .breakaway, attempts := 1, brkTimer := .running d.brkTime }
          ∧ t.log = (tlimRecord t.lim (brkStartRecord 0 1 (driveStateRecord 1 2 1 a))).log)
        ∧ (mode = 1 → s.run.state = .stopping → (d.brkSpeed : Int) ≤ |paceSpeed s| →
          t.run = { s.run with state := .run, stopTimer := .stopped }
          ∧ t.log = (tlimRecord t.lim (driveStateRecord 5 4 7 a)).log)
        ∧ (mode = 1 → s.run.state = .stopping → |paceSpeed s| < d.brkSpeed →
          t.run = { s.run with
            state := .breakaway, attempts := 1, brkTimer := .running d.brkTime, stopTimer := .stopped }
          ∧ t.log = (tlimRecord t.lim (brkStartRecord 1 1 (driveStateRecord 5 2 7 a))).log)

/-- BRK_TIME_EXPIRY rests with attempts remaining and fails the breakaway without, BRK_END FAIL before the
records of the trip; BRK_REST_EXPIRY begins the next attempt; STOP_TIME_EXPIRY ends the stop in READY, which clears
the run edge, or in OFF, which keeps it, with cleared integrators and one blocking command on each port that has
had feedback.  Each has its DRIVE_STATE record with its reason.  The failed breakaway is a delivery, which does what
O38 states (blocking commands, trigger).  That the ALERT condition is judged for the latch of
a failed breakaway before its records is the model's reading (assumption 19, DEDUCED). -/
def Obligations.RunTimersExpire : Prop :=
  ∀ (s : State) (n : Nat) (d : DriveTable), activeDrive s = some d →
    (s.run.brkTimer = .running n → s.run.attempts < d.brkRetries →
      ∃ t, exec .brkTimeExpiry s = .next t
        ∧ t.run = { s.run with state := .resting, brkTimer := .stopped, restTimer := .running d.brkRest }
        ∧ t.log = (driveStateRecord s.run.state.code 3 4 s).log
        ∧ t.lim.tCmd = 0 ∧ t = { s with run := t.run, lim := t.lim, log := t.log })
    ∧ (s.run.brkTimer = .running n → d.brkRetries ≤ s.run.attempts → s.trip.latch = false →
      ∃ t, exec .brkTimeExpiry s = .next t
        ∧ t.run = { s.run with
            state := .tripped, brkTimer := .stopped, restTimer := .stopped, stopTimer := .stopped }
        ∧ t.trip.latch = true ∧ t.lim.tCmd = 0
        ∧ t.trip.list = [{
            id := ⟨.breakawayFail, .none⟩, pace := s.link.paceCount,
            value := BitVec.ofNat 32 (paceSpeed s).natAbs, supTime := s.lim.supTime }]
        ∧ t.log = (latchRecords ⟨.breakawayFail, .none⟩ (BitVec.ofNat 32 (paceSpeed s).natAbs)
            (brkEndRecord 1 s.run.attempts s)).log
        ∧ t = deliverCause { own := none, inSetpoint := false } ⟨.breakawayFail, .none⟩
            (BitVec.ofNat 32 (paceSpeed s).natAbs)
            (brkEndRecord 1 s.run.attempts { s with run := { s.run with brkTimer := .stopped } })
        ∧ t.vib = s.vib ∧ t.load = s.load ∧ t.store = s.store ∧ t.tab = s.tab ∧ t.pending = s.pending)
    ∧ (s.run.restTimer = .running n →
      ∃ t, exec .brkRestExpiry s = .next t
        ∧ t.run = { s.run with
            state := .breakaway, attempts := s.run.attempts + 1, restTimer := .stopped,
            brkTimer := .running d.brkTime }
        ∧ t.log = (tlimRecord t.lim (brkStartRecord 2 (s.run.attempts + 1)
            (driveStateRecord s.run.state.code 2 5 s))).log
        ∧ t = { s with run := t.run, lim := t.lim, log := t.log })
    ∧ (s.run.stopTimer = .running n → LinkLaw s.link →
      ∃ t, exec .stopTimeExpiry s = .next t
        ∧ t.run = { s.run with
            state := if readyConditions s then .ready else .off, stopTimer := .stopped, attempts := 0,
            runEdge := if readyConditions s then false else s.run.runEdge }
        ∧ t.lim.tCmd = 0
        ∧ t.log = (driveStateRecord s.run.state.code (if readyConditions s then 1 else 0) 9 s).log
        ∧ t.regA.intD = 0 ∧ t.regA.intQ = 0 ∧ t.regB.intD = 0 ∧ t.regB.intQ = 0
        ∧ (∀ m, t.link.vcmds m = s.link.vcmds m ++
            (if (s.reg m).seen then [{ seq := (s.reg m).lastSeq, vd := 0, vq := 0, block := true }] else []))
        ∧ t = { s with
            run := t.run, lim := t.lim, log := t.log, regA := t.regA, regB := t.regB, link := t.link })

/-- STALL_TIMER_EXPIRY delivers the STALL cause and leaves the timer stopped; SETPOINT_TIMER_EXPIRY counts a
miss, raises SP_MISS with the count and the held request, restarts its timer, and in an energised drive makes
SUP_LOST active and delivers it when the count comes to SP_LOSS_LIMIT.  Each delivery does what O38 states of one
(blocking commands, trigger), and the records of a latch follow.  The model's readings: the count comes to
SP_LOSS_LIMIT where it equals it (assumption 24, DEDUCED), and the ALERT condition is judged for the latch before its
records (assumption 19, DEDUCED). -/
def Obligations.TorqueTimersExpire : Prop :=
  ∀ (s : State) (n : Nat) (d : DriveTable), activeDrive s = some d →
    (s.lim.stallTimer = .running n → s.trip.latch = false →
      let speed := BitVec.ofNat 32 (paceSpeed s).natAbs
      ∃ t, exec .stallTimerExpiry s = .next t
        ∧ t.lim.stallTimer = .stopped ∧ t.trip.latch = true ∧ t.lim.tCmd = 0
        ∧ t.run = { s.run with
            state := .tripped, brkTimer := .stopped, restTimer := .stopped, stopTimer := .stopped }
        ∧ t.trip.list = [{
            id := ⟨.stall, .none⟩, pace := s.link.paceCount, value := speed, supTime := s.lim.supTime }]
        ∧ t.log = (latchRecords ⟨.stall, .none⟩ speed s).log
        ∧ t = deliverCause { own := none, inSetpoint := false } ⟨.stall, .none⟩ speed
            { s with lim := { s.lim with stallTimer := .stopped } }
        ∧ t.vib = s.vib ∧ t.load = s.load ∧ t.store = s.store ∧ t.tab = s.tab ∧ t.pending = s.pending)
    ∧ (s.lim.spTimer = .running n →
      ∃ t, exec .setpointTimerExpiry s = .next t
        ∧ t.lim.missCount = min (s.lim.missCount + 1) 65535 ∧ t.lim.spTimer = .running d.spTimeout
        ∧ t.lim.tReq = s.lim.tReq
        ∧ (let missed := raise .spMiss .none 0 (BitVec.ofNat 32 t.lim.missCount)
              (BitVec.ofInt 32 s.lim.tReq) s
          (energised s = false ∨ t.lim.missCount ≠ d.spLossLimit →
            t.lim = { s.lim with missCount := t.lim.missCount, spTimer := .running d.spTimeout }
            ∧ t = { s with lim := t.lim, log := missed.log })
          ∧ (energised s = true → t.lim.missCount = d.spLossLimit →
            t.lim.supLost = true ∧ ⟨.supLost, .none⟩ ∈ t.trip.active ∧ t.trip.latch = true
            ∧ (∀ c ∈ conditionOrder, c ∈ t.trip.active ↔ c ∈ s.trip.active ∨ c = ⟨.supLost, .none⟩)
            ∧ t = deliverCause { own := none, inSetpoint := false } ⟨.supLost, .none⟩
                (BitVec.ofNat 32 t.lim.missCount)
                { missed with
                  lim := { s.lim with
                    missCount := t.lim.missCount, spTimer := .running d.spTimeout, supLost := true }
                  trip := { s.trip with active := t.trip.active } }
            ∧ (s.trip.latch = false →
              t.run = { s.run with
                state := .tripped, brkTimer := .stopped, restTimer := .stopped, stopTimer := .stopped }
              ∧ t.log = (latchRecords ⟨.supLost, .none⟩ (BitVec.ofNat 32 t.lim.missCount) missed).log
              ∧ t.trip.list = [{
                  id := ⟨.supLost, .none⟩, pace := s.link.paceCount,
                  value := BitVec.ofNat 32 t.lim.missCount, supTime := s.lim.supTime }]))))

/-! ### Feedback -/

/-- FEEDBACK, in every state: the regulator takes in the frame, its thermal derate is formed and delivered,
the pace count rises for the pace motor alone, and the conditions of temperature and modulator follow the
frame.  The run controller then takes its step: an arrival that latches trips the drive, blocks the other
port where it was energised, triggers an ARMED recorder, and nothing else; else a motor of the set is an evaluation
point in OFF and READY, a pace arrival at BRK_SPEED or above takes BREAKAWAY to RUN, and one below STOP_SPEED ends
STOPPING in READY or OFF with cleared integrators and one blocking command on the other port.  The records up to then: those of the causes delivered, OVERTEMP before
MOD_FAULT, and those of the run controller's change, with BRK_END SUCCESS and TLIM where a breakaway ends.  The
model's readings: in a pace arrival the pace count rises before the sequence is judged, so that a LINK_ERR record
carries the new count (assumption 23, DEDUCED), and the ALERT condition is judged for a latch before its records
(assumption 19, DEDUCED). -/
def Obligations.FeedbackIsTakenIn : Prop :=
  (∀ (m : Motor) (f : FeedbackFrame) (s : State), ∃ t, exec (.feedback m f) s = .next t
    ∧ (t.reg m).seen = true ∧ (t.reg m).lastSeq = f.seq ∧ (t.reg m).idMeas = f.id.toInt
    ∧ (t.reg m).iqMeas = f.iq.toInt ∧ (t.reg m).speed = f.speed.toInt ∧ (t.reg m).dcLink = f.dcLink.toInt
    ∧ (t.reg m).temp = max (-40) (min 150 f.temp.toInt)
    ∧ (t.reg m).modState = (if f.modState = 1 then .ready else if f.modState = 2 then .running
        else if f.modState = 3 then .fault else .notReady)
    ∧ (t.reg m).faultCode = f.fault ∧ (t.reg m).missCount = 0 ∧ (t.reg m).fbLost = false
    ∧ (t.reg m).fbTimer = (match activeDrive s with | some d => .running d.fbTimeout | none => .stopped)
    ∧ (activeDrive s = none → (t.reg m).therm = 4096)
    ∧ (∀ d, activeDrive s = some d →
        (t.reg m).therm = (if (t.reg m).temp ≤ d.thermStart then 4096
          else if (t.reg m).temp < d.thermEnd then
            (4096 * (d.thermEnd - (t.reg m).temp)).tdiv (d.thermEnd - d.thermStart)
          else 0)
        ∧ (d.thermEnd ≤ (t.reg m).temp → d.motorSet.has m = true →
            (t.reg m).overtemp = true ∧ t.trip.latch = true)
        ∧ ((t.reg m).temp < d.thermEnd → (t.reg m).temp ≤ d.thermStart → (t.reg m).overtemp = false)
        ∧ ((t.reg m).temp < d.thermEnd → d.thermStart < (t.reg m).temp →
            (t.reg m).overtemp = (s.reg m).overtemp)
        ∧ (f.modState = 3 → d.motorSet.has m = true → (t.reg m).modFault = true ∧ t.trip.latch = true)
        ∧ (f.modState ≠ 3 → (t.reg m).modFault = false))
    ∧ (match m with
      | .A => t.lim.stack.thermA = (t.reg m).therm ∧ t.lim.stack.thermB = s.lim.stack.thermB
          ∧ t.regB.iqMeas = s.regB.iqMeas ∧ t.regB.speed = s.regB.speed ∧ t.regB.lastSeq = s.regB.lastSeq
      | .B => t.lim.stack.thermB = (t.reg m).therm ∧ t.lim.stack.thermA = s.lim.stack.thermA
          ∧ t.regA.iqMeas = s.regA.iqMeas ∧ t.regA.speed = s.regA.speed ∧ t.regA.lastSeq = s.regA.lastSeq)
    ∧ t.link.paceCount = (if m = paceMotor s then s.link.paceCount + 1 else s.link.paceCount)
    ∧ t.lim.stack.vibDerate = s.lim.stack.vibDerate ∧ t.lim.tReq = s.lim.tReq ∧ t.lim.supTime = s.lim.supTime
    ∧ t.lim.missCount = s.lim.missCount ∧ t.lim.spTimer = s.lim.spTimer ∧ t.link.slot = s.link.slot
    ∧ t.vib = s.vib ∧ t.tab = s.tab ∧ t.pending = s.pending)
  ∧ (∀ (m : Motor) (f : FeedbackFrame) (s : State),
    let u := arrivalStart m f s
    let d := driveFieldsOf s
    let latches := s.trip.latch = false ∧ inDriveSet s m = true
      ∧ (d.thermEnd ≤ max (-40) (min 150 f.temp.toInt) ∨ f.modState = 3)
    let inSet := (motorSet s).has m = true
    let pace := m = paceMotor s
    let own : Delivery := { own := some m, inSetpoint := false }
    let temp := max (-40) (min 150 f.temp.toInt)
    let accepted := acceptFrame (portOf m) 0 f.seq { s with link := { s.link with
      paceCount := if m = paceMotor s then s.link.paceCount + 1 else s.link.paceCount } }
    let heated := if inDriveSet s m = true ∧ d.thermEnd ≤ temp then
        deliverCause own ⟨.overtemp, .motor m⟩ (BitVec.ofInt 32 temp) accepted
      else accepted
    let judged := if inDriveSet s m = true ∧ f.modState = 3 then
        deliverCause own ⟨.modFault, .motor m⟩ (f.fault.setWidth 32) heated
      else heated
    ∃ t, exec (.feedback m f) s = .next t
      ∧ (t.trip.latch = u.trip.latch → t.run = u.run)
      ∧ u.trip.list = judged.trip.list ∧ u.trip.overflowSet = judged.trip.overflowSet
      ∧ u.trip.overflowCount = judged.trip.overflowCount
      ∧ (latches → u.log = judged.log)
      ∧ (latches → LinkLaw s.link → ∀ k, k ≠ m →
          t.link.vcmds k = s.link.vcmds k ++ (if energised s = true ∧ (s.reg k).seen = true then
            [blockingCommand (s.reg k)] else [])
          ∧ (energised s = true → (t.reg k).intD = 0 ∧ (t.reg k).intQ = 0))
      ∧ (latches → s.recorder.state = .armed →
          u.recorder = { s.recorder with
            state := .post
            ring := s.recorder.ring.drop (s.recorder.ring.length - preCountAt s)
            preCount := min s.recorder.ring.length (preCountAt s)
            postCount := 0
            postTarget := 256 - preCountAt s
            postTimer := .running (postLimitAt s)
            trigger := {
              pace := t.link.paceCount, supTime := s.lim.supTime, lFwd := u.lim.stack.lFwd,
              derate := leastDerate (motorSet s) s.lim.stack.vibDerate t.lim.stack.thermA t.lim.stack.thermB,
              attempts := s.run.attempts, dcA := t.regA.dcLink, tempA := t.regA.temp, dcB := t.regB.dcLink,
              tempB := t.regB.temp } }
          ∧ t.recorder.trigger = u.recorder.trigger)
      ∧ (¬pace → t.recorder = u.recorder)
      ∧ (latches → t.trip.latch = true ∧ t.run = { s.run with
          state := .tripped, brkTimer := .stopped, restTimer := .stopped, stopTimer := .stopped })
      ∧ (¬latches → u.trip.latch = s.trip.latch
        ∧ (s.run.state = .off → t.run =
            if inSet ∧ readyConditions t = true then
              { s.run with state := .ready, runEdge := false, attempts := 0 } else s.run)
        ∧ (s.run.state = .ready → t.run =
            if inSet ∧ readyConditions t = false then { s.run with state := .off, attempts := 0 } else s.run)
        ∧ (s.run.state = .off ∨ s.run.state = .ready →
            u.log = (if inSet then conditionsRecord (readyConditions t) judged else judged).log)
        ∧ (s.run.state = .breakaway → pace → (d.brkSpeed : Int) ≤ |f.speed.toInt| →
            u.run = { s.run with state := .run, brkTimer := .stopped }
            ∧ u.lim.tCmd = clamp (-u.lim.stack.lRev) u.lim.stack.lFwd s.lim.tReq
            ∧ u.log = (tlimRecord u.lim
                (brkEndRecord 0 s.run.attempts (driveStateRecord 2 4 3 judged))).log)
        ∧ (s.run.state = .stopping → pace → |f.speed.toInt| < d.stopSpeed →
            t.run = { s.run with
              state := if readyConditions t then .ready else .off, stopTimer := .stopped, attempts := 0,
              runEdge := if readyConditions t then false else s.run.runEdge }
            ∧ t.lim.tCmd = 0 ∧ t.lim.otCount = 0
            ∧ u.log = (driveStateRecord 5 (if readyConditions t then 1 else 0) 8 judged).log
            ∧ t.regA.intD = 0 ∧ t.regA.intQ = 0 ∧ t.regB.intD = 0 ∧ t.regB.intQ = 0
            ∧ (LinkLaw s.link → ∀ k, k ≠ m → t.link.vcmds k = s.link.vcmds k ++
                (if (s.reg k).seen then
                  [{ seq := (s.reg k).lastSeq, vd := 0, vq := 0, block := true }] else [])))
        ∧ (s.run.state = .breakaway → ¬(pace ∧ (d.brkSpeed : Int) ≤ |f.speed.toInt|) →
            u.run = s.run ∧ u.log = judged.log)
        ∧ (s.run.state = .stopping → ¬(pace ∧ |f.speed.toInt| < d.stopSpeed) →
            u.run = s.run ∧ u.log = judged.log)
        ∧ (s.run.state = .resting ∨ s.run.state = .run ∨ s.run.state = .tripped →
            u.run = s.run ∧ u.log = judged.log)))

/-- A FEEDBACK arrival is answered by one VCMD on its port, with the frame's sequence: the PI law's voltages
under the band of the frame's speed while the drive is energised and the motor in the set, otherwise a
blocking command with both integrators zero and the band as it was, before a GAIN table is active as after.  Each
axis whose output is clamped raises VCLIP with the band, the axis and the value before the clamp, D before Q; a
blocking answer raises none.  These are the last records of an arrival that freezes no trip record.  The records
before them stand as O53 and O56 state, with the model's readings (assumptions 19 and 23). -/
def Obligations.FeedbackIsAnsweredOnce : Prop :=
  ∀ (m : Motor) (f : FeedbackFrame) (s : State), LinkLaw s.link →
    let u := arrivalStart m f s
    let torqued := if m = paceMotor s ∧ energised u = true then torqueAtArrival m u else u
    ∃ t v, exec (.feedback m f) s = .next t
      ∧ t.link.vcmds m = s.link.vcmds m ++ [v] ∧ v.seq = f.seq
      ∧ (t.reg m).vdLast = v.vd ∧ (t.reg m).vqLast = v.vq
      ∧ v.block = !(energised t && inDriveSet t m)
      ∧ (let quiet := m ≠ paceMotor s ∨ t.recorder.state = .armed ∨ t.recorder.state = .post
            ∨ s.recorder.state = .frozen ∨ s.recorder.state = .writing ∨ s.recorder.state = .done
        (v.block = true → v.vd = 0 ∧ v.vq = 0 ∧ (t.reg m).intD = 0 ∧ (t.reg m).intQ = 0
          ∧ (t.reg m).band = (s.reg m).band ∧ (quiet → t.log = torqued.log))
        ∧ (v.block = false → ∀ g, activeGain s = some g →
          let b := g.bands[(t.reg m).band]
          let iqRef := match m with | .A => t.lim.iqRefA | .B => t.lim.iqRefB
          let d := piAxis b.idRef f.id.toInt (s.reg m).intD b.kpD b.kiD b.vdLim
          let q := piAxis iqRef f.iq.toInt (s.reg m).intQ b.kpQ b.kiQ b.vqLim
          let clipped := fun (axis : DWord) (a : AxisResult) (x : State) =>
            if a.v = a.raw then x
            else raise .vclip (.motor m) (BitVec.ofNat 16 (t.reg m).band.val) axis (BitVec.ofInt 32 a.raw) x
          (∀ k : Fin 8, k < (t.reg m).band → g.bands[k].upper ≤ |f.speed.toInt|)
          ∧ ((t.reg m).band < 7 → |f.speed.toInt| < b.upper)
          ∧ v.vd = d.v ∧ v.vq = q.v ∧ (t.reg m).intD = d.int ∧ (t.reg m).intQ = q.int
          ∧ (0 ≤ b.vdLim → |v.vd| ≤ b.vdLim) ∧ (0 ≤ b.vqLim → |v.vq| ≤ b.vqLim)
          ∧ (quiet → t.log = (clipped 1 q (clipped 0 d torqued)).log)))

/-- The PI law of one axis: the error saturates, the integrator advances only where the clamp does not push
against it, and the output is clamped. -/
def Obligations.AxisFollowsThePiLaw : Prop :=
  ∀ (ref meas int kp ki lim : Int), 0 ≤ lim →
    let e := max (-32767) (min 32767 (ref - meas))
    let kept := max (-(lim * 4096)) (min (lim * 4096) int)
    let moved := max (-(lim * 4096)) (min (lim * 4096) (kept + ki * e))
    let a := piAxis ref meas int kp ki lim
    a.raw = (kp * e).tdiv 4096 + moved.tdiv 4096
    ∧ a.v = max (-lim) (min lim a.raw)
    ∧ a.int = (if lim < a.raw ∧ 0 < e ∨ a.raw < -lim ∧ e < 0 then kept else moved)
    ∧ |a.int| ≤ lim * 4096

/-- A pace arrival of an ARMED recorder appends its snapshot, dropping the oldest of 256; a due report is
sent from an idle transmitter with an empty slot and carries every block as it then stands (the first cause while
the latch is set, else none) and the skipped count, and is skipped and counted otherwise; the report pattern
advances.  With the drive energised after the run controller's step, the measured
torque of the set is formed, compared with the allowance and counted, OVERTORQUE is delivered when the count
comes to OT_PERSIST (compared with at least: assumption 24), and the torque is gathered into its sector; else
nothing is formed or gathered.  An arrival that latches gives the first entry of the post part; in POST the
snapshot is appended and counted, and at the target the record is frozen with reason TARGET and offered, the
records of the offer the last of the arrival.  The model's readings: the offer waits in PROGRAMMING (assumption 28),
and a record is missed at once when the numbers are exhausted (14); what an offer taken does is O41's (15, 17, 20,
39); the records before it carry the raised pace count (23), and ALERT is judged before that of a latch (19). -/
def Obligations.PaceArrivalRecordsAndReports : Prop :=
  (∀ (m : Motor) (f : FeedbackFrame) (s : State), m = paceMotor s →
    ∃ t, exec (.feedback m f) s = .next t
      ∧ (t.recorder.state = .armed → ∃ x, t.recorder.ring = s.recorder.ring.drop (s.recorder.ring.length - 255) ++ [x]
          ∧ x.pace = (s.link.paceCount + 1).setWidth 16 ∧ x.speed = f.speed.toInt
          ∧ x.tCmd = t.lim.tCmd ∧ x.lFwd = t.lim.stack.lFwd ∧ x.iqA = t.regA.iqMeas ∧ x.iqB = t.regB.iqMeas
          ∧ x.vqA = t.regA.vqLast ∧ x.vqB = t.regB.vqLast)
      ∧ (reportDue s = true → s.link.slot = none → s.link.sTx = .idle →
          t.link.skipped = 0 ∧ t.link.outS = s.link.outS + 1
          ∧ ∃ x, t.link.sTx = .report s.link.outS x ∧ x.skipped = s.link.skipped ∧ x.drive = t.run.state
            ∧ x.trip = t.trip.latch ∧ x.tCmd = t.lim.tCmd ∧ x.speed = f.speed.toInt
            ∧ x.fill = t.log.ring.length ∧ x.activity = t.store.activity ∧ x.sticky = stickyFlags t
            ∧ x.firstCause = (if t.trip.latch then t.trip.list.head?.map fun e => e.id else none)
            ∧ x.lFwd = t.lim.stack.lFwd ∧ x.lRev = t.lim.stack.lRev
            ∧ x.iqA = t.regA.iqMeas ∧ x.iqB = t.regB.iqMeas
            ∧ (∀ c : Fin 6, x.channels[c] = t.vib.channels[c].state)
            ∧ x.ecc = t.load.ecc ∧ x.eccValid = t.load.eccValid ∧ x.ringAlert = t.load.ringAlert
            ∧ x.busy = t.store.busy)
      ∧ (reportDue s = true → s.link.slot ≠ none ∨ s.link.sTx ≠ .idle →
          t.link.skipped = min (s.link.skipped + 1) 65535 ∧ t.link.sTx = s.link.sTx ∧ t.link.slot = s.link.slot)
      ∧ (reportDue s = false → t.link.skipped = s.link.skipped ∧ t.link.sTx = s.link.sTx))
  ∧ (∀ (m : Motor) (f : FeedbackFrame) (s : State), m = paceMotor s →
    let u := arrivalStart m f s
    let torqued := if energised u = true then torqueAtArrival m u else u
    let (pass, mask) := match activeDrive s with | some d => (d.reportPass, d.reportMask) | none => (0, 0)
    ∃ t, exec (.feedback m f) s = .next t
      ∧ (t.link.reportPhase, t.link.remaining) =
        (if pass = 0 ∧ mask = 0 then (s.link.reportPhase, s.link.remaining)
        else if s.link.reportPhase = .pass then
          if 1 < s.link.remaining then (.pass, s.link.remaining - 1)
          else if 0 < mask then (.mask, mask) else (.pass, pass)
        else if 1 < s.link.remaining then (.mask, s.link.remaining - 1) else (.pass, pass))
      ∧ (energised u = false → t.lim.tMeas = s.lim.tMeas ∧ t.load = s.load)
      ∧ (energised u = true → ∀ d, activeDrive s = some d →
          let torque :=
            (if d.motorSet.has .A then (t.regA.iqMeas * 4096).tdiv d.kti else 0)
              + (if d.motorSet.has .B then (t.regB.iqMeas * 4096).tdiv d.kti else 0)
          let allow := d.otLevel + (if s.load.eccValid then min (s.load.ecc : Int) d.otEccMax else 0)
          let full := allow < |torque| ∧ d.otPersist ≤ s.lim.otCount + 1
          t.lim.tMeas = torque
          ∧ (|torque| ≤ allow → t.lim.otCount = 0 ∧ t.run = u.run ∧ torqued.log = u.log)
          ∧ (allow < |torque| → ¬full →
              t.lim.otCount = s.lim.otCount + 1 ∧ t.run = u.run ∧ torqued.log = u.log)
          ∧ (full → t.trip.latch = true ∧ (s.trip.latch = false →
              t.run.state = .tripped ∧ t.lim.otCount = 0 ∧ t.lim.tCmd = 0
              ∧ torqued.log = (latchRecords ⟨.overtorque, .none⟩ (BitVec.ofInt 32 torque) u).log
              ∧ (LinkLaw s.link → ∀ k, k ≠ m →
                t.link.vcmds k = s.link.vcmds k ++ (if (s.reg k).seen = true then
                  [blockingCommand (s.reg k)] else [])
                ∧ (t.reg k).intD = 0 ∧ (t.reg k).intQ = 0)
              ∧ t.trip.list = [{
                  id := ⟨.overtorque, .none⟩, pace := s.link.paceCount + 1, value := BitVec.ofInt 32 torque,
                  supTime := s.lim.supTime }]))
          ∧ (∀ k : Fin 16, k.val = s.load.lastAngle.toNat / 4096 → t.load =
              if s.load.posTimer ≠ .stopped ∧ s.load.cnt[k] < 4294967295 then
                { s.load with
                  acc := s.load.acc.set k (s.load.acc[k] + torque.natAbs)
                  cnt := s.load.cnt.set k (s.load.cnt[k] + 1) }
              else s.load))
      ∧ (s.recorder.state = .armed → s.trip.latch = false → t.trip.latch = true →
          (∀ d, activeDrive s = some d → d.preCount ≤ 224) →
          t.recorder.state = .post ∧ t.recorder.postCount = 1
          ∧ t.recorder.preCount = min s.recorder.ring.length (preCountAt s)
          ∧ t.recorder.postTarget = 256 - preCountAt s
          ∧ t.recorder.ring.dropLast = s.recorder.ring.drop (s.recorder.ring.length - preCountAt s)
          ∧ t.recorder.trigger = {
              pace := s.link.paceCount + 1, supTime := s.lim.supTime, lFwd := t.lim.stack.lFwd,
              derate := t.lim.stack.derate, attempts := t.run.attempts, dcA := t.regA.dcLink,
              tempA := t.regA.temp, dcB := t.regB.dcLink, tempB := t.regB.temp })
      ∧ (s.recorder.state = .post →
          (∃ x, t.recorder.ring = s.recorder.ring.drop (s.recorder.ring.length - 255) ++ [x]
            ∧ x.pace = (s.link.paceCount + 1).setWidth 16 ∧ x.speed = f.speed.toInt)
          ∧ (s.recorder.postCount + 1 < s.recorder.postTarget → t.recorder = { s.recorder with
              ring := t.recorder.ring, postCount := s.recorder.postCount + 1 } ∧ t.store = s.store)
          ∧ (s.recorder.postTarget ≤ s.recorder.postCount + 1 →
              t.recorder.postTimer = .stopped ∧ t.recorder.postCount = s.recorder.postCount + 1
              ∧ (∃ x, t.recorder.ramRecord = some x ∧ x.reason = .target
                ∧ x.postCount = s.recorder.postCount + 1 ∧ x.preCount = s.recorder.preCount
                ∧ x.trigger = s.recorder.trigger ∧ x.snapshots = t.recorder.ring ∧ x.causes = t.trip.list)
              ∧ (s.store.activity ≠ .idle → s.store.activity ≠ .erasing →
                t.recorder.state = .frozen ∧ t.store = { s.store with offer := .newRecord }
                ∧ t.log = (answerFrame m torqued).log)
              ∧ (s.store.activity = .idle ∨ s.store.activity = .erasing →
                t.log = (takeOffer { answerFrame m torqued with
                  store := { s.store with offer := .newRecord } }).log)
              ∧ (s.store.activity = .idle ∨ s.store.activity = .erasing →
                match (if s.store.nextNumber = 0 then .miss else s.store.select (storeMode s)) with
                | .slot _ _ => t.recorder.state = .writing ∧ t.store.activity = .programming
                | .wait | .queueErase _ | .queueOverwrite _ =>
                  t.recorder.state = .frozen ∧ t.store.offer = .newRecord
                | .miss => t.recorder.state = .done ∧ t.store.offer = .none)))
      ∧ (s.recorder.state = .frozen ∨ s.recorder.state = .writing ∨ s.recorder.state = .done →
          t.recorder = s.recorder ∧ t.store = s.store))

/-- FEEDBACK_TIMER_EXPIRY counts a miss, raises FB_MISS, BLOCKED where it blocks, and restarts its timer; while
the drive is energised and the motor in the set it sends one blocking command with cleared integrators, and
delivers FB_LOST when the count comes to FB_LOSS_LIMIT, a delivery of its own, which does what O38 states: it blocks
the other port and triggers an ARMED recorder.  Otherwise, for a motor of the set, it is an evaluation
point: READY goes to OFF, and no other state moves.  The model's readings: the count comes to the limit where it equals
it (assumption 24, DEDUCED), a blocking command sets the last voltages to 0 (22, DEDUCED), and the ALERT condition is
judged for a latch before its records (19, DEDUCED). -/
def Obligations.FeedbackTimerExpires : Prop :=
  ∀ (m : Motor) (s : State) (n : Nat) (d : DriveTable), activeDrive s = some d → LinkLaw s.link →
    (s.reg m).fbTimer = .running n →
    let driving := energised s && d.motorSet.has m
    let count := min ((s.reg m).missCount + 1) 65535
    let lost := driving = true ∧ count = d.fbLossLimit
    let falls := s.run.state = .ready ∧ d.motorSet.has m = true
    let missed := raise .fbMiss (.motor m) (if driving then 1 else 0) (BitVec.ofNat 32 count)
      ((s.reg m).lastSeq.setWidth 32) s
    ∃ t, exec (.feedbackTimerExpiry m) s = .next t
      ∧ (t.reg m).missCount = count ∧ (t.reg m).fbTimer = .running d.fbTimeout
      ∧ (t.reg m).lastSeq = (s.reg m).lastSeq ∧ (t.reg m).iqMeas = (s.reg m).iqMeas
      ∧ (driving = true → (t.reg m).intD = 0 ∧ (t.reg m).intQ = 0
          ∧ (t.reg m).vdLast = 0 ∧ (t.reg m).vqLast = 0
          ∧ t.link.vcmds m = s.link.vcmds m ++ [{ seq := (s.reg m).lastSeq, vd := 0, vq := 0, block := true }])
      ∧ (driving = false → t.link = s.link)
      ∧ (lost → (t.reg m).fbLost = true ∧ ⟨.fbLost, .motor m⟩ ∈ t.trip.active ∧ t.trip.latch = true
          ∧ (s.trip.latch = false →
            t.run = { s.run with
              state := .tripped, brkTimer := .stopped, restTimer := .stopped, stopTimer := .stopped }
            ∧ t.trip.list = [{
                id := ⟨.fbLost, .motor m⟩, pace := s.link.paceCount, value := BitVec.ofNat 32 count,
                supTime := s.lim.supTime }]
            ∧ t.log = (latchRecords ⟨.fbLost, .motor m⟩ (BitVec.ofNat 32 count) missed).log))
      ∧ (lost → ∃ u, t = deliverCause { own := some m, inSetpoint := false } ⟨.fbLost, .motor m⟩
            (BitVec.ofNat 32 count) u
          ∧ u = { s with
              regA := u.regA, regB := u.regB, link := u.link, trip := { s.trip with active := t.trip.active }
              log := missed.log }
          ∧ (∀ c ∈ conditionOrder, c ∈ t.trip.active ↔ c ∈ s.trip.active ∨ c = ⟨.fbLost, .motor m⟩)
          ∧ (∀ k, u.reg k = if k = m then
              { s.reg m with
                missCount := count, fbTimer := .running d.fbTimeout, fbLost := true, intD := 0, intQ := 0,
                vdLast := 0, vqLast := 0 }
            else s.reg k)
          ∧ (∀ k, u.link.vcmds k = s.link.vcmds k ++ if k = m then [blockingCommand (s.reg m)] else [])
          ∧ u.link = { s.link with
              m0Tx := u.link.m0Tx, m1Tx := u.link.m1Tx, outM0 := u.link.outM0, outM1 := u.link.outM1 }
          ∧ (s.trip.latch = false → ∀ k, k ≠ m →
              t.link.vcmds k = s.link.vcmds k ++ (if (s.reg k).seen = true then
                [blockingCommand (s.reg k)] else [])
              ∧ (t.reg k).intD = 0 ∧ (t.reg k).intQ = 0))
      ∧ (¬lost → (t.reg m).fbLost = (s.reg m).fbLost ∧ (∀ k, k ≠ m → t.reg k = s.reg k)
          ∧ t = { s with
              run := t.run, lim := t.lim, regA := t.regA, regB := t.regB, link := t.link, log := t.log })
      ∧ (¬lost → ¬falls → t.run = s.run ∧ t.lim = s.lim ∧ t.log = missed.log)
      ∧ (falls → t.run = { s.run with state := .off, attempts := 0 } ∧ t.lim.tCmd = 0 ∧ t.lim.otCount = 0
          ∧ t.log = (driveStateRecord 1 0 0 missed).log)
      ∧ t.vib = s.vib ∧ t.load = s.load ∧ t.store = s.store ∧ t.tab = s.tab ∧ t.pending = s.pending

/-! ### Vibration and the shell -/

/-- VIBSAMPLE: an OFF channel discards its frame, as every channel does before the first VIB commit; a gathered
frame adds its squares; the frame that completes the window sets the last level to the integer square root of the
mean square, lifted to ALERT by an overrange sample, counts windows at DANGER, and sets the state by level and
count; a skipped frame is counted.  A change of state raises VIB_STATE with reason WINDOW and the level, ends
VIB_DANGER where DANGER is left, delivers the derate, and delivers VIB_DANGER where DANGER is entered, a delivery that
does what O38 states (blocking commands, trigger).  Other
channels are as they were.  That the ALERT condition is judged for the change of state before VIB_STATE is raised is
the model's reading (assumption 19, DEDUCED). -/
def Obligations.VibSampleGathersAndEvaluates : Prop :=
  (∀ (c : Fin 6) (seq : Seq) (samples : Vector Word 8) (s : State), channelConfig s c = none →
    exec (.vibSample c seq samples) s = .next (acceptFrame .H (c.castLE (by decide)) seq s))
  ∧ ∀ (c : Fin 6) (seq : Seq) (samples : Vector Word 8) (s : State) (g : ChannelConfig),
    channelConfig s c = some g → g.clear ≤ g.alert →
    let x := s.vib.channels[c]
    let a := acceptFrame .H (c.castLE (by decide)) seq s
    let acc := x.acc + (samples.toList.map fun w => w.toInt.natAbs ^ 2).sum
    let beyond := x.overrange || samples.toList.any fun w => w.toInt == -32768 || w.toInt == 32767
    ∃ t, exec (.vibSample c seq samples) s = .next t
      ∧ (∀ k : Fin 6, k ≠ c → t.vib.channels[k] = s.vib.channels[k])
      ∧ t.load = s.load ∧ t.store = s.store ∧ t.tab = s.tab ∧ t.pending = s.pending
      ∧ (x.state = .off → t = a)
      ∧ (x.state ≠ .off → x.phase = .gather → x.frames + 1 ≠ g.window →
          t.vib.channels[c] = { x with
            acc := acc, overrange := beyond, frames := x.frames + 1, silenceTimer := .running g.silenceTime }
          ∧ t = { a with vib := t.vib })
      ∧ (x.state ≠ .off → x.phase = .skip →
          t.vib.channels[c] = (if g.gap ≤ x.frames + 1 then
              { x with
                phase := .gather, acc := 0, frames := 0, overrange := false,
                silenceTimer := .running g.silenceTime }
            else { x with frames := x.frames + 1, silenceTimer := .running g.silenceTime })
          ∧ t = { a with vib := t.vib })
      ∧ (x.state ≠ .off → x.phase = .gather → x.frames + 1 = g.window → acc / (8 * g.window) < 2 ^ 32 →
          ∃ root level count state, root * root ≤ acc / (8 * g.window)
            ∧ acc / (8 * g.window) < (root + 1) * (root + 1)
            ∧ level = (if beyond then max root g.alert else root)
            ∧ count = (if g.danger ≤ level then min (x.persist + 1) g.persist else 0)
            ∧ state =
                (if g.danger ≤ level then
                  if x.state = .danger ∨ count = g.persist then .danger else .alert
                else if g.alert ≤ level then .alert
                else if g.clear ≤ level ∧ (x.state = .alert ∨ x.state = .danger) then .alert
                else .normal)
            ∧ t.vib.channels[c].lastLevel = level ∧ t.vib.channels[c].persist = count
            ∧ t.vib.channels[c].state = state
            ∧ (if 0 < g.gap then t.vib.channels[c].phase = .skip
              else t.vib.channels[c].phase = .gather ∧ t.vib.channels[c].acc = 0
                ∧ t.vib.channels[c].overrange = false)
            ∧ t.vib.channels[c].frames = 0
            ∧ t.vib.channels[c].silenceTimer = .running g.silenceTime
            ∧ (state = x.state → t = { a with vib := t.vib } ∧ t.vib.channels[c].danger = x.danger)
            ∧ (state ≠ x.state → t.lim.stack.vibDerate = derateNow t ∧ t.vib.derate = derateNow t)
            ∧ (state ≠ x.state → state ≠ .danger →
                t.log = (vibStateRecord c state 0 level a).log
                ∧ (x.state = .danger → t.vib.channels[c].danger = false
                    ∧ ⟨.vibDanger, .channel c⟩ ∉ t.trip.active)
                ∧ t = { a with
                    vib := t.vib, log := t.log,
                    lim := { s.lim with stack := { s.lim.stack with vibDerate := derateNow t } }
                    trip := { s.trip with active := t.trip.active } })
            ∧ (state = .danger → x.state ≠ .danger →
                let delivered := deliverCause { own := none, inSetpoint := false }
                  ⟨.vibDanger, .channel c⟩ (BitVec.ofNat 32 level) { vibStateRecord c state 0 level a with
                    vib := t.vib
                    lim := { s.lim with stack := { s.lim.stack with vibDerate := derateNow t } }
                    trip := { s.trip with active := t.trip.active } }
                t.vib.channels[c].danger = true ∧ ⟨.vibDanger, .channel c⟩ ∈ t.trip.active
                ∧ t.trip.latch = true
                ∧ (∀ k ∈ conditionOrder, k ∈ t.trip.active ↔ k ∈ s.trip.active ∨ k = ⟨.vibDanger, .channel c⟩)
                ∧ t = delivered))

/-- SILENCE_TIMER_EXPIRY makes the channel SILENT with its window discarded and its last level kept, delivers
the derate and ends VIB_DANGER.  VIB_RESTART of an enabled channel makes it SILENT with its record cleared; a
channel that is not enabled stays as it is; the derate is delivered and answered in either case.  A change of state
raises VIB_STATE, with reason SILENCE or RESTART and the last level.  The model's readings: a restart reports the
level it clears (assumption 12, DEDUCED), and the ALERT condition is judged for the change before the record is raised
(assumption 19, DEDUCED). -/
def Obligations.SilenceAndRestartClearTheChannel : Prop :=
  (∀ (c : Fin 6) (s : State) (n : Nat), ConditionLaw s → s.vib.channels[c].silenceTimer = .running n →
    ∃ t, exec (.silenceTimerExpiry c) s = .next t
      ∧ t.vib.channels[c] = { s.vib.channels[c] with
          state := .silent, phase := .gather, acc := 0, frames := 0, overrange := false, persist := 0,
          silenceTimer := .stopped, danger := false }
      ∧ (∀ k : Fin 6, k ≠ c → t.vib.channels[k] = s.vib.channels[k])
      ∧ ⟨.vibDanger, .channel c⟩ ∉ t.trip.active ∧ t.trip.list = s.trip.list
      ∧ (s.vib.channels[c].state ≠ .silent →
          t.lim.stack.vibDerate = derateNow t ∧ t.vib.derate = derateNow t)
      ∧ t.log = (if s.vib.channels[c].state = .silent then s
          else vibStateRecord c .silent 1 s.vib.channels[c].lastLevel s).log
      ∧ (s.vib.channels[c].state = .silent → t = { s with vib := t.vib })
      ∧ t = { s with vib := t.vib, lim := t.lim, trip := t.trip, log := t.log })
  ∧ (∀ (r : Request) (s : State) (n : Byte) (c : Fin 6), ConditionLaw s → s.link.slot = none → r.args = [n] →
    n.toNat = c.val →
    ∃ t, exec (.vibRestart r) s = .next (answerPlaced 19 r .ok
          (BitVec.ofNat 8 t.vib.channels[c].state.code :: bytes16 (BitVec.ofInt 16 (derateNow t))) t)
      ∧ (channelEnabled s c = true → t.vib.channels[c] =
          { state := .silent, phase := .gather, acc := 0, frames := 0, overrange := false, persist := 0,
            lastLevel := 0, silenceTimer := .stopped, danger := false })
      ∧ (channelEnabled s c = false → t.vib.channels = s.vib.channels)
      ∧ (∀ k : Fin 6, k ≠ c → t.vib.channels[k] = s.vib.channels[k])
      ∧ t.lim.stack.vibDerate = derateNow t ∧ t.vib.derate = derateNow t
      ∧ t.log = (if channelEnabled s c = true ∧ s.vib.channels[c].state ≠ .silent then
            vibStateRecord c .silent 2 s.vib.channels[c].lastLevel (requestTaken r s)
          else requestTaken r s).log
      ∧ t = { requestTaken r s with vib := t.vib, lim := t.lim, trip := t.trip, log := t.log })

/-- POSITION: discarded without a VIB table; the first angle becomes the reference; a later one is a step, a
reverse wrap that empties the sums, or a forward revolution that forms averages and ECC where every sector
was gathered; in each case it becomes the last angle and the timer is restarted.  POSITION_TIMER_EXPIRY: sums
cleared, reference absent, ECC invalid with its value kept, ring alert cleared.  A ring alert that changes raises
RING_STATE with its reason, its new state and ECC; nothing else is recorded.  That the ALERT condition is judged for
the change before RING_STATE is raised is the model's reading (assumption 19, DEDUCED). -/
def Obligations.PositionFollowsTheShell : Prop :=
  (∀ (seq : Seq) (a : Word) (s : State), ∃ t, exec (.position seq a) s = .next t
    ∧ t = { acceptFrame .H 7 seq s with load := t.load, log := t.log }
    ∧ t.log = (ringStateRecord t.load.ringAlert 0 t.load.ecc (acceptFrame .H 7 seq s)).log
    ∧ (activeVib s = none → t.load = s.load)
    ∧ ∀ v, activeVib s = some v →
        t.load.lastAngle = a ∧ t.load.refPresent = true ∧ t.load.posTimer = .running v.posTimeout
        ∧ (s.load.refPresent = false →
            t.load = { s.load with refPresent := true, lastAngle := a, posTimer := .running v.posTimeout })
        ∧ (s.load.refPresent = true →
            let p := s.load.lastAngle.toNat
            let forward := a.toNat < p ∧ 32768 < p - a.toNat
            let reverse := p < a.toNat ∧ 32768 < a.toNat - p
            (¬forward → ¬reverse →
              t.load = { s.load with lastAngle := a, posTimer := .running v.posTimeout })
            ∧ (forward ∨ reverse → ∀ k : Fin 16, t.load.acc[k] = 0 ∧ t.load.cnt[k] = 0)
            ∧ (reverse ∨ forward ∧ (∃ k : Fin 16, s.load.cnt[k] = 0) →
              t.load.avg = s.load.avg ∧ t.load.ecc = s.load.ecc ∧ t.load.eccValid = s.load.eccValid
                ∧ t.load.ringAlert = s.load.ringAlert)
            ∧ (forward → (∀ k : Fin 16, 0 < s.load.cnt[k]) →
              (∀ k : Fin 16, t.load.avg[k] = s.load.acc[k] / s.load.cnt[k])
              ∧ (∀ j k : Fin 16, t.load.avg[j] - t.load.avg[k] ≤ t.load.ecc)
              ∧ (∃ j k : Fin 16, t.load.ecc = t.load.avg[j] - t.load.avg[k])
              ∧ t.load.eccValid = true
              ∧ t.load.ringAlert = (if v.ringAlert ≤ t.load.ecc then true
                  else if t.load.ecc < v.ringClear then false else s.load.ringAlert))))
  ∧ (∀ (s : State) (n : Nat), s.load.posTimer = .running n →
    ∃ t, exec .positionTimerExpiry s = .next t
      ∧ t.load = { s.load with
          refPresent := false, posTimer := .stopped, eccValid := false, ringAlert := false,
          acc := Vector.replicate 16 0, cnt := Vector.replicate 16 0 }
      ∧ t.log = (ringStateRecord false 1 s.load.ecc s).log
      ∧ t = { s with load := t.load, log := t.log })
end

