-- ==== Sys2Proof/Laws/Frames.lean ====
section
/-! SUPPORT. What the operations of Machine/Ops.lean leave unchanged: one lemma for each, field by field. -/

namespace Sys2Proof.Machine

@[simp] theorem raise_frame (k : EventKind) (o : Source) (f : Word) (a b : DWord) (s : State) :
    (raise k o f a b s).run = s.run ∧ (raise k o f a b s).lim = s.lim ∧ (raise k o f a b s).regA = s.regA ∧
      (raise k o f a b s).regB = s.regB ∧ (raise k o f a b s).vib = s.vib ∧
      (raise k o f a b s).load = s.load ∧ (raise k o f a b s).trip = s.trip ∧
      (raise k o f a b s).recorder = s.recorder ∧ (raise k o f a b s).store = s.store ∧
      (raise k o f a b s).tab = s.tab ∧ (raise k o f a b s).link = s.link ∧
      (raise k o f a b s).pending = s.pending := by
  simp [raise]

@[simp] theorem judgeAlert_frame (s : State) :
    (judgeAlert s).run = s.run ∧ (judgeAlert s).lim = s.lim ∧ (judgeAlert s).regA = s.regA ∧
      (judgeAlert s).regB = s.regB ∧ (judgeAlert s).vib = s.vib ∧ (judgeAlert s).load = s.load ∧
      (judgeAlert s).trip = s.trip ∧ (judgeAlert s).recorder = s.recorder ∧
      (judgeAlert s).store = s.store ∧ (judgeAlert s).tab = s.tab ∧ (judgeAlert s).link = s.link ∧
      (judgeAlert s).pending = s.pending := by
  simp [judgeAlert]

@[simp] theorem setCondition_frame (c : CauseId) (on : Bool) (s : State) :
    (setCondition c on s).run = s.run ∧ (setCondition c on s).lim = s.lim ∧
      (setCondition c on s).regA = s.regA ∧ (setCondition c on s).regB = s.regB ∧
      (setCondition c on s).vib = s.vib ∧ (setCondition c on s).load = s.load ∧
      (setCondition c on s).recorder = s.recorder ∧ (setCondition c on s).store = s.store ∧
      (setCondition c on s).log = s.log ∧ (setCondition c on s).tab = s.tab ∧
      (setCondition c on s).link = s.link ∧ (setCondition c on s).pending = s.pending := by
  simp [setCondition]

@[simp] theorem State.setReg_frame (m : Motor) (r : Regulator) (s : State) :
    (s.setReg m r).run = s.run ∧ (s.setReg m r).lim = s.lim ∧ (s.setReg m r).vib = s.vib ∧
      (s.setReg m r).load = s.load ∧ (s.setReg m r).trip = s.trip ∧ (s.setReg m r).recorder = s.recorder ∧
      (s.setReg m r).store = s.store ∧ (s.setReg m r).log = s.log ∧ (s.setReg m r).tab = s.tab ∧
      (s.setReg m r).link = s.link ∧ (s.setReg m r).pending = s.pending := by
  simp only [State.setReg]; (repeat' split) <;> simp

@[simp] theorem linkError_frame (p : Port) (x : LinkReason) (c : BitVec 4) (n : Nat) (s : State) :
    (linkError p x c n s).run = s.run ∧ (linkError p x c n s).lim = s.lim ∧
      (linkError p x c n s).regA = s.regA ∧ (linkError p x c n s).regB = s.regB ∧
      (linkError p x c n s).vib = s.vib ∧ (linkError p x c n s).load = s.load ∧
      (linkError p x c n s).trip = s.trip ∧ (linkError p x c n s).recorder = s.recorder ∧
      (linkError p x c n s).store = s.store ∧ (linkError p x c n s).tab = s.tab ∧
      (linkError p x c n s).pending = s.pending := by
  simp [linkError]

@[simp] theorem acceptFrame_frame (p : Port) (c : Fin 8) (q : Seq) (s : State) :
    (acceptFrame p c q s).run = s.run ∧ (acceptFrame p c q s).lim = s.lim ∧
      (acceptFrame p c q s).regA = s.regA ∧ (acceptFrame p c q s).regB = s.regB ∧
      (acceptFrame p c q s).vib = s.vib ∧ (acceptFrame p c q s).load = s.load ∧
      (acceptFrame p c q s).trip = s.trip ∧ (acceptFrame p c q s).recorder = s.recorder ∧
      (acceptFrame p c q s).store = s.store ∧ (acceptFrame p c q s).tab = s.tab ∧
      (acceptFrame p c q s).pending = s.pending := by
  simp only [acceptFrame]; (repeat' split) <;> simp

@[simp] theorem sendVcmd_frame (m : Motor) (v : Vcmd) (s : State) :
    (sendVcmd m v s).run = s.run ∧ (sendVcmd m v s).lim = s.lim ∧ (sendVcmd m v s).vib = s.vib ∧
      (sendVcmd m v s).load = s.load ∧ (sendVcmd m v s).trip = s.trip ∧
      (sendVcmd m v s).recorder = s.recorder ∧ (sendVcmd m v s).store = s.store ∧
      (sendVcmd m v s).log = s.log ∧ (sendVcmd m v s).tab = s.tab ∧ (sendVcmd m v s).pending = s.pending := by
  simp [sendVcmd]

@[simp] theorem clearIntegrators_frame (m : Motor) (s : State) :
    (clearIntegrators m s).run = s.run ∧ (clearIntegrators m s).lim = s.lim ∧
      (clearIntegrators m s).vib = s.vib ∧ (clearIntegrators m s).load = s.load ∧
      (clearIntegrators m s).trip = s.trip ∧ (clearIntegrators m s).recorder = s.recorder ∧
      (clearIntegrators m s).store = s.store ∧ (clearIntegrators m s).log = s.log ∧
      (clearIntegrators m s).tab = s.tab ∧ (clearIntegrators m s).link = s.link ∧
      (clearIntegrators m s).pending = s.pending := by
  simp [clearIntegrators]

@[simp] theorem sendBlocking_frame (m : Motor) (s : State) :
    (sendBlocking m s).run = s.run ∧ (sendBlocking m s).lim = s.lim ∧ (sendBlocking m s).vib = s.vib ∧
      (sendBlocking m s).load = s.load ∧ (sendBlocking m s).trip = s.trip ∧
      (sendBlocking m s).recorder = s.recorder ∧ (sendBlocking m s).store = s.store ∧
      (sendBlocking m s).log = s.log ∧ (sendBlocking m s).tab = s.tab ∧
      (sendBlocking m s).pending = s.pending := by
  simp [sendBlocking]

@[simp] theorem blockAtChange_frame (o : Option Motor) (m : Motor) (s : State) :
    (blockAtChange o m s).run = s.run ∧ (blockAtChange o m s).lim = s.lim ∧
      (blockAtChange o m s).vib = s.vib ∧ (blockAtChange o m s).load = s.load ∧
      (blockAtChange o m s).trip = s.trip ∧ (blockAtChange o m s).recorder = s.recorder ∧
      (blockAtChange o m s).store = s.store ∧ (blockAtChange o m s).log = s.log ∧
      (blockAtChange o m s).tab = s.tab ∧ (blockAtChange o m s).pending = s.pending := by
  simp only [blockAtChange]; (repeat' split) <;> simp

@[simp] theorem blockBoth_frame (o : Option Motor) (s : State) :
    (blockBoth o s).run = s.run ∧ (blockBoth o s).lim = s.lim ∧ (blockBoth o s).vib = s.vib ∧
      (blockBoth o s).load = s.load ∧ (blockBoth o s).trip = s.trip ∧
      (blockBoth o s).recorder = s.recorder ∧ (blockBoth o s).store = s.store ∧
      (blockBoth o s).log = s.log ∧ (blockBoth o s).tab = s.tab ∧ (blockBoth o s).pending = s.pending := by
  simp [blockBoth]

@[simp] theorem watchStall_frame (s : State) :
    (watchStall s).run = s.run ∧ (watchStall s).regA = s.regA ∧ (watchStall s).regB = s.regB ∧
      (watchStall s).vib = s.vib ∧ (watchStall s).load = s.load ∧ (watchStall s).trip = s.trip ∧
      (watchStall s).recorder = s.recorder ∧ (watchStall s).store = s.store ∧ (watchStall s).log = s.log ∧
      (watchStall s).tab = s.tab ∧ (watchStall s).link = s.link ∧ (watchStall s).pending = s.pending := by
  simp [watchStall]

@[simp] theorem raiseTlim_frame (s : State) :
    (raiseTlim s).run = s.run ∧ (raiseTlim s).lim = s.lim ∧ (raiseTlim s).regA = s.regA ∧
      (raiseTlim s).regB = s.regB ∧ (raiseTlim s).vib = s.vib ∧ (raiseTlim s).load = s.load ∧
      (raiseTlim s).trip = s.trip ∧ (raiseTlim s).recorder = s.recorder ∧ (raiseTlim s).store = s.store ∧
      (raiseTlim s).tab = s.tab ∧ (raiseTlim s).link = s.link ∧ (raiseTlim s).pending = s.pending := by
  simp only [raiseTlim]; (repeat' split) <;> simp

@[simp] theorem compute_frame (s : State) :
    (compute s).run = s.run ∧ (compute s).regA = s.regA ∧ (compute s).regB = s.regB ∧
      (compute s).vib = s.vib ∧ (compute s).load = s.load ∧ (compute s).trip = s.trip ∧
      (compute s).recorder = s.recorder ∧ (compute s).store = s.store ∧ (compute s).tab = s.tab ∧
      (compute s).link = s.link ∧ (compute s).pending = s.pending := by
  simp [compute]

@[simp] theorem raiseDriveState_frame (a b : Nat) (x : DriveReason) (s : State) :
    (raiseDriveState a b x s).run = s.run ∧ (raiseDriveState a b x s).lim = s.lim ∧
      (raiseDriveState a b x s).regA = s.regA ∧ (raiseDriveState a b x s).regB = s.regB ∧
      (raiseDriveState a b x s).vib = s.vib ∧ (raiseDriveState a b x s).load = s.load ∧
      (raiseDriveState a b x s).trip = s.trip ∧ (raiseDriveState a b x s).recorder = s.recorder ∧
      (raiseDriveState a b x s).store = s.store ∧ (raiseDriveState a b x s).tab = s.tab ∧
      (raiseDriveState a b x s).link = s.link ∧ (raiseDriveState a b x s).pending = s.pending := by
  simp [raiseDriveState]

@[simp] theorem changeDrive_frame (d : DriveState) (x : DriveReason) (s : State) :
    (changeDrive d x s).regA = s.regA ∧ (changeDrive d x s).regB = s.regB ∧
      (changeDrive d x s).vib = s.vib ∧ (changeDrive d x s).load = s.load ∧
      (changeDrive d x s).trip = s.trip ∧ (changeDrive d x s).recorder = s.recorder ∧
      (changeDrive d x s).store = s.store ∧ (changeDrive d x s).tab = s.tab ∧
      (changeDrive d x s).link = s.link ∧ (changeDrive d x s).pending = s.pending := by
  simp [changeDrive]

@[simp] theorem raiseBrkEnd_frame (x : BreakawayEnd) (s : State) :
    (raiseBrkEnd x s).run = s.run ∧ (raiseBrkEnd x s).lim = s.lim ∧ (raiseBrkEnd x s).regA = s.regA ∧
      (raiseBrkEnd x s).regB = s.regB ∧ (raiseBrkEnd x s).vib = s.vib ∧ (raiseBrkEnd x s).load = s.load ∧
      (raiseBrkEnd x s).trip = s.trip ∧ (raiseBrkEnd x s).recorder = s.recorder ∧
      (raiseBrkEnd x s).store = s.store ∧ (raiseBrkEnd x s).tab = s.tab ∧ (raiseBrkEnd x s).link = s.link ∧
      (raiseBrkEnd x s).pending = s.pending := by
  simp [raiseBrkEnd]

@[simp] theorem raiseBrkStart_frame (x : AttemptOrigin) (s : State) :
    (raiseBrkStart x s).run = s.run ∧ (raiseBrkStart x s).lim = s.lim ∧ (raiseBrkStart x s).regA = s.regA ∧
      (raiseBrkStart x s).regB = s.regB ∧ (raiseBrkStart x s).vib = s.vib ∧
      (raiseBrkStart x s).load = s.load ∧ (raiseBrkStart x s).trip = s.trip ∧
      (raiseBrkStart x s).recorder = s.recorder ∧ (raiseBrkStart x s).store = s.store ∧
      (raiseBrkStart x s).tab = s.tab ∧ (raiseBrkStart x s).link = s.link ∧
      (raiseBrkStart x s).pending = s.pending := by
  simp [raiseBrkStart]

@[simp] theorem beginAttempt_frame (n : Nat) (x : DriveReason) (y : AttemptOrigin) (s : State) :
    (beginAttempt n x y s).regA = s.regA ∧ (beginAttempt n x y s).regB = s.regB ∧
      (beginAttempt n x y s).vib = s.vib ∧ (beginAttempt n x y s).load = s.load ∧
      (beginAttempt n x y s).trip = s.trip ∧ (beginAttempt n x y s).recorder = s.recorder ∧
      (beginAttempt n x y s).store = s.store ∧ (beginAttempt n x y s).tab = s.tab ∧
      (beginAttempt n x y s).link = s.link ∧ (beginAttempt n x y s).pending = s.pending := by
  simp [beginAttempt]

@[simp] theorem enterReadyOrOff_frame (x : DriveReason) (s : State) :
    (enterReadyOrOff x s).regA = s.regA ∧ (enterReadyOrOff x s).regB = s.regB ∧
      (enterReadyOrOff x s).vib = s.vib ∧ (enterReadyOrOff x s).load = s.load ∧
      (enterReadyOrOff x s).trip = s.trip ∧ (enterReadyOrOff x s).recorder = s.recorder ∧
      (enterReadyOrOff x s).store = s.store ∧ (enterReadyOrOff x s).tab = s.tab ∧
      (enterReadyOrOff x s).link = s.link ∧ (enterReadyOrOff x s).pending = s.pending := by
  simp only [enterReadyOrOff]; (repeat' split) <;> simp

@[simp] theorem endStop_frame (o : Option Motor) (x : DriveReason) (s : State) :
    (endStop o x s).vib = s.vib ∧ (endStop o x s).load = s.load ∧ (endStop o x s).trip = s.trip ∧
      (endStop o x s).recorder = s.recorder ∧ (endStop o x s).store = s.store ∧
      (endStop o x s).tab = s.tab ∧ (endStop o x s).pending = s.pending := by
  simp [endStop]

@[simp] theorem evaluateReady_frame (s : State) :
    (evaluateReady s).regA = s.regA ∧ (evaluateReady s).regB = s.regB ∧ (evaluateReady s).vib = s.vib ∧
      (evaluateReady s).load = s.load ∧ (evaluateReady s).trip = s.trip ∧
      (evaluateReady s).recorder = s.recorder ∧ (evaluateReady s).store = s.store ∧
      (evaluateReady s).tab = s.tab ∧ (evaluateReady s).link = s.link ∧
      (evaluateReady s).pending = s.pending := by
  simp only [evaluateReady]; (repeat' split) <;> simp

@[simp] theorem enterTripped_frame (d : Delivery) (k : CauseKind) (s : State) :
    (enterTripped d k s).vib = s.vib ∧ (enterTripped d k s).load = s.load ∧
      (enterTripped d k s).trip = s.trip ∧ (enterTripped d k s).recorder = s.recorder ∧
      (enterTripped d k s).store = s.store ∧ (enterTripped d k s).tab = s.tab ∧
      (enterTripped d k s).pending = s.pending := by
  simp only [enterTripped]; (repeat' split) <;> simp

@[simp] theorem triggerRecorder_frame (s : State) :
    (triggerRecorder s).run = s.run ∧ (triggerRecorder s).lim = s.lim ∧ (triggerRecorder s).regA = s.regA ∧
      (triggerRecorder s).regB = s.regB ∧ (triggerRecorder s).vib = s.vib ∧
      (triggerRecorder s).load = s.load ∧ (triggerRecorder s).trip = s.trip ∧
      (triggerRecorder s).store = s.store ∧ (triggerRecorder s).log = s.log ∧
      (triggerRecorder s).tab = s.tab ∧ (triggerRecorder s).link = s.link ∧
      (triggerRecorder s).pending = s.pending := by
  simp only [triggerRecorder]; (repeat' split) <;> simp

@[simp] theorem raiseTrip_frame (n : Nat) (c : CauseId) (v : DWord) (s : State) :
    (raiseTrip n c v s).run = s.run ∧ (raiseTrip n c v s).lim = s.lim ∧ (raiseTrip n c v s).regA = s.regA ∧
      (raiseTrip n c v s).regB = s.regB ∧ (raiseTrip n c v s).vib = s.vib ∧
      (raiseTrip n c v s).load = s.load ∧ (raiseTrip n c v s).trip = s.trip ∧
      (raiseTrip n c v s).recorder = s.recorder ∧ (raiseTrip n c v s).store = s.store ∧
      (raiseTrip n c v s).tab = s.tab ∧ (raiseTrip n c v s).link = s.link ∧
      (raiseTrip n c v s).pending = s.pending := by
  simp [raiseTrip]

@[simp] theorem setLatch_frame (c : CauseId) (v : DWord) (s : State) :
    (setLatch c v s).run = s.run ∧ (setLatch c v s).lim = s.lim ∧ (setLatch c v s).regA = s.regA ∧
      (setLatch c v s).regB = s.regB ∧ (setLatch c v s).vib = s.vib ∧ (setLatch c v s).load = s.load ∧
      (setLatch c v s).recorder = s.recorder ∧ (setLatch c v s).store = s.store ∧
      (setLatch c v s).tab = s.tab ∧ (setLatch c v s).link = s.link ∧ (setLatch c v s).pending = s.pending := by
  simp [setLatch]

@[simp] theorem latchTrip_frame (d : Delivery) (c : CauseId) (v : DWord) (s : State) :
    (latchTrip d c v s).vib = s.vib ∧ (latchTrip d c v s).load = s.load ∧
      (latchTrip d c v s).store = s.store ∧ (latchTrip d c v s).tab = s.tab ∧
      (latchTrip d c v s).pending = s.pending := by
  simp [latchTrip]

@[simp] theorem appendCause_frame (c : CauseId) (v : DWord) (s : State) :
    (appendCause c v s).run = s.run ∧ (appendCause c v s).lim = s.lim ∧ (appendCause c v s).regA = s.regA ∧
      (appendCause c v s).regB = s.regB ∧ (appendCause c v s).vib = s.vib ∧
      (appendCause c v s).load = s.load ∧ (appendCause c v s).recorder = s.recorder ∧
      (appendCause c v s).store = s.store ∧ (appendCause c v s).tab = s.tab ∧
      (appendCause c v s).link = s.link ∧ (appendCause c v s).pending = s.pending := by
  simp only [appendCause]; (repeat' split) <;> simp

@[simp] theorem deliverCause_frame (d : Delivery) (c : CauseId) (v : DWord) (s : State) :
    (deliverCause d c v s).vib = s.vib ∧ (deliverCause d c v s).load = s.load ∧
      (deliverCause d c v s).store = s.store ∧ (deliverCause d c v s).tab = s.tab ∧
      (deliverCause d c v s).pending = s.pending := by
  simp only [deliverCause]; (repeat' split) <;> simp

@[simp] theorem clearTrip_frame (s : State) :
    (clearTrip s).run = s.run ∧ (clearTrip s).lim = s.lim ∧ (clearTrip s).regA = s.regA ∧
      (clearTrip s).regB = s.regB ∧ (clearTrip s).vib = s.vib ∧ (clearTrip s).load = s.load ∧
      (clearTrip s).recorder = s.recorder ∧ (clearTrip s).store = s.store ∧ (clearTrip s).tab = s.tab ∧
      (clearTrip s).link = s.link ∧ (clearTrip s).pending = s.pending := by
  simp [clearTrip]

end Sys2Proof.Machine
end

