-- ==== Sys2Proof/Laws/StoreFrames.lean ====
section
/-! SUPPORT. What the operations of Machine/StoreOps.lean leave unchanged. -/

namespace Sys2Proof.Machine

@[simp] theorem raiseStore_frame (o : Source) (f : StoreFlag) (a b : DWord) (s : State) :
    (raiseStore o f a b s).run = s.run ∧ (raiseStore o f a b s).lim = s.lim ∧
      (raiseStore o f a b s).regA = s.regA ∧ (raiseStore o f a b s).regB = s.regB ∧
      (raiseStore o f a b s).vib = s.vib ∧ (raiseStore o f a b s).load = s.load ∧
      (raiseStore o f a b s).trip = s.trip ∧ (raiseStore o f a b s).recorder = s.recorder ∧
      (raiseStore o f a b s).store = s.store ∧ (raiseStore o f a b s).tab = s.tab ∧
      (raiseStore o f a b s).link = s.link ∧ (raiseStore o f a b s).pending = s.pending := by
  simp [raiseStore]

@[simp] theorem raiseOverwrite_frame (o : Source) (x : Bool) (a b : DWord) (s : State) :
    (raiseOverwrite o x a b s).run = s.run ∧ (raiseOverwrite o x a b s).lim = s.lim ∧
      (raiseOverwrite o x a b s).regA = s.regA ∧ (raiseOverwrite o x a b s).regB = s.regB ∧
      (raiseOverwrite o x a b s).vib = s.vib ∧ (raiseOverwrite o x a b s).load = s.load ∧
      (raiseOverwrite o x a b s).trip = s.trip ∧ (raiseOverwrite o x a b s).recorder = s.recorder ∧
      (raiseOverwrite o x a b s).store = s.store ∧ (raiseOverwrite o x a b s).tab = s.tab ∧
      (raiseOverwrite o x a b s).link = s.link ∧ (raiseOverwrite o x a b s).pending = s.pending := by
  simp [raiseOverwrite]

@[simp] theorem queueOverwrite_frame (b : Fin 4) (s : State) :
    (queueOverwrite b s).run = s.run ∧ (queueOverwrite b s).lim = s.lim ∧
      (queueOverwrite b s).regA = s.regA ∧ (queueOverwrite b s).regB = s.regB ∧
      (queueOverwrite b s).vib = s.vib ∧ (queueOverwrite b s).load = s.load ∧
      (queueOverwrite b s).trip = s.trip ∧ (queueOverwrite b s).recorder = s.recorder ∧
      (queueOverwrite b s).tab = s.tab ∧ (queueOverwrite b s).link = s.link ∧
      (queueOverwrite b s).pending = s.pending := by
  simp [queueOverwrite]

@[simp] theorem recorderDone_frame (s : State) :
    (recorderDone s).run = s.run ∧ (recorderDone s).lim = s.lim ∧ (recorderDone s).regA = s.regA ∧
      (recorderDone s).regB = s.regB ∧ (recorderDone s).vib = s.vib ∧ (recorderDone s).load = s.load ∧
      (recorderDone s).trip = s.trip ∧ (recorderDone s).store = s.store ∧ (recorderDone s).log = s.log ∧
      (recorderDone s).tab = s.tab ∧ (recorderDone s).link = s.link ∧ (recorderDone s).pending = s.pending := by
  simp [recorderDone]

@[simp] theorem countMiss_frame (n : DWord) (s : State) :
    (countMiss n s).run = s.run ∧ (countMiss n s).lim = s.lim ∧ (countMiss n s).regA = s.regA ∧
      (countMiss n s).regB = s.regB ∧ (countMiss n s).vib = s.vib ∧ (countMiss n s).load = s.load ∧
      (countMiss n s).trip = s.trip ∧ (countMiss n s).recorder = s.recorder ∧ (countMiss n s).tab = s.tab ∧
      (countMiss n s).link = s.link ∧ (countMiss n s).pending = s.pending := by
  simp [countMiss]

@[simp] theorem missNew_frame (s : State) :
    (missNew s).run = s.run ∧ (missNew s).lim = s.lim ∧ (missNew s).regA = s.regA ∧
      (missNew s).regB = s.regB ∧ (missNew s).vib = s.vib ∧ (missNew s).load = s.load ∧
      (missNew s).trip = s.trip ∧ (missNew s).tab = s.tab ∧ (missNew s).link = s.link ∧
      (missNew s).pending = s.pending := by
  simp [missNew]

@[simp] theorem missRetry_frame (n : DWord) (s : State) :
    (missRetry n s).run = s.run ∧ (missRetry n s).lim = s.lim ∧ (missRetry n s).regA = s.regA ∧
      (missRetry n s).regB = s.regB ∧ (missRetry n s).vib = s.vib ∧ (missRetry n s).load = s.load ∧
      (missRetry n s).trip = s.trip ∧ (missRetry n s).tab = s.tab ∧ (missRetry n s).link = s.link ∧
      (missRetry n s).pending = s.pending := by
  simp [missRetry]

@[simp] theorem acceptNew_frame (b : Fin 4) (k : Fin 8) (s : State) :
    (acceptNew b k s).run = s.run ∧ (acceptNew b k s).lim = s.lim ∧ (acceptNew b k s).regA = s.regA ∧
      (acceptNew b k s).regB = s.regB ∧ (acceptNew b k s).vib = s.vib ∧ (acceptNew b k s).load = s.load ∧
      (acceptNew b k s).trip = s.trip ∧ (acceptNew b k s).log = s.log ∧ (acceptNew b k s).tab = s.tab ∧
      (acceptNew b k s).link = s.link ∧ (acceptNew b k s).pending = s.pending := by
  simp [acceptNew]

@[simp] theorem acceptRetry_frame (n : DWord) (b : Fin 4) (k : Fin 8) (s : State) :
    (acceptRetry n b k s).run = s.run ∧ (acceptRetry n b k s).lim = s.lim ∧
      (acceptRetry n b k s).regA = s.regA ∧ (acceptRetry n b k s).regB = s.regB ∧
      (acceptRetry n b k s).vib = s.vib ∧ (acceptRetry n b k s).load = s.load ∧
      (acceptRetry n b k s).trip = s.trip ∧ (acceptRetry n b k s).recorder = s.recorder ∧
      (acceptRetry n b k s).log = s.log ∧ (acceptRetry n b k s).tab = s.tab ∧
      (acceptRetry n b k s).link = s.link ∧ (acceptRetry n b k s).pending = s.pending := by
  simp [acceptRetry]

@[simp] theorem takeOffer_frame (s : State) :
    (takeOffer s).run = s.run ∧ (takeOffer s).lim = s.lim ∧ (takeOffer s).regA = s.regA ∧
      (takeOffer s).regB = s.regB ∧ (takeOffer s).vib = s.vib ∧ (takeOffer s).load = s.load ∧
      (takeOffer s).trip = s.trip ∧ (takeOffer s).tab = s.tab ∧ (takeOffer s).link = s.link ∧
      (takeOffer s).pending = s.pending := by
  simp only [takeOffer]; (repeat' split) <;> simp

@[simp] theorem chooseWork_frame (s : State) :
    (chooseWork s).run = s.run ∧ (chooseWork s).lim = s.lim ∧ (chooseWork s).regA = s.regA ∧
      (chooseWork s).regB = s.regB ∧ (chooseWork s).vib = s.vib ∧ (chooseWork s).load = s.load ∧
      (chooseWork s).trip = s.trip ∧ (chooseWork s).recorder = s.recorder ∧ (chooseWork s).log = s.log ∧
      (chooseWork s).tab = s.tab ∧ (chooseWork s).link = s.link ∧ (chooseWork s).pending = s.pending := by
  simp [chooseWork]

@[simp] theorem preErase_frame (s : State) :
    (preErase s).run = s.run ∧ (preErase s).lim = s.lim ∧ (preErase s).regA = s.regA ∧
      (preErase s).regB = s.regB ∧ (preErase s).vib = s.vib ∧ (preErase s).load = s.load ∧
      (preErase s).trip = s.trip ∧ (preErase s).recorder = s.recorder ∧ (preErase s).tab = s.tab ∧
      (preErase s).link = s.link ∧ (preErase s).pending = s.pending := by
  simp only [preErase]; (repeat' split) <;> simp

@[simp] theorem programVerified_frame (p : Program) (s : State) :
    (programVerified p s).run = s.run ∧ (programVerified p s).lim = s.lim ∧
      (programVerified p s).regA = s.regA ∧ (programVerified p s).regB = s.regB ∧
      (programVerified p s).vib = s.vib ∧ (programVerified p s).load = s.load ∧
      (programVerified p s).trip = s.trip ∧ (programVerified p s).tab = s.tab ∧
      (programVerified p s).link = s.link ∧ (programVerified p s).pending = s.pending := by
  simp [programVerified]

@[simp] theorem programFailed_frame (p : Program) (s : State) :
    (programFailed p s).run = s.run ∧ (programFailed p s).lim = s.lim ∧ (programFailed p s).regA = s.regA ∧
      (programFailed p s).regB = s.regB ∧ (programFailed p s).vib = s.vib ∧
      (programFailed p s).load = s.load ∧ (programFailed p s).trip = s.trip ∧
      (programFailed p s).recorder = s.recorder ∧ (programFailed p s).tab = s.tab ∧
      (programFailed p s).link = s.link ∧ (programFailed p s).pending = s.pending := by
  simp [programFailed]

@[simp] theorem afterFailure_frame (p : Program) (s : State) :
    (afterFailure p s).run = s.run ∧ (afterFailure p s).lim = s.lim ∧ (afterFailure p s).regA = s.regA ∧
      (afterFailure p s).regB = s.regB ∧ (afterFailure p s).vib = s.vib ∧
      (afterFailure p s).load = s.load ∧ (afterFailure p s).trip = s.trip ∧
      (afterFailure p s).tab = s.tab ∧ (afterFailure p s).link = s.link ∧
      (afterFailure p s).pending = s.pending := by
  simp only [afterFailure]; (repeat' split) <;> simp

@[simp] theorem endProgram_frame (x : Bool) (p : Program) (s : State) :
    (endProgram x p s).run = s.run ∧ (endProgram x p s).lim = s.lim ∧ (endProgram x p s).regA = s.regA ∧
      (endProgram x p s).regB = s.regB ∧ (endProgram x p s).vib = s.vib ∧
      (endProgram x p s).load = s.load ∧ (endProgram x p s).trip = s.trip ∧
      (endProgram x p s).tab = s.tab ∧ (endProgram x p s).link = s.link ∧
      (endProgram x p s).pending = s.pending := by
  simp only [endProgram]; (repeat' split) <;> simp

@[simp] theorem eraseVerified_frame (b : Fin 4) (s : State) :
    (eraseVerified b s).run = s.run ∧ (eraseVerified b s).lim = s.lim ∧ (eraseVerified b s).regA = s.regA ∧
      (eraseVerified b s).regB = s.regB ∧ (eraseVerified b s).vib = s.vib ∧
      (eraseVerified b s).load = s.load ∧ (eraseVerified b s).trip = s.trip ∧
      (eraseVerified b s).recorder = s.recorder ∧ (eraseVerified b s).tab = s.tab ∧
      (eraseVerified b s).link = s.link ∧ (eraseVerified b s).pending = s.pending := by
  simp [eraseVerified]

@[simp] theorem eraseFailed_frame (b : Fin 4) (s : State) :
    (eraseFailed b s).run = s.run ∧ (eraseFailed b s).lim = s.lim ∧ (eraseFailed b s).regA = s.regA ∧
      (eraseFailed b s).regB = s.regB ∧ (eraseFailed b s).vib = s.vib ∧ (eraseFailed b s).load = s.load ∧
      (eraseFailed b s).trip = s.trip ∧ (eraseFailed b s).recorder = s.recorder ∧
      (eraseFailed b s).tab = s.tab ∧ (eraseFailed b s).link = s.link ∧
      (eraseFailed b s).pending = s.pending := by
  simp [eraseFailed]

@[simp] theorem endErase_frame (x : Bool) (b : Fin 4) (s : State) :
    (endErase x b s).run = s.run ∧ (endErase x b s).lim = s.lim ∧ (endErase x b s).regA = s.regA ∧
      (endErase x b s).regB = s.regB ∧ (endErase x b s).vib = s.vib ∧ (endErase x b s).load = s.load ∧
      (endErase x b s).trip = s.trip ∧ (endErase x b s).tab = s.tab ∧ (endErase x b s).link = s.link ∧
      (endErase x b s).pending = s.pending := by
  simp only [endErase]; (repeat' split) <;> simp

@[simp] theorem endBlankCheck_frame (b : Fin 4) (s : State) :
    (endBlankCheck b s).run = s.run ∧ (endBlankCheck b s).lim = s.lim ∧ (endBlankCheck b s).regA = s.regA ∧
      (endBlankCheck b s).regB = s.regB ∧ (endBlankCheck b s).vib = s.vib ∧
      (endBlankCheck b s).load = s.load ∧ (endBlankCheck b s).trip = s.trip ∧
      (endBlankCheck b s).tab = s.tab ∧ (endBlankCheck b s).link = s.link ∧
      (endBlankCheck b s).pending = s.pending := by
  simp [endBlankCheck]

@[simp] theorem endScan_frame (s : State) :
    (endScan s).run = s.run ∧ (endScan s).lim = s.lim ∧ (endScan s).regA = s.regA ∧
      (endScan s).regB = s.regB ∧ (endScan s).vib = s.vib ∧ (endScan s).load = s.load ∧
      (endScan s).trip = s.trip ∧ (endScan s).tab = s.tab ∧ (endScan s).link = s.link ∧
      (endScan s).pending = s.pending := by
  simp [endScan]

@[simp] theorem offerRecord_frame (s : State) :
    (offerRecord s).run = s.run ∧ (offerRecord s).lim = s.lim ∧ (offerRecord s).regA = s.regA ∧
      (offerRecord s).regB = s.regB ∧ (offerRecord s).vib = s.vib ∧ (offerRecord s).load = s.load ∧
      (offerRecord s).trip = s.trip ∧ (offerRecord s).tab = s.tab ∧ (offerRecord s).link = s.link ∧
      (offerRecord s).pending = s.pending := by
  simp only [offerRecord]; (repeat' split) <;> simp

@[simp] theorem freeze_frame (x : PostReason) (s : State) :
    (freeze x s).run = s.run ∧ (freeze x s).lim = s.lim ∧ (freeze x s).regA = s.regA ∧
      (freeze x s).regB = s.regB ∧ (freeze x s).vib = s.vib ∧ (freeze x s).load = s.load ∧
      (freeze x s).trip = s.trip ∧ (freeze x s).tab = s.tab ∧ (freeze x s).link = s.link ∧
      (freeze x s).pending = s.pending := by
  simp [freeze]

@[simp] theorem takeSnapshot_frame (s : State) :
    (takeSnapshot s).run = s.run ∧ (takeSnapshot s).lim = s.lim ∧ (takeSnapshot s).regA = s.regA ∧
      (takeSnapshot s).regB = s.regB ∧ (takeSnapshot s).vib = s.vib ∧ (takeSnapshot s).load = s.load ∧
      (takeSnapshot s).trip = s.trip ∧ (takeSnapshot s).tab = s.tab ∧ (takeSnapshot s).link = s.link ∧
      (takeSnapshot s).pending = s.pending := by
  simp only [takeSnapshot]; (repeat' split) <;> simp

end Sys2Proof.Machine
end

