-- ==== Sys2Proof/Laws/DriveFrames.lean ====
section
/-! SUPPORT. What the operations of the setpoint, the run timers and the feedback arrival leave unchanged. -/

namespace Sys2Proof.Machine

@[simp] theorem storeSetpoint_frame (q : Word) (u : DWord) (s : State) :
    (storeSetpoint q u s).run = s.run ∧ (storeSetpoint q u s).regA = s.regA ∧
      (storeSetpoint q u s).regB = s.regB ∧ (storeSetpoint q u s).vib = s.vib ∧
      (storeSetpoint q u s).load = s.load ∧ (storeSetpoint q u s).recorder = s.recorder ∧
      (storeSetpoint q u s).store = s.store ∧ (storeSetpoint q u s).log = s.log ∧
      (storeSetpoint q u s).tab = s.tab ∧ (storeSetpoint q u s).link = s.link ∧
      (storeSetpoint q u s).pending = s.pending := by
  simp [storeSetpoint]

@[simp] theorem actExtTrip_frame (x : Bool) (s : State) :
    (actExtTrip x s).vib = s.vib ∧ (actExtTrip x s).load = s.load ∧ (actExtTrip x s).store = s.store ∧
      (actExtTrip x s).tab = s.tab ∧ (actExtTrip x s).pending = s.pending := by
  simp only [actExtTrip]; (repeat' split) <;> simp

@[simp] theorem enterStopping_frame (s : State) :
    (enterStopping s).regA = s.regA ∧ (enterStopping s).regB = s.regB ∧ (enterStopping s).vib = s.vib ∧
      (enterStopping s).load = s.load ∧ (enterStopping s).trip = s.trip ∧
      (enterStopping s).recorder = s.recorder ∧ (enterStopping s).store = s.store ∧
      (enterStopping s).tab = s.tab ∧ (enterStopping s).link = s.link ∧
      (enterStopping s).pending = s.pending := by
  simp only [enterStopping]; (repeat' split) <;> simp

@[simp] theorem actStop_frame (s : State) :
    (actStop s).regA = s.regA ∧ (actStop s).regB = s.regB ∧ (actStop s).vib = s.vib ∧
      (actStop s).load = s.load ∧ (actStop s).trip = s.trip ∧ (actStop s).recorder = s.recorder ∧
      (actStop s).store = s.store ∧ (actStop s).tab = s.tab ∧ (actStop s).link = s.link ∧
      (actStop s).pending = s.pending := by
  simp only [actStop]; (repeat' split) <;> simp

@[simp] theorem runInReady_frame (s : State) :
    (runInReady s).regA = s.regA ∧ (runInReady s).regB = s.regB ∧ (runInReady s).vib = s.vib ∧
      (runInReady s).load = s.load ∧ (runInReady s).trip = s.trip ∧ (runInReady s).recorder = s.recorder ∧
      (runInReady s).store = s.store ∧ (runInReady s).tab = s.tab ∧ (runInReady s).link = s.link ∧
      (runInReady s).pending = s.pending := by
  simp only [runInReady]; (repeat' split) <;> simp

@[simp] theorem runInStopping_frame (s : State) :
    (runInStopping s).regA = s.regA ∧ (runInStopping s).regB = s.regB ∧ (runInStopping s).vib = s.vib ∧
      (runInStopping s).load = s.load ∧ (runInStopping s).trip = s.trip ∧
      (runInStopping s).recorder = s.recorder ∧ (runInStopping s).store = s.store ∧
      (runInStopping s).tab = s.tab ∧ (runInStopping s).link = s.link ∧
      (runInStopping s).pending = s.pending := by
  simp only [runInStopping]; (repeat' split) <;> simp

@[simp] theorem actRun_frame (s : State) :
    (actRun s).regA = s.regA ∧ (actRun s).regB = s.regB ∧ (actRun s).vib = s.vib ∧
      (actRun s).load = s.load ∧ (actRun s).trip = s.trip ∧ (actRun s).recorder = s.recorder ∧
      (actRun s).store = s.store ∧ (actRun s).tab = s.tab ∧ (actRun s).link = s.link ∧
      (actRun s).pending = s.pending := by
  simp only [actRun]; (repeat' split) <;> simp

@[simp] theorem handOver_frame (x y : Bool) (s : State) :
    (handOver x y s).vib = s.vib ∧ (handOver x y s).load = s.load ∧ (handOver x y s).store = s.store ∧
      (handOver x y s).tab = s.tab ∧ (handOver x y s).pending = s.pending := by
  simp only [handOver]; (repeat' split) <;> simp

@[simp] theorem countSetpointMiss_frame (s : State) :
    (countSetpointMiss s).run = s.run ∧ (countSetpointMiss s).regA = s.regA ∧
      (countSetpointMiss s).regB = s.regB ∧ (countSetpointMiss s).vib = s.vib ∧
      (countSetpointMiss s).load = s.load ∧ (countSetpointMiss s).trip = s.trip ∧
      (countSetpointMiss s).recorder = s.recorder ∧ (countSetpointMiss s).store = s.store ∧
      (countSetpointMiss s).tab = s.tab ∧ (countSetpointMiss s).link = s.link ∧
      (countSetpointMiss s).pending = s.pending := by
  simp [countSetpointMiss]

@[simp] theorem checkSupLost_frame (s : State) :
    (checkSupLost s).vib = s.vib ∧ (checkSupLost s).load = s.load ∧ (checkSupLost s).store = s.store ∧
      (checkSupLost s).tab = s.tab ∧ (checkSupLost s).pending = s.pending := by
  simp only [checkSupLost]; (repeat' split) <;> simp

@[simp] theorem attemptTimedOut_frame (s : State) :
    (attemptTimedOut s).regA = s.regA ∧ (attemptTimedOut s).regB = s.regB ∧
      (attemptTimedOut s).vib = s.vib ∧ (attemptTimedOut s).load = s.load ∧
      (attemptTimedOut s).trip = s.trip ∧ (attemptTimedOut s).recorder = s.recorder ∧
      (attemptTimedOut s).store = s.store ∧ (attemptTimedOut s).tab = s.tab ∧
      (attemptTimedOut s).link = s.link ∧ (attemptTimedOut s).pending = s.pending := by
  simp [attemptTimedOut]

@[simp] theorem breakawayFailed_frame (s : State) :
    (breakawayFailed s).vib = s.vib ∧ (breakawayFailed s).load = s.load ∧
      (breakawayFailed s).store = s.store ∧ (breakawayFailed s).tab = s.tab ∧
      (breakawayFailed s).pending = s.pending := by
  simp [breakawayFailed]

@[simp] theorem acceptFeedback_frame (m : Motor) (q : Seq) (s : State) :
    (acceptFeedback m q s).run = s.run ∧ (acceptFeedback m q s).lim = s.lim ∧
      (acceptFeedback m q s).regA = s.regA ∧ (acceptFeedback m q s).regB = s.regB ∧
      (acceptFeedback m q s).vib = s.vib ∧ (acceptFeedback m q s).load = s.load ∧
      (acceptFeedback m q s).trip = s.trip ∧ (acceptFeedback m q s).recorder = s.recorder ∧
      (acceptFeedback m q s).store = s.store ∧ (acceptFeedback m q s).tab = s.tab ∧
      (acceptFeedback m q s).pending = s.pending := by
  simp only [acceptFeedback]; (repeat' split) <;> simp

@[simp] theorem deliverTherm_frame (m : Motor) (x : Int) (s : State) :
    (deliverTherm m x s).run = s.run ∧ (deliverTherm m x s).regA = s.regA ∧
      (deliverTherm m x s).regB = s.regB ∧ (deliverTherm m x s).vib = s.vib ∧
      (deliverTherm m x s).load = s.load ∧ (deliverTherm m x s).trip = s.trip ∧
      (deliverTherm m x s).recorder = s.recorder ∧ (deliverTherm m x s).store = s.store ∧
      (deliverTherm m x s).log = s.log ∧ (deliverTherm m x s).tab = s.tab ∧
      (deliverTherm m x s).link = s.link ∧ (deliverTherm m x s).pending = s.pending := by
  simp only [deliverTherm]; (repeat' split) <;> simp

@[simp] theorem intake_frame (m : Motor) (f : FeedbackFrame) (s : State) :
    (intake m f s).run = s.run ∧ (intake m f s).vib = s.vib ∧ (intake m f s).load = s.load ∧
      (intake m f s).recorder = s.recorder ∧ (intake m f s).store = s.store ∧ (intake m f s).log = s.log ∧
      (intake m f s).tab = s.tab ∧ (intake m f s).link = s.link ∧ (intake m f s).pending = s.pending := by
  simp [intake]

@[simp] theorem setOvertemp_frame (m : Motor) (x : Bool) (s : State) :
    (setOvertemp m x s).run = s.run ∧ (setOvertemp m x s).lim = s.lim ∧ (setOvertemp m x s).vib = s.vib ∧
      (setOvertemp m x s).load = s.load ∧ (setOvertemp m x s).recorder = s.recorder ∧
      (setOvertemp m x s).store = s.store ∧ (setOvertemp m x s).log = s.log ∧
      (setOvertemp m x s).tab = s.tab ∧ (setOvertemp m x s).link = s.link ∧
      (setOvertemp m x s).pending = s.pending := by
  simp [setOvertemp]

@[simp] theorem setModFault_frame (m : Motor) (x : Bool) (s : State) :
    (setModFault m x s).run = s.run ∧ (setModFault m x s).lim = s.lim ∧ (setModFault m x s).vib = s.vib ∧
      (setModFault m x s).load = s.load ∧ (setModFault m x s).recorder = s.recorder ∧
      (setModFault m x s).store = s.store ∧ (setModFault m x s).log = s.log ∧
      (setModFault m x s).tab = s.tab ∧ (setModFault m x s).link = s.link ∧
      (setModFault m x s).pending = s.pending := by
  simp [setModFault]

@[simp] theorem setFbLost_frame (m : Motor) (x : Bool) (s : State) :
    (setFbLost m x s).run = s.run ∧ (setFbLost m x s).lim = s.lim ∧ (setFbLost m x s).vib = s.vib ∧
      (setFbLost m x s).load = s.load ∧ (setFbLost m x s).recorder = s.recorder ∧
      (setFbLost m x s).store = s.store ∧ (setFbLost m x s).log = s.log ∧ (setFbLost m x s).tab = s.tab ∧
      (setFbLost m x s).link = s.link ∧ (setFbLost m x s).pending = s.pending := by
  simp [setFbLost]

@[simp] theorem judgeOvertemp_frame (m : Motor) (s : State) :
    (judgeOvertemp m s).vib = s.vib ∧ (judgeOvertemp m s).load = s.load ∧
      (judgeOvertemp m s).store = s.store ∧ (judgeOvertemp m s).tab = s.tab ∧
      (judgeOvertemp m s).pending = s.pending := by
  simp only [judgeOvertemp]; (repeat' split) <;> simp

@[simp] theorem judgeModFault_frame (m : Motor) (s : State) :
    (judgeModFault m s).vib = s.vib ∧ (judgeModFault m s).load = s.load ∧
      (judgeModFault m s).store = s.store ∧ (judgeModFault m s).tab = s.tab ∧
      (judgeModFault m s).pending = s.pending := by
  simp only [judgeModFault]; (repeat' split) <;> simp

@[simp] theorem speedReached_frame (s : State) :
    (speedReached s).regA = s.regA ∧ (speedReached s).regB = s.regB ∧ (speedReached s).vib = s.vib ∧
      (speedReached s).load = s.load ∧ (speedReached s).trip = s.trip ∧
      (speedReached s).recorder = s.recorder ∧ (speedReached s).store = s.store ∧
      (speedReached s).tab = s.tab ∧ (speedReached s).link = s.link ∧ (speedReached s).pending = s.pending := by
  simp [speedReached]

@[simp] theorem runAtArrival_frame (m : Motor) (s : State) :
    (runAtArrival m s).vib = s.vib ∧ (runAtArrival m s).load = s.load ∧ (runAtArrival m s).trip = s.trip ∧
      (runAtArrival m s).recorder = s.recorder ∧ (runAtArrival m s).store = s.store ∧
      (runAtArrival m s).tab = s.tab ∧ (runAtArrival m s).pending = s.pending := by
  simp only [runAtArrival]; (repeat' split) <;> simp

@[simp] theorem watchOvertorque_frame (m : Motor) (s : State) :
    (watchOvertorque m s).vib = s.vib ∧ (watchOvertorque m s).load = s.load ∧
      (watchOvertorque m s).store = s.store ∧ (watchOvertorque m s).tab = s.tab ∧
      (watchOvertorque m s).pending = s.pending := by
  simp only [watchOvertorque]; (repeat' split) <;> simp

@[simp] theorem torqueAtArrival_frame (m : Motor) (s : State) :
    (torqueAtArrival m s).vib = s.vib ∧ (torqueAtArrival m s).load = s.load ∧
      (torqueAtArrival m s).store = s.store ∧ (torqueAtArrival m s).tab = s.tab ∧
      (torqueAtArrival m s).pending = s.pending := by
  simp [torqueAtArrival]

@[simp] theorem raiseVclip_frame (m : Motor) (b : Fin 8) (n : Nat) (a : AxisResult) (s : State) :
    (raiseVclip m b n a s).run = s.run ∧ (raiseVclip m b n a s).lim = s.lim ∧
      (raiseVclip m b n a s).regA = s.regA ∧ (raiseVclip m b n a s).regB = s.regB ∧
      (raiseVclip m b n a s).vib = s.vib ∧ (raiseVclip m b n a s).load = s.load ∧
      (raiseVclip m b n a s).trip = s.trip ∧ (raiseVclip m b n a s).recorder = s.recorder ∧
      (raiseVclip m b n a s).store = s.store ∧ (raiseVclip m b n a s).tab = s.tab ∧
      (raiseVclip m b n a s).link = s.link ∧ (raiseVclip m b n a s).pending = s.pending := by
  simp only [raiseVclip]; (repeat' split) <;> simp

@[simp] theorem answerWorking_frame (m : Motor) (s : State) :
    (answerWorking m s).run = s.run ∧ (answerWorking m s).lim = s.lim ∧ (answerWorking m s).vib = s.vib ∧
      (answerWorking m s).load = s.load ∧ (answerWorking m s).trip = s.trip ∧
      (answerWorking m s).recorder = s.recorder ∧ (answerWorking m s).store = s.store ∧
      (answerWorking m s).tab = s.tab ∧ (answerWorking m s).pending = s.pending := by
  simp [answerWorking]

@[simp] theorem answerFrame_frame (m : Motor) (s : State) :
    (answerFrame m s).run = s.run ∧ (answerFrame m s).lim = s.lim ∧ (answerFrame m s).vib = s.vib ∧
      (answerFrame m s).load = s.load ∧ (answerFrame m s).trip = s.trip ∧
      (answerFrame m s).recorder = s.recorder ∧ (answerFrame m s).store = s.store ∧
      (answerFrame m s).tab = s.tab ∧ (answerFrame m s).pending = s.pending := by
  simp only [answerFrame]; (repeat' split) <;> simp

@[simp] theorem gatherTorque_frame (s : State) :
    (gatherTorque s).run = s.run ∧ (gatherTorque s).lim = s.lim ∧ (gatherTorque s).regA = s.regA ∧
      (gatherTorque s).regB = s.regB ∧ (gatherTorque s).vib = s.vib ∧ (gatherTorque s).trip = s.trip ∧
      (gatherTorque s).recorder = s.recorder ∧ (gatherTorque s).store = s.store ∧
      (gatherTorque s).log = s.log ∧ (gatherTorque s).tab = s.tab ∧ (gatherTorque s).link = s.link ∧
      (gatherTorque s).pending = s.pending := by
  simp [gatherTorque]

@[simp] theorem sendReport_frame (s : State) :
    (sendReport s).run = s.run ∧ (sendReport s).lim = s.lim ∧ (sendReport s).regA = s.regA ∧
      (sendReport s).regB = s.regB ∧ (sendReport s).vib = s.vib ∧ (sendReport s).load = s.load ∧
      (sendReport s).trip = s.trip ∧ (sendReport s).recorder = s.recorder ∧
      (sendReport s).store = s.store ∧ (sendReport s).log = s.log ∧ (sendReport s).tab = s.tab ∧
      (sendReport s).pending = s.pending := by
  simp only [sendReport]; (repeat' split) <;> simp

@[simp] theorem reportAtArrival_frame (s : State) :
    (reportAtArrival s).run = s.run ∧ (reportAtArrival s).lim = s.lim ∧ (reportAtArrival s).regA = s.regA ∧
      (reportAtArrival s).regB = s.regB ∧ (reportAtArrival s).vib = s.vib ∧
      (reportAtArrival s).load = s.load ∧ (reportAtArrival s).trip = s.trip ∧
      (reportAtArrival s).recorder = s.recorder ∧ (reportAtArrival s).store = s.store ∧
      (reportAtArrival s).log = s.log ∧ (reportAtArrival s).tab = s.tab ∧
      (reportAtArrival s).pending = s.pending := by
  simp only [reportAtArrival]; (repeat' split) <;> simp

@[simp] theorem paceWork_frame (x : Bool) (s : State) :
    (paceWork x s).run = s.run ∧ (paceWork x s).lim = s.lim ∧ (paceWork x s).regA = s.regA ∧
      (paceWork x s).regB = s.regB ∧ (paceWork x s).vib = s.vib ∧ (paceWork x s).trip = s.trip ∧
      (paceWork x s).tab = s.tab ∧ (paceWork x s).pending = s.pending := by
  simp only [paceWork]; (repeat' split) <;> simp

@[simp] theorem arrivalStart_frame (m : Motor) (f : FeedbackFrame) (s : State) :
    (arrivalStart m f s).vib = s.vib ∧ (arrivalStart m f s).load = s.load ∧
      (arrivalStart m f s).store = s.store ∧ (arrivalStart m f s).tab = s.tab ∧
      (arrivalStart m f s).pending = s.pending := by
  simp [arrivalStart]

@[simp] theorem countFeedbackMiss_frame (m : Motor) (s : State) :
    (countFeedbackMiss m s).run = s.run ∧ (countFeedbackMiss m s).lim = s.lim ∧
      (countFeedbackMiss m s).vib = s.vib ∧ (countFeedbackMiss m s).load = s.load ∧
      (countFeedbackMiss m s).trip = s.trip ∧ (countFeedbackMiss m s).recorder = s.recorder ∧
      (countFeedbackMiss m s).store = s.store ∧ (countFeedbackMiss m s).tab = s.tab ∧
      (countFeedbackMiss m s).pending = s.pending := by
  simp only [countFeedbackMiss]; (repeat' split) <;> simp

@[simp] theorem checkFbLost_frame (m : Motor) (s : State) :
    (checkFbLost m s).vib = s.vib ∧ (checkFbLost m s).load = s.load ∧ (checkFbLost m s).store = s.store ∧
      (checkFbLost m s).tab = s.tab ∧ (checkFbLost m s).pending = s.pending := by
  simp only [checkFbLost]; (repeat' split) <;> simp

end Sys2Proof.Machine
end

