-- ==== Sys2Proof/Laws/Memory.lean ====
section
/-! SUPPORT. The part's addressed stores: read after write, and the canonical forms kept by every operation
over them. -/

namespace Sys2Proof.Machine

/-! ### Staging buffers -/

@[simp] theorem Cells.read_nil (a : Nat) : Cells.read [] a = none := rfl

theorem Cells.wf_tail {c : Host.Cell} {rest : List Host.Cell} (h : Cells.wf (c :: rest) = true) :
    Cells.wf rest = true := by
  cases rest with
  | nil => rfl
  | cons d rest => simp only [Cells.wf, Bool.and_eq_true, decide_eq_true_eq] at h; exact h.2

/-- A byte written is the byte read. -/
theorem Cells.read_write_self (cells : List Host.Cell) (a : Nat) (b : Byte) :
    Cells.read (Cells.write cells a b) a = some b := by
  induction cells with
  | nil => simp [Cells.write, Cells.read]
  | cons c rest ih =>
    simp only [Cells.write]
    split
    · simp [Cells.read]
    · split
      · simp [Cells.read]
      · next h1 h2 => simp [Cells.read, Ne.symm h2, ih]

/-- A write leaves every other position as it was. -/
theorem Cells.read_write_other (cells : List Host.Cell) (a k : Nat) (b : Byte) (h : k ≠ a) :
    Cells.read (Cells.write cells a b) k = Cells.read cells k := by
  induction cells with
  | nil => simp [Cells.write, Cells.read, Ne.symm h]
  | cons c rest ih =>
    simp only [Cells.write]
    split
    · simp [Cells.read, Ne.symm h]
    · split
      · next h1 h2 =>
        subst h2
        simp [Cells.read, Ne.symm h]
      · simp only [Cells.read, ih]

/-- A write above the head of a list keeps the canonical form of the whole. -/
theorem Cells.write_head (cells : List Host.Cell) (a : Nat) (b : Byte) (c : Host.Cell)
    (hc : c.1 < a) (hw : Cells.wf (c :: cells) = true) : Cells.wf (c :: Cells.write cells a b) = true := by
  induction cells generalizing c with
  | nil => simp [Cells.write, Cells.wf, hc]
  | cons d rest ih =>
    simp only [Cells.wf, Bool.and_eq_true, decide_eq_true_eq] at hw
    simp only [Cells.write]
    split
    · next h => simp [Cells.wf, hc, h, hw.2]
    · split
      · next h1 h2 =>
        have hr := hw.2
        subst h2
        cases rest with
        | nil => simp [Cells.wf, hc]
        | cons e rest =>
          simp only [Cells.wf, Bool.and_eq_true, decide_eq_true_eq] at hr ⊢
          exact ⟨hc, hr.1, hr.2⟩
      · next h1 h2 =>
        have := ih d (by omega) hw.2
        simp only [Cells.wf, Bool.and_eq_true, decide_eq_true_eq]
        exact ⟨hw.1, this⟩

/-- A write keeps the canonical form. -/
theorem Cells.write_wf (cells : List Host.Cell) (a : Nat) (b : Byte) (h : Cells.wf cells = true) :
    Cells.wf (Cells.write cells a b) = true := by
  cases cells with
  | nil => rfl
  | cons c rest =>
    simp only [Cells.write]
    split
    · next h1 => simp [Cells.wf, h1, h]
    · split
      · next h1 h2 =>
        subst h2
        cases rest with
        | nil => rfl
        | cons e rest =>
          simp only [Cells.wf, Bool.and_eq_true, decide_eq_true_eq] at h ⊢
          exact h
      · next h1 h2 => exact Cells.write_head rest a b c (by omega) h

/-- A run of writes keeps the canonical form. -/
theorem Cells.writeAll_wf (cells : List Host.Cell) (a : Nat) (bs : List Byte) (h : Cells.wf cells = true) :
    Cells.wf (Cells.writeAll cells a bs) = true := by
  induction bs generalizing cells a with
  | nil => exact h
  | cons b bs ih => exact ih _ _ (Cells.write_wf cells a b h)

/-- A run of writes leaves every position outside it as it was. -/
theorem Cells.read_writeAll_outside (cells : List Host.Cell) (a k : Nat) (bs : List Byte)
    (h : k < a ∨ a + bs.length ≤ k) : Cells.read (Cells.writeAll cells a bs) k = Cells.read cells k := by
  induction bs generalizing cells a with
  | nil => rfl
  | cons b bs ih =>
    simp only [List.length_cons] at h
    rw [Cells.writeAll, ih _ _ (by omega), Cells.read_write_other _ _ _ _ (by omega)]

/-- A run of writes puts each byte at its position. -/
theorem Cells.read_writeAll_inside (cells : List Host.Cell) (a i : Nat) (bs : List Byte) (h : i < bs.length) :
    Cells.read (Cells.writeAll cells a bs) (a + i) = some bs[i] := by
  induction bs generalizing cells a i with
  | nil => simp at h
  | cons b bs ih =>
    cases i with
    | zero =>
      simp only [Cells.writeAll, Nat.add_zero]
      rw [Cells.read_writeAll_outside _ _ _ _ (by omega), Cells.read_write_self]
      rfl
    | succ i =>
      have := ih (Cells.write cells a b) (a + 1) i (by simpa using h)
      rw [Cells.writeAll, show a + (i + 1) = a + 1 + i by omega, this]
      rfl

/-- A buffer as TABLE_OPEN leaves it is in the canonical form. -/
theorem Staging.opened_wf (t : TableId) (v : Word) (len : Nat) : Cells.wf (Staging.opened t v len).cells = true :=
  Cells.writeAll_wf [] 0 _ rfl

/-! ### Store slots -/

@[simp] theorem NvSlot.erased_word (o : Nat) : NvSlot.erased.word o = erasedWord := rfl

/-- Dropping the erased words at the end changes no word read. -/
theorem dropErased_getD (l : List Word) (o : Nat) :
    (dropErased l).getD o erasedWord = l.getD o erasedWord := by
  induction l generalizing o with
  | nil => rfl
  | cons w ws ih =>
    have step : ∀ ds, dropErased ws = ds → (dropErased (w :: ws)).getD o erasedWord = (w :: ws).getD o erasedWord := by
      intro ds hds
      have ih' := fun o => (hds ▸ ih o : ds.getD o erasedWord = ws.getD o erasedWord)
      cases ds with
      | nil =>
        by_cases hw : w = erasedWord
        · cases o with
          | zero => simp [dropErased, hds, hw]
          | succ o => simpa [dropErased, hds, hw] using ih' o
        · cases o with
          | zero => simp [dropErased, hds, hw]
          | succ o => simpa [dropErased, hds, hw] using ih' o
      | cons v vs =>
        cases o with
        | zero => simp [dropErased, hds]
        | succ o => simpa [dropErased, hds] using ih' o
    exact step _ rfl

@[simp] theorem and_erasedWord (w : Word) : w &&& erasedWord = w := BitVec.and_allOnes

@[simp] theorem erasedWord_and (w : Word) : erasedWord &&& w = w := BitVec.allOnes_and

theorem programOver_getD (old new : List Word) (o : Nat) :
    (programOver old new).getD o erasedWord = old.getD o erasedWord &&& new.getD o erasedWord := by
  induction old generalizing new o with
  | nil => simp [programOver]
  | cons v old ih =>
    cases new with
    | nil => simp [programOver]
    | cons w new =>
      cases o with
      | zero => simp [programOver]
      | succ o => simpa [programOver] using ih new o

/-- Programming turns bits from 1 to 0 alone: each word keeps the bits that both have (R127). -/
@[simp] theorem NvSlot.program_word (n : NvSlot) (l : List Word) (o : Nat) :
    (n.program l).word o = n.word o &&& l.getD o erasedWord := by
  cases n with
  | words old => simp only [NvSlot.program, NvSlot.word, dropErased_getD, programOver_getD]
  | unknown tag old =>
    simp only [NvSlot.program, NvSlot.word, dropErased_getD, programOver_getD, BitVec.and_assoc]

theorem programOver_length (old new : List Word) (n : Nat) (ho : old.length ≤ n) (hn : new.length ≤ n) :
    (programOver old new).length ≤ n := by
  induction old generalizing new n with
  | nil => simpa [programOver] using hn
  | cons v old ih =>
    cases new with
    | nil => simpa [programOver] using ho
    | cons w new =>
      cases n with
      | zero => simp at ho
      | succ n =>
        have := ih new n (by simpa using ho) (by simpa using hn)
        simpa [programOver] using this

@[simp] theorem slotImage_length (l : List Word) : (slotImage l).length = slotWords := by
  simp [slotImage]

theorem slotImage_getElem (l : List Word) (o : Nat) (h : o < (slotImage l).length) :
    (slotImage l)[o] = l.getD o erasedWord := by
  simp only [slotImage, List.getElem_take, List.getElem_append, List.getD_eq_getElem?_getD]
  split
  · next h' => simp [h']
  · next h' => simp [List.getElem?_eq_none (Nat.le_of_not_lt h')]

/-- A slot can read as words exactly where no word but the completion marker asks for a bit it has lost (R127, R137). -/
theorem NvSlot.canRead_iff (n : NvSlot) (l : List Word) :
    n.canRead l = true ↔
      ∀ o < slotWords, o ≠ completionOffset → n.word o &&& l.getD o erasedWord = l.getD o erasedWord := by
  simp only [NvSlot.canRead, List.all_eq_true, List.mem_zipIdx_iff_getElem?, Prod.forall, Bool.or_eq_true,
    beq_iff_eq]
  constructor
  · intro h o ho hne
    have hl : o < (slotImage l).length := by simpa using ho
    rw [← slotImage_getElem l o hl]
    exact (h _ o (List.getElem?_eq_getElem hl)).resolve_left hne
  · intro h w o hw
    obtain ⟨hl, rfl⟩ := List.getElem?_eq_some_iff.mp hw
    rw [slotImage_getElem]
    exact or_iff_not_imp_left.mpr (h o (by simpa using hl))

/-- What a program leaves in its slot: each word keeps the bits that both the slot and the record have (R127). -/
@[simp] theorem programmedSlot_word (p : Program) (s : State) (o : Nat) :
    (programmedSlot p s).word o = s.store.nv[p.bank].slots[p.slot].word o
      &&& (recordWords s.recorder.ramRecord p.number).getD o erasedWord :=
  NvSlot.program_word _ _ _

theorem dropErased_length (l : List Word) : (dropErased l).length ≤ l.length := by
  induction l with
  | nil => simp [dropErased]
  | cons w ws ih =>
    unfold dropErased
    split
    · split <;> simp
    · next h => rw [h] at ih; simpa using ih

theorem dropErased_getLast (l : List Word) : (dropErased l).getLast? ≠ some erasedWord := by
  induction l with
  | nil => simp [dropErased]
  | cons w ws ih =>
    unfold dropErased
    split
    · split
      · simp
      · next h => simpa using h
    · next h => rw [h] at ih; simpa using ih

/-- Programming a slot keeps the canonical form. -/
theorem NvSlot.program_wf (n : NvSlot) (l : List Word) (hn : n.wf = true) (hl : l.length ≤ slotWords) :
    (n.program l).wf = true := by
  cases n <;>
  · simp only [NvSlot.program, NvSlot.wf, Bool.and_eq_true, bne_iff_ne, decide_eq_true_eq] at hn ⊢
    exact ⟨dropErased_getLast _, Nat.le_trans (dropErased_length _) (programOver_length _ _ _ hn.2 hl)⟩

theorem NvSlot.erased_wf : NvSlot.erased.wf = true := by decide

/-- The memory after the first reset is in the canonical form. -/
theorem reset_memory_wf : ∀ (b : Fin 4) (k : Fin 8), State.reset.store.nv[b].slots[k].wf = true := by decide

end Sys2Proof.Machine
end

