-- ==== Sys2Proof/Laws/PerInstr.lean ====
section
/-! SUPPORT. Statements about every command as syntax, made constructor by constructor.  OneFrame: a command
is the command of at most one accepted frame content. -/

namespace Sys2Proof.Laws

/-- A command is the command of at most one frame content. -/
def OneFrame.Statement (i : Instr) : Prop :=
  ∀ a b : Arrival, arrivalCommand a = i → arrivalCommand b = i → a = b

/-- The code and the request of a request command (spec 12.3). -/
def requestParts : Instr → Option (Byte × Request)
  | .identify r => some (1, r)
  | .statusClear r => some (2, r)
  | .restart r => some (3, r)
  | .tableOpen r => some (4, r)
  | .tableWrite r => some (5, r)
  | .tableCommit r => some (6, r)
  | .tableAbort r => some (7, r)
  | .tableRead r => some (8, r)
  | .lockSet r => some (9, r)
  | .lockClear r => some (10, r)
  | .tripReset r => some (11, r)
  | .tripRead r => some (12, r)
  | .storeTrim r => some (13, r)
  | .storeEraseAll r => some (14, r)
  | .storeBlankCheck r => some (15, r)
  | .storeStatus r => some (16, r)
  | .eventRead r => some (17, r)
  | .eventMark r => some (18, r)
  | .vibRestart r => some (19, r)
  | .requestUnknownCode code r => some (code, r)
  | .setpoint .. | .feedback .. | .vibSample .. | .position .. | .refusedFrame .. | .hardwareReset
  | .lockLineChange _ | .brkTimeExpiry | .brkRestExpiry | .stopTimeExpiry | .stallTimerExpiry
  | .setpointTimerExpiry | .feedbackTimerExpiry _ | .silenceTimerExpiry _ | .positionTimerExpiry
  | .postLimitExpiry | .pulseTimerExpiry | .scanEnd | .programCompletion _ | .eraseCompletion _
  | .blankCheckCompletion | .transmissionEnd | .vcmdTransmissionEnd _ => none

/-- A request's command gives back its code and its request. -/
theorem requestParts_requestCommand (code : Byte) (r : Request) :
    requestParts (requestCommand code r) = some (code, r) := by
  unfold requestCommand
  split <;> first
    | rfl
    | (rename_i h; simp only [requestParts, Option.some.injEq, Prod.mk.injEq, and_true]
       apply BitVec.eq_of_toNat_eq; simp [h])

/-- Equal commands come from equal frame contents. -/
theorem arrivalCommand_injective {a b : Arrival} (h : arrivalCommand a = arrivalCommand b) : a = b := by
  have hp := congrArg requestParts h
  cases a <;> cases b <;> simp only [arrivalCommand, requestParts_requestCommand] at h hp
  all_goals first
    | (cases h; done)
    | (cases h; rfl)
    | (injection hp with hp; injection hp; subst_vars; rfl)
    | simp [requestParts] at hp

theorem OneFrame.all (i : Instr) : OneFrame.Statement i :=
  fun _ _ ha hb => arrivalCommand_injective (ha.trans hb.symm)

theorem OneFrame.setpoint (seq : Seq) (mode flags : Byte) (tReq : Word) (supTime : DWord) : OneFrame.Statement (.setpoint seq mode flags tReq supTime) := OneFrame.all _
theorem OneFrame.feedback (m : Motor) (f : FeedbackFrame) : OneFrame.Statement (.feedback m f) := OneFrame.all _
theorem OneFrame.vibSample (c : Fin 6) (seq : Seq) (samples : Vector Word 8) : OneFrame.Statement (.vibSample c seq samples) := OneFrame.all _
theorem OneFrame.position (seq : Seq) (angle : Word) : OneFrame.Statement (.position seq angle) := OneFrame.all _
theorem OneFrame.refusedFrame (p : Port) (bytes : List Byte) : OneFrame.Statement (.refusedFrame p bytes) := OneFrame.all _
theorem OneFrame.requestUnknownCode (code : Byte) (r : Request) : OneFrame.Statement (.requestUnknownCode code r) := OneFrame.all _
theorem OneFrame.identify (r : Request) : OneFrame.Statement (.identify r) := OneFrame.all _
theorem OneFrame.statusClear (r : Request) : OneFrame.Statement (.statusClear r) := OneFrame.all _
theorem OneFrame.restart (r : Request) : OneFrame.Statement (.restart r) := OneFrame.all _
theorem OneFrame.tableOpen (r : Request) : OneFrame.Statement (.tableOpen r) := OneFrame.all _
theorem OneFrame.tableWrite (r : Request) : OneFrame.Statement (.tableWrite r) := OneFrame.all _
theorem OneFrame.tableAbort (r : Request) : OneFrame.Statement (.tableAbort r) := OneFrame.all _
theorem OneFrame.tableCommit (r : Request) : OneFrame.Statement (.tableCommit r) := OneFrame.all _
theorem OneFrame.tableRead (r : Request) : OneFrame.Statement (.tableRead r) := OneFrame.all _
theorem OneFrame.lockSet (r : Request) : OneFrame.Statement (.lockSet r) := OneFrame.all _
theorem OneFrame.lockClear (r : Request) : OneFrame.Statement (.lockClear r) := OneFrame.all _
theorem OneFrame.tripReset (r : Request) : OneFrame.Statement (.tripReset r) := OneFrame.all _
theorem OneFrame.tripRead (r : Request) : OneFrame.Statement (.tripRead r) := OneFrame.all _
theorem OneFrame.storeTrim (r : Request) : OneFrame.Statement (.storeTrim r) := OneFrame.all _
theorem OneFrame.storeEraseAll (r : Request) : OneFrame.Statement (.storeEraseAll r) := OneFrame.all _
theorem OneFrame.storeBlankCheck (r : Request) : OneFrame.Statement (.storeBlankCheck r) := OneFrame.all _
theorem OneFrame.storeStatus (r : Request) : OneFrame.Statement (.storeStatus r) := OneFrame.all _
theorem OneFrame.eventRead (r : Request) : OneFrame.Statement (.eventRead r) := OneFrame.all _
theorem OneFrame.eventMark (r : Request) : OneFrame.Statement (.eventMark r) := OneFrame.all _
theorem OneFrame.vibRestart (r : Request) : OneFrame.Statement (.vibRestart r) := OneFrame.all _
theorem OneFrame.hardwareReset : OneFrame.Statement .hardwareReset := OneFrame.all _
theorem OneFrame.lockLineChange (asserted : Bool) : OneFrame.Statement (.lockLineChange asserted) := OneFrame.all _
theorem OneFrame.brkTimeExpiry : OneFrame.Statement .brkTimeExpiry := OneFrame.all _
theorem OneFrame.brkRestExpiry : OneFrame.Statement .brkRestExpiry := OneFrame.all _
theorem OneFrame.stopTimeExpiry : OneFrame.Statement .stopTimeExpiry := OneFrame.all _
theorem OneFrame.stallTimerExpiry : OneFrame.Statement .stallTimerExpiry := OneFrame.all _
theorem OneFrame.setpointTimerExpiry : OneFrame.Statement .setpointTimerExpiry := OneFrame.all _
theorem OneFrame.feedbackTimerExpiry (m : Motor) : OneFrame.Statement (.feedbackTimerExpiry m) := OneFrame.all _
theorem OneFrame.silenceTimerExpiry (c : Fin 6) : OneFrame.Statement (.silenceTimerExpiry c) := OneFrame.all _
theorem OneFrame.positionTimerExpiry : OneFrame.Statement .positionTimerExpiry := OneFrame.all _
theorem OneFrame.postLimitExpiry : OneFrame.Statement .postLimitExpiry := OneFrame.all _
theorem OneFrame.pulseTimerExpiry : OneFrame.Statement .pulseTimerExpiry := OneFrame.all _
theorem OneFrame.scanEnd : OneFrame.Statement .scanEnd := OneFrame.all _
theorem OneFrame.programCompletion (took : Bool) : OneFrame.Statement (.programCompletion took) := OneFrame.all _
theorem OneFrame.eraseCompletion (verified : Bool) : OneFrame.Statement (.eraseCompletion verified) := OneFrame.all _
theorem OneFrame.blankCheckCompletion : OneFrame.Statement .blankCheckCompletion := OneFrame.all _
theorem OneFrame.transmissionEnd : OneFrame.Statement .transmissionEnd := OneFrame.all _
theorem OneFrame.vcmdTransmissionEnd (m : Motor) : OneFrame.Statement (.vcmdTransmissionEnd m) := OneFrame.all _

end Sys2Proof.Laws
end

