-- ==== Sys2Proof/Laws/RequestFrames.lean ====
section
/-! SUPPORT. What the operations of the watch, the shell, the tables, the trip requests and the link leave unchanged. -/

namespace Sys2Proof.Machine

@[simp] theorem setChannel_frame (c : Fin 6) (x : Channel) (s : State) :
    (setChannel c x s).run = s.run ∧ (setChannel c x s).lim = s.lim ∧ (setChannel c x s).regA = s.regA ∧
      (setChannel c x s).regB = s.regB ∧ (setChannel c x s).load = s.load ∧
      (setChannel c x s).trip = s.trip ∧ (setChannel c x s).recorder = s.recorder ∧
      (setChannel c x s).store = s.store ∧ (setChannel c x s).log = s.log ∧
      (setChannel c x s).tab = s.tab ∧ (setChannel c x s).link = s.link ∧
      (setChannel c x s).pending = s.pending := by
  simp [setChannel]

@[simp] theorem deliverVibDerate_frame (s : State) :
    (deliverVibDerate s).run = s.run ∧ (deliverVibDerate s).regA = s.regA ∧
      (deliverVibDerate s).regB = s.regB ∧ (deliverVibDerate s).load = s.load ∧
      (deliverVibDerate s).trip = s.trip ∧ (deliverVibDerate s).recorder = s.recorder ∧
      (deliverVibDerate s).store = s.store ∧ (deliverVibDerate s).log = s.log ∧
      (deliverVibDerate s).tab = s.tab ∧ (deliverVibDerate s).link = s.link ∧
      (deliverVibDerate s).pending = s.pending := by
  simp [deliverVibDerate]

@[simp] theorem raiseVibState_frame (c : Fin 6) (a b : ChannelState) (x : VibReason) (n : Nat) (s : State) :
    (raiseVibState c a b x n s).run = s.run ∧ (raiseVibState c a b x n s).lim = s.lim ∧
      (raiseVibState c a b x n s).regA = s.regA ∧ (raiseVibState c a b x n s).regB = s.regB ∧
      (raiseVibState c a b x n s).vib = s.vib ∧ (raiseVibState c a b x n s).load = s.load ∧
      (raiseVibState c a b x n s).trip = s.trip ∧ (raiseVibState c a b x n s).recorder = s.recorder ∧
      (raiseVibState c a b x n s).store = s.store ∧ (raiseVibState c a b x n s).tab = s.tab ∧
      (raiseVibState c a b x n s).link = s.link ∧ (raiseVibState c a b x n s).pending = s.pending := by
  simp [raiseVibState]

@[simp] theorem setVibDanger_frame (c : Fin 6) (x : Bool) (s : State) :
    (setVibDanger c x s).run = s.run ∧ (setVibDanger c x s).lim = s.lim ∧
      (setVibDanger c x s).regA = s.regA ∧ (setVibDanger c x s).regB = s.regB ∧
      (setVibDanger c x s).load = s.load ∧ (setVibDanger c x s).recorder = s.recorder ∧
      (setVibDanger c x s).store = s.store ∧ (setVibDanger c x s).log = s.log ∧
      (setVibDanger c x s).tab = s.tab ∧ (setVibDanger c x s).link = s.link ∧
      (setVibDanger c x s).pending = s.pending := by
  simp [setVibDanger]

@[simp] theorem changeChannel_frame (c : Fin 6) (d : ChannelState) (x : VibReason) (n : Nat) (s : State) :
    (changeChannel c d x n s).run = s.run ∧ (changeChannel c d x n s).lim = s.lim ∧
      (changeChannel c d x n s).regA = s.regA ∧ (changeChannel c d x n s).regB = s.regB ∧
      (changeChannel c d x n s).load = s.load ∧ (changeChannel c d x n s).recorder = s.recorder ∧
      (changeChannel c d x n s).store = s.store ∧ (changeChannel c d x n s).tab = s.tab ∧
      (changeChannel c d x n s).link = s.link ∧ (changeChannel c d x n s).pending = s.pending := by
  simp only [changeChannel]; (repeat' split) <;> simp

@[simp] theorem enterDanger_frame (c : Fin 6) (n : Nat) (s : State) :
    (enterDanger c n s).load = s.load ∧ (enterDanger c n s).store = s.store ∧
      (enterDanger c n s).tab = s.tab ∧ (enterDanger c n s).pending = s.pending := by
  simp [enterDanger]

@[simp] theorem judgeWindow_frame (c : Fin 6) (g : ChannelConfig) (s : State) :
    (judgeWindow c g s).load = s.load ∧ (judgeWindow c g s).store = s.store ∧
      (judgeWindow c g s).tab = s.tab ∧ (judgeWindow c g s).pending = s.pending := by
  simp only [judgeWindow]; (repeat' split) <;> simp

@[simp] theorem evaluateWindow_frame (c : Fin 6) (g : ChannelConfig) (s : State) :
    (evaluateWindow c g s).load = s.load ∧ (evaluateWindow c g s).store = s.store ∧
      (evaluateWindow c g s).tab = s.tab ∧ (evaluateWindow c g s).pending = s.pending := by
  simp [evaluateWindow]

@[simp] theorem takeFrame_frame (c : Fin 6) (g : ChannelConfig) (x : Vector Word 8) (s : State) :
    (takeFrame c g x s).load = s.load ∧ (takeFrame c g x s).store = s.store ∧
      (takeFrame c g x s).tab = s.tab ∧ (takeFrame c g x s).pending = s.pending := by
  simp only [takeFrame]; (repeat' split) <;> simp

@[simp] theorem fallSilent_frame (c : Fin 6) (s : State) :
    (fallSilent c s).run = s.run ∧ (fallSilent c s).regA = s.regA ∧ (fallSilent c s).regB = s.regB ∧
      (fallSilent c s).load = s.load ∧ (fallSilent c s).recorder = s.recorder ∧
      (fallSilent c s).store = s.store ∧ (fallSilent c s).tab = s.tab ∧ (fallSilent c s).link = s.link ∧
      (fallSilent c s).pending = s.pending := by
  simp only [fallSilent]; (repeat' split) <;> simp

@[simp] theorem restartChannel_frame (c : Fin 6) (d : ChannelState) (x : VibReason) (s : State) :
    (restartChannel c d x s).run = s.run ∧ (restartChannel c d x s).lim = s.lim ∧
      (restartChannel c d x s).regA = s.regA ∧ (restartChannel c d x s).regB = s.regB ∧
      (restartChannel c d x s).load = s.load ∧ (restartChannel c d x s).recorder = s.recorder ∧
      (restartChannel c d x s).store = s.store ∧ (restartChannel c d x s).tab = s.tab ∧
      (restartChannel c d x s).link = s.link ∧ (restartChannel c d x s).pending = s.pending := by
  simp [restartChannel]

@[simp] theorem setUpChannel_frame (c : Fin 6) (s : State) :
    (setUpChannel c s).run = s.run ∧ (setUpChannel c s).lim = s.lim ∧ (setUpChannel c s).regA = s.regA ∧
      (setUpChannel c s).regB = s.regB ∧ (setUpChannel c s).load = s.load ∧
      (setUpChannel c s).recorder = s.recorder ∧ (setUpChannel c s).store = s.store ∧
      (setUpChannel c s).tab = s.tab ∧ (setUpChannel c s).link = s.link ∧
      (setUpChannel c s).pending = s.pending := by
  simp only [setUpChannel]; (repeat' split) <;> simp

@[simp] theorem vibCommit_frame (s : State) :
    (vibCommit s).run = s.run ∧ (vibCommit s).regA = s.regA ∧ (vibCommit s).regB = s.regB ∧
      (vibCommit s).load = s.load ∧ (vibCommit s).recorder = s.recorder ∧ (vibCommit s).store = s.store ∧
      (vibCommit s).tab = s.tab ∧ (vibCommit s).link = s.link ∧ (vibCommit s).pending = s.pending := by
  simp [vibCommit, allChannels]

@[simp] theorem setRingAlert_frame (x : Bool) (y : RingReason) (s : State) :
    (setRingAlert x y s).run = s.run ∧ (setRingAlert x y s).lim = s.lim ∧
      (setRingAlert x y s).regA = s.regA ∧ (setRingAlert x y s).regB = s.regB ∧
      (setRingAlert x y s).vib = s.vib ∧ (setRingAlert x y s).trip = s.trip ∧
      (setRingAlert x y s).recorder = s.recorder ∧ (setRingAlert x y s).store = s.store ∧
      (setRingAlert x y s).tab = s.tab ∧ (setRingAlert x y s).link = s.link ∧
      (setRingAlert x y s).pending = s.pending := by
  simp only [setRingAlert]; (repeat' split) <;> simp

@[simp] theorem judgeRing_frame (t : VibTable) (x : RingReason) (s : State) :
    (judgeRing t x s).run = s.run ∧ (judgeRing t x s).lim = s.lim ∧ (judgeRing t x s).regA = s.regA ∧
      (judgeRing t x s).regB = s.regB ∧ (judgeRing t x s).vib = s.vib ∧ (judgeRing t x s).trip = s.trip ∧
      (judgeRing t x s).recorder = s.recorder ∧ (judgeRing t x s).store = s.store ∧
      (judgeRing t x s).tab = s.tab ∧ (judgeRing t x s).link = s.link ∧
      (judgeRing t x s).pending = s.pending := by
  simp [judgeRing]

@[simp] theorem closeRevolution_frame (t : VibTable) (s : State) :
    (closeRevolution t s).run = s.run ∧ (closeRevolution t s).lim = s.lim ∧
      (closeRevolution t s).regA = s.regA ∧ (closeRevolution t s).regB = s.regB ∧
      (closeRevolution t s).vib = s.vib ∧ (closeRevolution t s).trip = s.trip ∧
      (closeRevolution t s).recorder = s.recorder ∧ (closeRevolution t s).store = s.store ∧
      (closeRevolution t s).tab = s.tab ∧ (closeRevolution t s).link = s.link ∧
      (closeRevolution t s).pending = s.pending := by
  simp only [closeRevolution]; (repeat' split) <;> simp

@[simp] theorem judgeAngle_frame (t : VibTable) (a : Word) (s : State) :
    (judgeAngle t a s).run = s.run ∧ (judgeAngle t a s).lim = s.lim ∧ (judgeAngle t a s).regA = s.regA ∧
      (judgeAngle t a s).regB = s.regB ∧ (judgeAngle t a s).vib = s.vib ∧
      (judgeAngle t a s).trip = s.trip ∧ (judgeAngle t a s).recorder = s.recorder ∧
      (judgeAngle t a s).store = s.store ∧ (judgeAngle t a s).tab = s.tab ∧
      (judgeAngle t a s).link = s.link ∧ (judgeAngle t a s).pending = s.pending := by
  simp only [judgeAngle]; (repeat' split) <;> simp

@[simp] theorem takePosition_frame (t : VibTable) (a : Word) (s : State) :
    (takePosition t a s).run = s.run ∧ (takePosition t a s).lim = s.lim ∧
      (takePosition t a s).regA = s.regA ∧ (takePosition t a s).regB = s.regB ∧
      (takePosition t a s).vib = s.vib ∧ (takePosition t a s).trip = s.trip ∧
      (takePosition t a s).recorder = s.recorder ∧ (takePosition t a s).store = s.store ∧
      (takePosition t a s).tab = s.tab ∧ (takePosition t a s).link = s.link ∧
      (takePosition t a s).pending = s.pending := by
  simp only [takePosition]; (repeat' split) <;> simp

@[simp] theorem losePosition_frame (s : State) :
    (losePosition s).run = s.run ∧ (losePosition s).lim = s.lim ∧ (losePosition s).regA = s.regA ∧
      (losePosition s).regB = s.regB ∧ (losePosition s).vib = s.vib ∧ (losePosition s).trip = s.trip ∧
      (losePosition s).recorder = s.recorder ∧ (losePosition s).store = s.store ∧
      (losePosition s).tab = s.tab ∧ (losePosition s).link = s.link ∧ (losePosition s).pending = s.pending := by
  simp [losePosition]

@[simp] theorem shellCommit_frame (s : State) :
    (shellCommit s).run = s.run ∧ (shellCommit s).lim = s.lim ∧ (shellCommit s).regA = s.regA ∧
      (shellCommit s).regB = s.regB ∧ (shellCommit s).vib = s.vib ∧ (shellCommit s).trip = s.trip ∧
      (shellCommit s).recorder = s.recorder ∧ (shellCommit s).store = s.store ∧
      (shellCommit s).tab = s.tab ∧ (shellCommit s).link = s.link ∧ (shellCommit s).pending = s.pending := by
  simp only [shellCommit]; (repeat' split) <;> simp

@[simp] theorem restartRun_frame (s : State) :
    (restartRun s).regA = s.regA ∧ (restartRun s).regB = s.regB ∧ (restartRun s).vib = s.vib ∧
      (restartRun s).load = s.load ∧ (restartRun s).trip = s.trip ∧ (restartRun s).recorder = s.recorder ∧
      (restartRun s).store = s.store ∧ (restartRun s).log = s.log ∧ (restartRun s).tab = s.tab ∧
      (restartRun s).link = s.link ∧ (restartRun s).pending = s.pending := by
  simp [restartRun]

@[simp] theorem restartLog_frame (s : State) :
    (restartLog s).run = s.run ∧ (restartLog s).lim = s.lim ∧ (restartLog s).regA = s.regA ∧
      (restartLog s).regB = s.regB ∧ (restartLog s).vib = s.vib ∧ (restartLog s).load = s.load ∧
      (restartLog s).trip = s.trip ∧ (restartLog s).recorder = s.recorder ∧
      (restartLog s).store = s.store ∧ (restartLog s).tab = s.tab ∧ (restartLog s).link = s.link ∧
      (restartLog s).pending = s.pending := by
  simp [restartLog]

@[simp] theorem restartRecord_frame (d : DriveState) (s : State) :
    (restartRecord d s).run = s.run ∧ (restartRecord d s).regA = s.regA ∧
      (restartRecord d s).regB = s.regB ∧ (restartRecord d s).vib = s.vib ∧
      (restartRecord d s).load = s.load ∧ (restartRecord d s).trip = s.trip ∧
      (restartRecord d s).recorder = s.recorder ∧ (restartRecord d s).store = s.store ∧
      (restartRecord d s).tab = s.tab ∧ (restartRecord d s).link = s.link ∧
      (restartRecord d s).pending = s.pending := by
  simp only [restartRecord]; (repeat' split) <;> simp

@[simp] theorem restartRecorder_frame (s : State) :
    (restartRecorder s).run = s.run ∧ (restartRecorder s).lim = s.lim ∧ (restartRecorder s).regA = s.regA ∧
      (restartRecorder s).regB = s.regB ∧ (restartRecorder s).vib = s.vib ∧
      (restartRecorder s).load = s.load ∧ (restartRecorder s).trip = s.trip ∧
      (restartRecorder s).store = s.store ∧ (restartRecorder s).log = s.log ∧
      (restartRecorder s).tab = s.tab ∧ (restartRecorder s).link = s.link ∧
      (restartRecorder s).pending = s.pending := by
  simp [restartRecorder]

@[simp] theorem restartLimiter_frame (s : State) :
    (restartLimiter s).run = s.run ∧ (restartLimiter s).regA = s.regA ∧ (restartLimiter s).regB = s.regB ∧
      (restartLimiter s).vib = s.vib ∧ (restartLimiter s).load = s.load ∧
      (restartLimiter s).recorder = s.recorder ∧ (restartLimiter s).store = s.store ∧
      (restartLimiter s).log = s.log ∧ (restartLimiter s).tab = s.tab ∧ (restartLimiter s).link = s.link ∧
      (restartLimiter s).pending = s.pending := by
  simp [restartLimiter]

@[simp] theorem restartAll_frame (s : State) :
    (restartAll s).regA = s.regA ∧ (restartAll s).regB = s.regB ∧ (restartAll s).vib = s.vib ∧
      (restartAll s).load = s.load ∧ (restartAll s).store = s.store ∧ (restartAll s).tab = s.tab ∧
      (restartAll s).link = s.link ∧ (restartAll s).pending = s.pending := by
  simp [restartAll]

@[simp] theorem setBuffer_frame (n : Bool) (b : Option Staging) (s : State) :
    (setBuffer n b s).run = s.run ∧ (setBuffer n b s).lim = s.lim ∧ (setBuffer n b s).regA = s.regA ∧
      (setBuffer n b s).regB = s.regB ∧ (setBuffer n b s).vib = s.vib ∧ (setBuffer n b s).load = s.load ∧
      (setBuffer n b s).trip = s.trip ∧ (setBuffer n b s).recorder = s.recorder ∧
      (setBuffer n b s).store = s.store ∧ (setBuffer n b s).log = s.log ∧ (setBuffer n b s).link = s.link ∧
      (setBuffer n b s).pending = s.pending := by
  simp [setBuffer]

@[simp] theorem setLock_frame (t : TableId) (x : Bool) (s : State) :
    (setLock t x s).run = s.run ∧ (setLock t x s).lim = s.lim ∧ (setLock t x s).regA = s.regA ∧
      (setLock t x s).regB = s.regB ∧ (setLock t x s).vib = s.vib ∧ (setLock t x s).load = s.load ∧
      (setLock t x s).trip = s.trip ∧ (setLock t x s).recorder = s.recorder ∧
      (setLock t x s).store = s.store ∧ (setLock t x s).log = s.log ∧ (setLock t x s).link = s.link ∧
      (setLock t x s).pending = s.pending := by
  simp [setLock]

@[simp] theorem eventCommit_frame (x : AlertMode) (s : State) :
    (eventCommit x s).run = s.run ∧ (eventCommit x s).lim = s.lim ∧ (eventCommit x s).regA = s.regA ∧
      (eventCommit x s).regB = s.regB ∧ (eventCommit x s).vib = s.vib ∧ (eventCommit x s).load = s.load ∧
      (eventCommit x s).trip = s.trip ∧ (eventCommit x s).recorder = s.recorder ∧
      (eventCommit x s).store = s.store ∧ (eventCommit x s).tab = s.tab ∧ (eventCommit x s).link = s.link ∧
      (eventCommit x s).pending = s.pending := by
  simp [eventCommit]

@[simp] theorem releaseMotor_frame (m : Motor) (s : State) :
    (releaseMotor m s).run = s.run ∧ (releaseMotor m s).lim = s.lim ∧ (releaseMotor m s).vib = s.vib ∧
      (releaseMotor m s).load = s.load ∧ (releaseMotor m s).recorder = s.recorder ∧
      (releaseMotor m s).store = s.store ∧ (releaseMotor m s).log = s.log ∧
      (releaseMotor m s).tab = s.tab ∧ (releaseMotor m s).link = s.link ∧
      (releaseMotor m s).pending = s.pending := by
  simp only [releaseMotor]; (repeat' split) <;> simp

@[simp] theorem restartPattern_frame (s : State) :
    (restartPattern s).run = s.run ∧ (restartPattern s).lim = s.lim ∧ (restartPattern s).regA = s.regA ∧
      (restartPattern s).regB = s.regB ∧ (restartPattern s).vib = s.vib ∧
      (restartPattern s).load = s.load ∧ (restartPattern s).trip = s.trip ∧
      (restartPattern s).recorder = s.recorder ∧ (restartPattern s).store = s.store ∧
      (restartPattern s).log = s.log ∧ (restartPattern s).tab = s.tab ∧
      (restartPattern s).pending = s.pending := by
  simp [restartPattern]

@[simp] theorem lowerAttempts_frame (s : State) :
    (lowerAttempts s).lim = s.lim ∧ (lowerAttempts s).regA = s.regA ∧ (lowerAttempts s).regB = s.regB ∧
      (lowerAttempts s).vib = s.vib ∧ (lowerAttempts s).load = s.load ∧ (lowerAttempts s).trip = s.trip ∧
      (lowerAttempts s).recorder = s.recorder ∧ (lowerAttempts s).store = s.store ∧
      (lowerAttempts s).log = s.log ∧ (lowerAttempts s).tab = s.tab ∧ (lowerAttempts s).link = s.link ∧
      (lowerAttempts s).pending = s.pending := by
  simp [lowerAttempts]

@[simp] theorem driveCommit_frame (s : State) :
    (driveCommit s).vib = s.vib ∧ (driveCommit s).load = s.load ∧ (driveCommit s).recorder = s.recorder ∧
      (driveCommit s).store = s.store ∧ (driveCommit s).tab = s.tab ∧ (driveCommit s).pending = s.pending := by
  simp [driveCommit]

@[simp] theorem informOwners_frame (t : TableId) (x : AlertMode) (s : State) :
    (informOwners t x s).recorder = s.recorder ∧ (informOwners t x s).store = s.store ∧
      (informOwners t x s).tab = s.tab ∧ (informOwners t x s).pending = s.pending := by
  simp only [informOwners]; (repeat' split) <;> simp

@[simp] theorem raiseTable_frame (t : TableId) (w : Word) (n : Nat) (s : State) :
    (raiseTable t w n s).run = s.run ∧ (raiseTable t w n s).lim = s.lim ∧
      (raiseTable t w n s).regA = s.regA ∧ (raiseTable t w n s).regB = s.regB ∧
      (raiseTable t w n s).vib = s.vib ∧ (raiseTable t w n s).load = s.load ∧
      (raiseTable t w n s).trip = s.trip ∧ (raiseTable t w n s).recorder = s.recorder ∧
      (raiseTable t w n s).store = s.store ∧ (raiseTable t w n s).tab = s.tab ∧
      (raiseTable t w n s).link = s.link ∧ (raiseTable t w n s).pending = s.pending := by
  simp [raiseTable]

@[simp] theorem acceptCommit_frame (n : Bool) (b : Staging) (fs : List Int) (k : Nat) (s : State) :
    (acceptCommit n b fs k s).recorder = s.recorder ∧ (acceptCommit n b fs k s).store = s.store ∧
      (acceptCommit n b fs k s).pending = s.pending := by
  simp [acceptCommit]

@[simp] theorem rearm_frame (s : State) :
    (rearm s).run = s.run ∧ (rearm s).lim = s.lim ∧ (rearm s).regA = s.regA ∧ (rearm s).regB = s.regB ∧
      (rearm s).vib = s.vib ∧ (rearm s).load = s.load ∧ (rearm s).trip = s.trip ∧
      (rearm s).store = s.store ∧ (rearm s).log = s.log ∧ (rearm s).tab = s.tab ∧ (rearm s).link = s.link ∧
      (rearm s).pending = s.pending := by
  simp [rearm]

@[simp] theorem raiseTripReset_frame (a b : Nat) (s : State) :
    (raiseTripReset a b s).run = s.run ∧ (raiseTripReset a b s).lim = s.lim ∧
      (raiseTripReset a b s).regA = s.regA ∧ (raiseTripReset a b s).regB = s.regB ∧
      (raiseTripReset a b s).vib = s.vib ∧ (raiseTripReset a b s).load = s.load ∧
      (raiseTripReset a b s).trip = s.trip ∧ (raiseTripReset a b s).recorder = s.recorder ∧
      (raiseTripReset a b s).store = s.store ∧ (raiseTripReset a b s).tab = s.tab ∧
      (raiseTripReset a b s).link = s.link ∧ (raiseTripReset a b s).pending = s.pending := by
  simp [raiseTripReset]

@[simp] theorem acceptTripReset_frame (s : State) :
    (acceptTripReset s).regA = s.regA ∧ (acceptTripReset s).regB = s.regB ∧
      (acceptTripReset s).vib = s.vib ∧ (acceptTripReset s).load = s.load ∧
      (acceptTripReset s).store = s.store ∧ (acceptTripReset s).tab = s.tab ∧
      (acceptTripReset s).link = s.link ∧ (acceptTripReset s).pending = s.pending := by
  simp [acceptTripReset]

@[simp] theorem dropOldest_frame (s : State) :
    (dropOldest s).run = s.run ∧ (dropOldest s).lim = s.lim ∧ (dropOldest s).regA = s.regA ∧
      (dropOldest s).regB = s.regB ∧ (dropOldest s).vib = s.vib ∧ (dropOldest s).load = s.load ∧
      (dropOldest s).trip = s.trip ∧ (dropOldest s).recorder = s.recorder ∧
      (dropOldest s).store = s.store ∧ (dropOldest s).tab = s.tab ∧ (dropOldest s).link = s.link ∧
      (dropOldest s).pending = s.pending := by
  simp [dropOldest]

@[simp] theorem raiseMark_frame (o : BitVec 4) (a b : DWord) (s : State) :
    (raiseMark o a b s).run = s.run ∧ (raiseMark o a b s).lim = s.lim ∧ (raiseMark o a b s).regA = s.regA ∧
      (raiseMark o a b s).regB = s.regB ∧ (raiseMark o a b s).vib = s.vib ∧
      (raiseMark o a b s).load = s.load ∧ (raiseMark o a b s).trip = s.trip ∧
      (raiseMark o a b s).recorder = s.recorder ∧ (raiseMark o a b s).store = s.store ∧
      (raiseMark o a b s).tab = s.tab ∧ (raiseMark o a b s).link = s.link ∧
      (raiseMark o a b s).pending = s.pending := by
  simp [raiseMark]

@[simp] theorem countError_frame (p : Port) (s : State) :
    (countError p s).run = s.run ∧ (countError p s).lim = s.lim ∧ (countError p s).regA = s.regA ∧
      (countError p s).regB = s.regB ∧ (countError p s).vib = s.vib ∧ (countError p s).load = s.load ∧
      (countError p s).trip = s.trip ∧ (countError p s).recorder = s.recorder ∧
      (countError p s).store = s.store ∧ (countError p s).log = s.log ∧ (countError p s).tab = s.tab ∧
      (countError p s).pending = s.pending := by
  simp [countError]

@[simp] theorem refuseFrame_frame (p : Port) (x : LinkReason) (c : BitVec 4) (s : State) :
    (refuseFrame p x c s).run = s.run ∧ (refuseFrame p x c s).lim = s.lim ∧
      (refuseFrame p x c s).regA = s.regA ∧ (refuseFrame p x c s).regB = s.regB ∧
      (refuseFrame p x c s).vib = s.vib ∧ (refuseFrame p x c s).load = s.load ∧
      (refuseFrame p x c s).trip = s.trip ∧ (refuseFrame p x c s).recorder = s.recorder ∧
      (refuseFrame p x c s).store = s.store ∧ (refuseFrame p x c s).tab = s.tab ∧
      (refuseFrame p x c s).pending = s.pending := by
  simp [refuseFrame]

end Sys2Proof.Machine
end

