-- ==== Sys2Proof/Laws/State.lean ====
section
/-! SUPPORT. The named updates of the state, field by field: what each puts where it writes, and that it
leaves the rest.  What the updates of whole blocks leave unchanged stands in the frame files. -/

namespace Sys2Proof.Machine

/-! ### The queue -/

@[simp] theorem State.withPending_pending (s : State) (q : List Instr) : (s.withPending q).pending = q := rfl
@[simp] theorem State.withPending_run (s : State) (q : List Instr) : (s.withPending q).run = s.run := rfl
@[simp] theorem State.withPending_lim (s : State) (q : List Instr) : (s.withPending q).lim = s.lim := rfl
@[simp] theorem State.withPending_regA (s : State) (q : List Instr) : (s.withPending q).regA = s.regA := rfl
@[simp] theorem State.withPending_regB (s : State) (q : List Instr) : (s.withPending q).regB = s.regB := rfl
@[simp] theorem State.withPending_vib (s : State) (q : List Instr) : (s.withPending q).vib = s.vib := rfl
@[simp] theorem State.withPending_load (s : State) (q : List Instr) : (s.withPending q).load = s.load := rfl
@[simp] theorem State.withPending_trip (s : State) (q : List Instr) : (s.withPending q).trip = s.trip := rfl
@[simp] theorem State.withPending_recorder (s : State) (q : List Instr) :
    (s.withPending q).recorder = s.recorder := rfl
@[simp] theorem State.withPending_store (s : State) (q : List Instr) : (s.withPending q).store = s.store := rfl
@[simp] theorem State.withPending_log (s : State) (q : List Instr) : (s.withPending q).log = s.log := rfl
@[simp] theorem State.withPending_tab (s : State) (q : List Instr) : (s.withPending q).tab = s.tab := rfl
@[simp] theorem State.withPending_link (s : State) (q : List Instr) : (s.withPending q).link = s.link := rfl

/-! ### Regulators -/

@[simp] theorem State.setReg_reg_self (s : State) (m : Motor) (r : Regulator) : (s.setReg m r).reg m = r := by
  cases m <;> rfl

theorem State.setReg_reg_other (s : State) (m n : Motor) (r : Regulator) (h : n ≠ m) :
    (s.setReg m r).reg n = s.reg n := by
  cases m <;> cases n <;> first | rfl | exact absurd rfl h

@[simp] theorem State.setReg_A_regA (s : State) (r : Regulator) : (s.setReg .A r).regA = r := rfl
@[simp] theorem State.setReg_A_regB (s : State) (r : Regulator) : (s.setReg .A r).regB = s.regB := rfl
@[simp] theorem State.setReg_B_regA (s : State) (r : Regulator) : (s.setReg .B r).regA = s.regA := rfl
@[simp] theorem State.setReg_B_regB (s : State) (r : Regulator) : (s.setReg .B r).regB = r := rfl
@[simp] theorem State.reg_A (s : State) : s.reg .A = s.regA := rfl
@[simp] theorem State.reg_B (s : State) : s.reg .B = s.regB := rfl

/-! ### The trip controller's condition set -/

@[simp] theorem setCondition_latch (c : CauseId) (on : Bool) (s : State) :
    (setCondition c on s).trip.latch = s.trip.latch := rfl
@[simp] theorem setCondition_list (c : CauseId) (on : Bool) (s : State) :
    (setCondition c on s).trip.list = s.trip.list := rfl
@[simp] theorem setCondition_overflowCount (c : CauseId) (on : Bool) (s : State) :
    (setCondition c on s).trip.overflowCount = s.trip.overflowCount := rfl
@[simp] theorem setCondition_overflowSet (c : CauseId) (on : Bool) (s : State) :
    (setCondition c on s).trip.overflowSet = s.trip.overflowSet := rfl
@[simp] theorem setCondition_extTrip (c : CauseId) (on : Bool) (s : State) :
    (setCondition c on s).trip.extTrip = s.trip.extTrip := rfl
@[simp] theorem setCondition_tripLine (c : CauseId) (on : Bool) (s : State) :
    (setCondition c on s).trip.tripLine = s.trip.tripLine := rfl
@[simp] theorem setCondition_active (c : CauseId) (on : Bool) (s : State) :
    (setCondition c on s).trip.active
      = if on then addCondition c s.trip.active else removeCondition c s.trip.active := rfl

/-! ### Vibration channels -/

@[simp] theorem setChannel_derate (c : Fin 6) (x : Channel) (s : State) :
    (setChannel c x s).vib.derate = s.vib.derate := rfl
@[simp] theorem setChannel_channels (c : Fin 6) (x : Channel) (s : State) :
    (setChannel c x s).vib.channels = s.vib.channels.set c x := rfl

/-! ### The store's index and memory -/

@[simp] theorem TripStore.setBank_banks (t : TripStore) (b : Fin 4) (e : BankIndex) :
    (t.setBank b e).banks = t.banks.set b e := rfl
@[simp] theorem TripStore.setBank_nv (t : TripStore) (b : Fin 4) (e : BankIndex) : (t.setBank b e).nv = t.nv := rfl
@[simp] theorem TripStore.setBank_nextTag (t : TripStore) (b : Fin 4) (e : BankIndex) :
    (t.setBank b e).nextTag = t.nextTag := rfl
@[simp] theorem TripStore.setBank_current (t : TripStore) (b : Fin 4) (e : BankIndex) :
    (t.setBank b e).current = t.current := rfl
@[simp] theorem TripStore.setBank_queue (t : TripStore) (b : Fin 4) (e : BankIndex) :
    (t.setBank b e).queue = t.queue := rfl
@[simp] theorem TripStore.setBank_eraseAll (t : TripStore) (b : Fin 4) (e : BankIndex) :
    (t.setBank b e).eraseAll = t.eraseAll := rfl
@[simp] theorem TripStore.setBank_offer (t : TripStore) (b : Fin 4) (e : BankIndex) :
    (t.setBank b e).offer = t.offer := rfl
@[simp] theorem TripStore.setBank_program (t : TripStore) (b : Fin 4) (e : BankIndex) :
    (t.setBank b e).program = t.program := rfl
@[simp] theorem TripStore.setBank_nextNumber (t : TripStore) (b : Fin 4) (e : BankIndex) :
    (t.setBank b e).nextNumber = t.nextNumber := rfl
@[simp] theorem TripStore.setBank_activity (t : TripStore) (b : Fin 4) (e : BankIndex) :
    (t.setBank b e).activity = t.activity := rfl
@[simp] theorem TripStore.setBank_busy (t : TripStore) (b : Fin 4) (e : BankIndex) :
    (t.setBank b e).busy = t.busy := rfl
@[simp] theorem TripStore.setNv_nv (t : TripStore) (b : Fin 4) (n : NvBank) :
    (t.setNv b n).nv = t.nv.set b n := rfl
@[simp] theorem TripStore.setNv_banks (t : TripStore) (b : Fin 4) (n : NvBank) :
    (t.setNv b n).banks = t.banks := rfl
@[simp] theorem TripStore.setNv_current (t : TripStore) (b : Fin 4) (n : NvBank) :
    (t.setNv b n).current = t.current := rfl
@[simp] theorem TripStore.setNv_queue (t : TripStore) (b : Fin 4) (n : NvBank) :
    (t.setNv b n).queue = t.queue := rfl
@[simp] theorem TripStore.setNv_offer (t : TripStore) (b : Fin 4) (n : NvBank) :
    (t.setNv b n).offer = t.offer := rfl
@[simp] theorem TripStore.setNv_program (t : TripStore) (b : Fin 4) (n : NvBank) :
    (t.setNv b n).program = t.program := rfl
@[simp] theorem TripStore.setNv_nextNumber (t : TripStore) (b : Fin 4) (n : NvBank) :
    (t.setNv b n).nextNumber = t.nextNumber := rfl
@[simp] theorem TripStore.setNv_activity (t : TripStore) (b : Fin 4) (n : NvBank) :
    (t.setNv b n).activity = t.activity := rfl
@[simp] theorem TripStore.setNv_busy (t : TripStore) (b : Fin 4) (n : NvBank) :
    (t.setNv b n).busy = t.busy := rfl

/-! ### Staging buffers and lock bits -/

@[simp] theorem TableManager.setBuffer_buffer_self (m : TableManager) (n : Bool) (b : Option Staging) :
    (m.setBuffer n b).buffer n = b := by
  cases n <;> rfl

theorem TableManager.setBuffer_buffer_other (m : TableManager) (n k : Bool) (b : Option Staging) (h : k ≠ n) :
    (m.setBuffer n b).buffer k = m.buffer k := by
  cases n <;> cases k <;> first | rfl | exact absurd rfl h

@[simp] theorem TableManager.setBuffer_gain (m : TableManager) (n : Bool) (b : Option Staging) :
    (m.setBuffer n b).gain = m.gain := by cases n <;> rfl
@[simp] theorem TableManager.setBuffer_limit (m : TableManager) (n : Bool) (b : Option Staging) :
    (m.setBuffer n b).limit = m.limit := by cases n <;> rfl
@[simp] theorem TableManager.setBuffer_vib (m : TableManager) (n : Bool) (b : Option Staging) :
    (m.setBuffer n b).vib = m.vib := by cases n <;> rfl
@[simp] theorem TableManager.setBuffer_event (m : TableManager) (n : Bool) (b : Option Staging) :
    (m.setBuffer n b).event = m.event := by cases n <;> rfl
@[simp] theorem TableManager.setBuffer_drive (m : TableManager) (n : Bool) (b : Option Staging) :
    (m.setBuffer n b).drive = m.drive := by cases n <;> rfl
@[simp] theorem TableManager.setBuffer_locks (m : TableManager) (n : Bool) (b : Option Staging) :
    (m.setBuffer n b).locks = m.locks := by cases n <;> rfl
@[simp] theorem TableManager.setBuffer_lockLine (m : TableManager) (n : Bool) (b : Option Staging) :
    (m.setBuffer n b).lockLine = m.lockLine := by cases n <;> rfl

@[simp] theorem TableManager.setBuffer_image (m : TableManager) (n : Bool) (b : Option Staging) (t : TableId) :
    (m.setBuffer n b).image t = m.image t := by
  cases t <;> simp [TableManager.image]

/-! ### Receive references -/

@[simp] theorem Link.setRef_ref_self (l : Link) (p : Port) (c : Fin 8) (q : Seq) :
    (l.setRef p c q).ref p c = some q := by
  cases p <;> simp [Link.setRef, Link.ref]

@[simp] theorem Link.setRef_slot (l : Link) (p : Port) (c : Fin 8) (q : Seq) :
    (l.setRef p c q).slot = l.slot := by cases p <;> rfl
@[simp] theorem Link.setRef_sTx (l : Link) (p : Port) (c : Fin 8) (q : Seq) :
    (l.setRef p c q).sTx = l.sTx := by cases p <;> rfl
@[simp] theorem Link.setRef_outS (l : Link) (p : Port) (c : Fin 8) (q : Seq) :
    (l.setRef p c q).outS = l.outS := by cases p <;> rfl
@[simp] theorem Link.setRef_m0Tx (l : Link) (p : Port) (c : Fin 8) (q : Seq) :
    (l.setRef p c q).m0Tx = l.m0Tx := by cases p <;> rfl
@[simp] theorem Link.setRef_m1Tx (l : Link) (p : Port) (c : Fin 8) (q : Seq) :
    (l.setRef p c q).m1Tx = l.m1Tx := by cases p <;> rfl
@[simp] theorem Link.setRef_paceCount (l : Link) (p : Port) (c : Fin 8) (q : Seq) :
    (l.setRef p c q).paceCount = l.paceCount := by cases p <;> rfl
@[simp] theorem Link.setRef_gaps (l : Link) (p : Port) (c : Fin 8) (q : Seq) :
    (l.setRef p c q).gaps = l.gaps := by cases p <;> rfl
@[simp] theorem Link.setRef_errors (l : Link) (p : Port) (c : Fin 8) (q : Seq) :
    (l.setRef p c q).errors = l.errors := by cases p <;> rfl
@[simp] theorem Link.setRef_linkErrSeen (l : Link) (p : Port) (c : Fin 8) (q : Seq) :
    (l.setRef p c q).linkErrSeen = l.linkErrSeen := by cases p <;> rfl

end Sys2Proof.Machine
end

