-- ==== Sys2Proof/Laws/Shared.lean ====
section
/-! SUPPORT. Once for each shared operation, everything it can do: a raised event, an accepted frame, a
request, a voltage command, a drive state entered, a cause. -/

namespace Sys2Proof.Machine

/-! ### The event log -/

/-- An occurrence that is passed over only counts down its counter (R151). -/
theorem raise_passed (k : EventKind) (o : Source) (f : Word) (a b : DWord) (s : State) (c : Nat)
    (h : s.log.counters[k.index] = c + 1) :
    raise k o f a b s = { s with log := { s.log with counters := s.log.counters.set k.index c } } := by
  simp [raise, EventLog.raise, h]

/-- An occurrence that passes becomes a record, its counter takes the interval, and the ALERT condition is
judged (R151, R154). -/
theorem raise_recorded (k : EventKind) (o : Source) (f : Word) (a b : DWord) (s : State)
    (h : s.log.counters[k.index] = 0) :
    (raise k o f a b s).log =
      ((({ s.log with counters := s.log.counters.set k.index (eventTable s).intervals[k.index] } :
          EventLog).insert (eventTable s).ringMode
            { kind := k, source := o, flags := f, pace := s.link.paceCount, data1 := a, data2 := b }).judge
        (eventTable s) (alertInputs s)) := by
  simp [raise, EventLog.raise, h]

/-- A judgement touches the condition, the line and the pulse timer alone. -/
@[simp] theorem EventLog.judge_frame (t : EventTable) (x : Bool) (l : EventLog) :
    (l.judge t x).counters = l.counters ∧ (l.judge t x).ring = l.ring ∧ (l.judge t x).missed = l.missed
      ∧ (l.judge t x).eventMissed = l.eventMissed ∧ (l.judge t x).alertCond = l.condition t x := by
  unfold EventLog.judge
  split
  · simp
  · dsimp only
    split <;> simp_all

/-- An insertion never grows the ring past its size (R155). -/
theorem EventLog.insert_length (m : RingMode) (e : EventRecord) (l : EventLog) (h : l.ring.length ≤ ringSize) :
    (l.insert m e).ring.length ≤ ringSize := by
  unfold EventLog.insert
  split
  · simpa using by omega
  · cases m <;> simp only [List.length_append, List.length_tail, List.length_dropLast, List.length_singleton] <;>
      simp only [ringSize] at * <;> omega

/-! ### Frames and requests -/

/-- The reference after an accepted frame is its sequence (R179). -/
@[simp] theorem acceptFrame_ref (p : Port) (c : Fin 8) (q : Seq) (s : State) :
    (acceptFrame p c q s).link.ref p c = some q := by
  simp only [acceptFrame, linkError]
  split
  · simp
  · cases p <;> simp [Link.ref, Link.setRef]

@[simp] theorem linkError_link (p : Port) (x : LinkReason) (c : BitVec 4) (n : Nat) (s : State) :
    (linkError p x c n s).link = { s.link with linkErrSeen := true } := by
  simp [linkError]

/-- An accepted frame does not touch the transmitters, the slot or the pace count. -/
@[simp] theorem acceptFrame_link (p : Port) (c : Fin 8) (q : Seq) (s : State) :
    (acceptFrame p c q s).link.slot = s.link.slot ∧ (acceptFrame p c q s).link.sTx = s.link.sTx
      ∧ (acceptFrame p c q s).link.outS = s.link.outS ∧ (acceptFrame p c q s).link.m0Tx = s.link.m0Tx
      ∧ (acceptFrame p c q s).link.m1Tx = s.link.m1Tx
      ∧ (acceptFrame p c q s).link.paceCount = s.link.paceCount
      ∧ (acceptFrame p c q s).link.errors = s.link.errors := by
  simp only [acceptFrame]
  split <;> simp

/-- A request that finds an answer pending is discarded and sets REQUEST_OVERRUN (R183). -/
theorem serve_overrun (code : Byte) (r : Request) (f : State → Reply) (s : State) (a : Answer)
    (h : s.link.slot = some a) :
    serve code r f s = { acceptFrame .S 0 r.seq s with
      link := { (acceptFrame .S 0 r.seq s).link with overrun := true } } := by
  simp [serve, h]

/-- Any other request is carried out by its owner, and the answer is placed (R183, R184). -/
theorem serve_answered (code : Byte) (r : Request) (f : State → Reply) (s : State) (h : s.link.slot = none) :
    serve code r f s = { (f (acceptFrame .S 0 r.seq s)).state with
      link := (f (acceptFrame .S 0 r.seq s)).state.link.placeAnswer
        { code := code, tag := r.tag, answer := (f (acceptFrame .S 0 r.seq s)).answer
          data := (f (acceptFrame .S 0 r.seq s)).data } } := by
  simp [serve, h]

/-- The slot holds the answer placed, and an idle transmitter begins to send it (R183). -/
theorem Link.placeAnswer_slot (l : Link) (a : Answer) : (l.placeAnswer a).slot = some a := by
  unfold Link.placeAnswer; split <;> rfl

/-! ### Voltage commands -/

/-- A VCMD is put behind those formed before it, and none is dropped (R177). -/
theorem VcmdTransmitter.push_frames (t : VcmdTransmitter) (q : Seq) (v : Vcmd)
    (h : t.sending = none → t.waiting = []) : (t.push q v).1.frames = t.frames ++ [v] := by
  unfold VcmdTransmitter.push VcmdTransmitter.frames
  split
  · next h' => simp [h', h h']
  · next h' => simp [h']

/-- A command sent on a motor's port reaches that port alone (R3, R177). -/
theorem Link.vcmds_sendVcmd (l : Link) (m k : Motor) (v : Vcmd) (h : LinkLaw l) :
    (l.sendVcmd m v).vcmds k = l.vcmds k ++ if k = m then [v] else [] := by
  cases m <;> cases k <;> simp [Link.sendVcmd, Link.vcmds]
  · exact VcmdTransmitter.push_frames _ _ _ h.m0
  · exact VcmdTransmitter.push_frames _ _ _ h.m1

/-! ### Drive states -/

@[simp] theorem RunController.entering_state (r : RunController) (d : DriveState) : (r.entering d).state = d := by
  cases d <;> rfl

@[simp] theorem RunController.entering_timers (r : RunController) (d : DriveState) :
    (r.entering d).brkTimer = r.brkTimer ∧ (r.entering d).restTimer = r.restTimer
      ∧ (r.entering d).stopTimer = r.stopTimer := by
  cases d <;> simp [RunController.entering]

@[simp] theorem changeDrive_run (d : DriveState) (x : DriveReason) (s : State) :
    (changeDrive d x s).run = s.run.entering d := by
  simp [changeDrive]

@[simp] theorem changeDrive_lim (d : DriveState) (x : DriveReason) (s : State) :
    (changeDrive d x s).lim = s.lim.entering d := by
  simp [changeDrive]

/-- READY is entered only where the READY conditions hold (R17, R20). -/
theorem enterReadyOrOff_state (x : DriveReason) (s : State) :
    (enterReadyOrOff x s).run.state = if readyConditions s then .ready else .off := by
  simp [enterReadyOrOff]

/-! ### Records -/

/-- What an event leaves in the log is a matter of the log, the EVENT table, the ALERT inputs and the pace count
alone (R151, R153, R158). -/
theorem raise_log_congr (k : EventKind) (o : Source) (f : Word) (a b : DWord) {s t : State} (hl : s.log = t.log)
    (he : eventTable s = eventTable t) (hi : alertInputs s = alertInputs t)
    (hp : s.link.paceCount = t.link.paceCount) : (raise k o f a b s).log = (raise k o f a b t).log := by
  simp [raise, hl, he, hi, hp]

/-- The same of a judgement of the ALERT condition (R158). -/
theorem judgeAlert_log_congr {s t : State} (hl : s.log = t.log) (he : eventTable s = eventTable t)
    (hi : alertInputs s = alertInputs t) : (judgeAlert s).log = (judgeAlert t).log := by
  simp [judgeAlert, hl, he, hi]

/-- The record of a change of the drive state (R22). -/
theorem changeDrive_log (d : DriveState) (x : DriveReason) (s : State) :
    (changeDrive d x s).log = (driveStateRecord s.run.state.code d.code x.code s).log :=
  raise_log_congr _ _ _ _ _ rfl rfl rfl rfl

/-- The record of a computation (R35). -/
theorem compute_log (s : State) : (compute s).log = (tlimRecord (limiterAfter s) s).log := by
  have hf : tlimFlags (decide ((limiterAfter s).tReq < -(limiterAfter s).stack.lRev)) (limiterAfter s).stack.tightest
      = BitVec.ofNat 16 ((if (limiterAfter s).tReq < -(limiterAfter s).stack.lRev then 1 else 0) +
        match (limiterAfter s).stack.tightest with
        | .none => 0
        | .vib => 16
        | .thermA => 32
        | .thermB => 48) := by
    cases (limiterAfter s).stack.tightest <;> by_cases h : (limiterAfter s).tReq < -(limiterAfter s).stack.lRev <;>
      simp [tlimFlags, count16, bit, Tightest.code, h]
  show (raiseTlim { s with lim := limiterAfter s }).log = _
  by_cases h : (limiterAfter s).stack.limiting = true
  · rw [raiseTlim, tlimRecord, if_pos h, if_pos h]
    exact (raise_log_congr _ _ _ _ _ rfl rfl rfl rfl).trans
      (congrArg (fun f => (raise .tlim .none f (data32 (limiterAfter s).tReq) (data32 (limiterAfter s).tCmd) s).log) hf)
  · rw [raiseTlim, tlimRecord, if_neg h, if_neg h]

/-! ### The words of a trip record (spec 12.5) -/

@[simp] theorem TripRecord.headerWords_length (r : TripRecord) : r.headerWords.length = 48 := by
  simp [TripRecord.headerWords, words32]

/-- Parts of eight words each are eight words for each part. -/
theorem length_flatten_map_of_eight {α : Type} (f : α → List Word) (hf : ∀ a, (f a).length = 8) (l : List α) :
    (l.map f).flatten.length = 8 * l.length := by
  induction l with
  | nil => rfl
  | cons a l ih => simp only [List.map_cons, List.flatten_cons, List.length_append, ih, hf, List.length_cons]; omega

/-- The word `i` of part `k`, where every part has eight. -/
theorem getElem?_flatten_map_of_eight {α : Type} (f : α → List Word) (hf : ∀ a, (f a).length = 8) (l : List α)
    (k : Nat) (a : α) (hk : l[k]? = some a) (i : Nat) (hi : i < 8) :
    (l.map f).flatten[8 * k + i]? = (f a)[i]? := by
  induction l generalizing k with
  | nil => simp at hk
  | cons b l ih =>
    rw [List.map_cons, List.flatten_cons]
    cases k with
    | zero =>
      obtain rfl : b = a := by simpa using hk
      rw [List.getElem?_append_left (by rw [hf]; omega)]
      simp
    | succ k =>
      rw [List.getElem?_append_right (by rw [hf]; omega), hf, ← ih k (by simpa using hk)]
      congr 1
      omega

@[simp] theorem TripRecord.causeWords_length (r : TripRecord) : r.causeWords.length = 64 := by
  have h := length_flatten_map_of_eight CauseEntry.words (fun _ => rfl) (r.causes.take 8)
  have := List.length_take_le 8 r.causes
  simp only [TripRecord.causeWords, List.length_append, h, List.length_replicate]
  omega

/-- Words 0 to 47 are the header's. -/
theorem TripRecord.word_header (r : TripRecord) (o : Nat) (h : o < 48) :
    r.word o = r.headerWords.getD o erasedWord := by
  simp only [TripRecord.word, TripRecord.words, List.append_assoc, List.getD_eq_getElem?_getD]
  rw [List.getElem?_append_left (by simpa using h)]

/-- Words 48 to 111 are the cause slots'. -/
theorem TripRecord.word_cause (r : TripRecord) (o : Nat) (h : o < 64) :
    r.word (48 + o) = r.causeWords.getD o erasedWord := by
  simp only [TripRecord.word, TripRecord.words, List.append_assoc, List.getD_eq_getElem?_getD]
  rw [List.getElem?_append_right (by simp), List.getElem?_append_left (by simpa using h)]
  simp

/-- Words 112 and onward are the snapshots'. -/
theorem TripRecord.word_snapshot (r : TripRecord) (o : Nat) :
    r.word (112 + o) = (r.snapshots.map Snapshot.words).flatten.getD o erasedWord := by
  simp only [TripRecord.word, TripRecord.words, List.append_assoc, List.getD_eq_getElem?_getD]
  rw [List.getElem?_append_right (by simp; omega), List.getElem?_append_right (by simp; omega)]
  congr 2
  simp
  omega

/-! ### Causes -/

/-- A delivered cause always leaves the latch set (R102, R103). -/
theorem deliverCause_latch (d : Delivery) (c : CauseId) (v : DWord) (s : State) :
    (deliverCause d c v s).trip.latch = true := by
  unfold deliverCause
  split
  · next h => unfold appendCause; (repeat' split) <;> simp [h]
  · simp [latchTrip, setLatch]

/-- A cause that finds the latch clear becomes the one entry of the list (R102). -/
theorem latchTrip_list (d : Delivery) (c : CauseId) (v : DWord) (s : State) :
    (latchTrip d c v s).trip.list = [causeEntry c v s] := by
  simp [latchTrip, setLatch]

end Sys2Proof.Machine
end

