-- ==== Sys2Proof/Tests/Slice0.lean ====
section
/-! SUPPORT. Tests of the model on small states, and for every statement with hypotheses a state and operands
that meet them.  Expected values are the manual's own worked figures where a comment names them, or worked by
hand from the rule the comment names. -/

namespace Sys2Proof.Tests

open Sys2Proof.Machine

/- One theorem after the other: many at a time would each hold a thread's stack. -/
set_option Elab.async false

/-! ### Fixtures -/

/-- The DRIVE table of the worked computations (spec 2.13). -/
def drive : DriveTable where
  motorSet := .ab
  paceMotor := .A
  shareA := 2150
  kti := 4506
  iqMax := 12288
  brkLimit := 10240
  brkSpeed := 200
  brkTime := 2000
  brkRest := 3000
  brkRetries := 2
  stallSpeed := 100
  stallTime := 500
  otLevel := 9000
  otPersist := 4
  otEccMax := 1200
  spTimeout := 100
  spLossLimit := 3
  stopSpeed := 50
  stopTime := 60000
  smCap := 5000
  thermStart := 60
  thermEnd := 80
  fbTimeout := 500
  fbLossLimit := 2
  preCount := 128
  postLimit := 1000
  storeMode := .wrap
  reportPass := 1
  reportMask := 0

/-- A band of the worked cases (spec 3.11) with a given upper speed. -/
def band (upper : Int) : GainBand where
  upper := upper
  kpD := 4096
  kpQ := 6144
  kiD := 205
  kiQ := 410
  vdLim := 2000
  vqLim := 3800
  idRef := 0

def gain : GainTable where
  bands := #v[band 500, band 1000, band 1500, band 2000, band 2500, band 3000, band 3500, band 0]

/-- The LIMIT curve of the worked computations (spec 2.13). -/
def limit : LimitTable where
  points := [⟨0, 8192, 2048⟩, ⟨1024, 6144, 2048⟩, ⟨4096, 5120, 1024⟩]

/-- Channel 2 of the worked case (spec 4, "a window"), enabled or not. -/
def channel (enable : Bool) : ChannelConfig where
  enable := enable
  required := enable
  window := 16
  gap := 48
  alert := 350
  danger := 600
  clear := 300
  persist := 3
  factor := 3584
  silenceTime := 500

def vib : VibTable where
  channels := #v[channel false, channel false, channel true, channel false, channel false, channel false]
  ringAlert := 700
  ringClear := 600
  posTimeout := 500

/-- Scanned, blank store; no table; nothing running; one command waits. -/
def idle : State :=
  { State.reset with
    pending := [.lockLineChange true]
    store := { State.reset.store with
      activity := .idle
      nextNumber := 1
      nv := Vector.replicate 4 { NvBank.erased with stamp := some 1 }
      banks := Vector.replicate 4
        { state := .blank, eraseCount := 1, validCount := 0,
          slots := Vector.replicate 8 { state := .blank, number := none }, marks := [] } } }

/-- All tables active; channel 2 SILENT, so that its derate counts. -/
def loaded : State :=
  { idle with
    tab := { idle.tab with
      gain := some { version := 1, table := gain }
      limit := some { version := 2, table := limit }
      vib := some { version := 3, table := vib }
      drive := some { version := 5, table := drive } }
    vib :=
      { channels := idle.vib.channels.set 2 { Channel.reset with state := .silent }
        derate := 3584 }
    lim := { idle.lim with stack := { idle.lim.stack with vibDerate := 3584 } } }

/-- Both motors seen at a speed. -/
def turning (speed : Int) (s : State) : State :=
  { s with
    regA := { s.regA with seen := true, modState := .running, speed := speed }
    regB := { s.regB with seen := true, modState := .running, speed := speed } }

def at_ (d : DriveState) (s : State) : State := { s with run := { s.run with state := d } }

def ready : State := at_ .ready (turning 0 { loaded with run := { loaded.run with runEdge := true } })

def running : State := at_ .run (turning 820 loaded)

def breaking : State :=
  at_ .breakaway (turning 0 { loaded with
    run := { loaded.run with attempts := 1, brkTimer := .running 2000 } })

def resting : State :=
  at_ .resting (turning 0 { loaded with
    run := { loaded.run with attempts := 1, restTimer := .running 3000 } })

def stopping : State :=
  at_ .stopping (turning 40 { loaded with run := { loaded.run with stopTimer := .running 60000 } })

def req (args : List Byte) : Request := { seq := 1, tag := 0x1234, args := args }

/-- A cause-list entry. -/
def entry (c : CauseId) : CauseEntry := { id := c, pace := 5, value := 1, supTime := 9 }

def snapshot : Snapshot :=
  { pace := 5, tCmd := 1, lFwd := 2, iqA := 3, iqB := 4, vqA := 5, vqB := 6, speed := 7 }

def record : TripRecord where
  tripNumber := 0
  trigger := TriggerCopy.reset
  preCount := 1
  postCount := 0
  reason := .limit
  valid := Vector.replicate 5 true
  versions := Vector.replicate 5 1
  levels := Vector.replicate 6 0
  channelStates := Vector.replicate 6 .off
  ecc := 0
  eccValid := false
  avg := Vector.replicate 16 0
  causes := [entry ⟨.stall, .none⟩]
  overflowCount := 0
  snapshots := [snapshot]

/-- TRIPPED by a stall, with the recorder in a state and the record in RAM. -/
def tripped (d : RecorderState) : State :=
  at_ .tripped { turning 0 loaded with
    trip := { loaded.trip with latch := true, tripLine := true, list := [entry ⟨.stall, .none⟩] }
    recorder := { Recorder.reset with state := d, ramRecord := some record } }

/-- TRIPPED, the recorder in POST. -/
def inPost : State :=
  { tripped .post with
    recorder := { Recorder.reset with
      state := .post, ring := [snapshot], preCount := 1, postTarget := 128, postTimer := .running 1000 } }

/-- The memory and the index of a store whose bank 0 holds record 7 in slot 0. -/
def storeOne : TripStore :=
  { idle.store with
    nextNumber := 8
    nv := idle.store.nv.set 0 { NvBank.erased with
      stamp := some 1
      slots := NvBank.erased.slots.set 0
        (.words ([0xA5C3, 0, 7] ++ List.replicate 44 0 ++ [0x5A3C])) }
    banks := idle.store.banks.set 0
      { state := .open, eraseCount := 1, validCount := 1,
        slots := idle.store.banks[0].slots.set 0 { state := .valid, number := some 7 }, marks := [] }
    current := 1 }

def withStore (t : TripStore) (s : State) : State := { s with store := t }

/-- Record 8 in flight into slot 0 of bank 1, which holds its header. -/
def programming (retry : Bool) : TripStore :=
  { storeOne with
    nv := storeOne.nv.set 1
      { storeOne.nv[1] with slots := storeOne.nv[1].slots.set 0 (.words [0xA5C3, 0, 8]) }
    activity := .programming
    busy := some 1
    nextNumber := 9
    program := some { bank := 1, slot := 0, number := 8, retry := retry }
    banks := storeOne.banks.set 1
      { state := .open, eraseCount := 1, validCount := 0,
        slots := idle.store.banks[1].slots.set 0 { state := .writing, number := some 8 }, marks := [] } }

/-- Bank 2 being erased. -/
def erasing : TripStore :=
  { storeOne with
    activity := .erasing
    busy := some 2
    nv := storeOne.nv.set 2 NvBank.erased
    banks := storeOne.banks.set 2 { storeOne.banks[2] with state := .erasing } }

/-- The store during the scan over that memory. -/
def scanning : TripStore := TripStore.afterReset storeOne.nv 0

/-- A filling buffer whose first bytes are given and all written. -/
def filled (t : TableId) (length : Nat) (bytes : List Byte) : Staging :=
  { table := t, version := 9, length := length, cells := (List.range bytes.length).zip bytes }

/-- The image of a table in the `loaded` state, as bytes. -/
def imageOf (t : TableId) : List Byte := (loaded.tab.image t).getD []

def withBuffers (a b : Option Staging) (s : State) : State :=
  { s with tab := { s.tab with buf0 := a, buf1 := b } }

def withLock (line : Bool) (s : State) : State :=
  { s with tab := { s.tab with locks := Vector.replicate 5 true, lockLine := line } }

def withLink (f : Link → Link) (s : State) : State := { s with link := f s.link }

def answer : Answer := { code := 1, tag := 1, answer := .ok, data := [] }

def vcmd (n : Int) : Vcmd := { seq := 3, vd := n, vq := n, block := false }

def feedback (speed temp : Int) (modState : Byte) : FeedbackFrame :=
  { seq := 4, id := 25, iq := 3100, speed := BitVec.ofInt 16 speed, dcLink := 2000,
    temp := BitVec.ofInt 16 temp, modState := modState, fault := 17 }

/-- A state property of the next state; false where there is none. -/
def after (c : Instr) (s : State) (p : State → Bool) : Bool :=
  match exec c s with
  | .next t => p t
  | .fault _ => false
  | .refused _ => false

/-- What the pending-answer slot holds after a request. -/
def answered (c : Instr) (s : State) : Option (AnswerCode × List Byte) :=
  match exec c s with
  | .next t => t.link.slot.map fun a => (a.answer, a.data)
  | .fault _ => none
  | .refused _ => none

/-- The kinds and flags of the records in the ring, oldest first. -/
def recorded (t : State) : List (EventKind × Nat) := t.log.ring.map fun e => (e.kind, e.flags.toNat)

/-! ### Well-formedness: each check refuses an ill-formed term -/

theorem test_request_of_30_arguments_is_ill_formed :
    (Instr.identify (req (List.replicate 30 0))).wellFormed = false
      ∧ (Instr.eventMark (req (List.replicate 30 0))).wellFormed = false
      ∧ (Instr.identify (req (List.replicate 29 0))).wellFormed = true := by decide

theorem test_unknown_code_that_names_a_request_is_ill_formed :
    (Instr.requestUnknownCode 19 (req [])).wellFormed = false
      ∧ (Instr.requestUnknownCode 0 (req [])).wellFormed = true
      ∧ (Instr.requestUnknownCode 20 (req [])).wellFormed = true
      ∧ (Instr.requestUnknownCode 20 (req (List.replicate 30 0))).wellFormed = false := by decide

/-- A POSITION frame that passes every check on H is refused on S. -/
theorem test_refused_frame_that_passes_is_ill_formed :
    (Instr.refusedFrame .H [0x87, 0x00, 0x01, 0x02, 0x80, 0x00, 0x11, 0x3D]).wellFormed = false
      ∧ (Instr.refusedFrame .S [0x87, 0x00, 0x01, 0x02, 0x80, 0x00, 0x11, 0x3D]).wellFormed = true := by
  decide +kernel

/-! ### Frames -/

/-- The check value the manual gives for the CRC (R178). -/
theorem test_crc_check_value :
    crc16 [0x31, 0x32, 0x33, 0x34, 0x35, 0x36, 0x37, 0x38, 0x39] = 0x29B1#16 := by decide +kernel

/-- A FEEDBACK frame of M1 written out byte by byte (spec 12.2); its CRC is worked outside the model. -/
theorem test_feedback_frame :
    decodeFrame .M1 [0x50, 0x00, 0x07, 0x0D, 0xFF, 0xFF, 0x0C, 0x1C, 0xFE, 0xD4, 0x07, 0xD0, 0x00, 0x3E,
        0x02, 0x00, 0x11, 0x1D, 0x59]
      = .feedback .B { seq := 7, id := 0xFFFF, iq := 3100, speed := 0xFED4, dcLink := 2000, temp := 62,
                       modState := 2, fault := 17 } := by decide +kernel

/-- A VIBSAMPLE frame of channel 5 (spec 12.2). -/
theorem test_vibsample_frame :
    decodeFrame .H [0x75, 0x00, 0x02, 0x10, 0x00, 0x01, 0x00, 0x02, 0x00, 0x03, 0x00, 0x04, 0x00, 0x05,
        0x00, 0x06, 0x00, 0x07, 0x80, 0x00, 0x11, 0x18]
      = .vibSample 5 2 #v[1, 2, 3, 4, 5, 6, 7, 0x8000] := by decide +kernel

/-- Every request code has its own row (spec 12.3). -/
theorem test_request_codes :
    requestCommand 1 (req []) = .identify (req []) ∧ requestCommand 3 (req []) = .restart (req [])
      ∧ requestCommand 6 (req []) = .tableCommit (req []) ∧ requestCommand 7 (req []) = .tableAbort (req [])
      ∧ requestCommand 12 (req []) = .tripRead (req []) ∧ requestCommand 19 (req []) = .vibRestart (req [])
      ∧ requestCommand 20 (req []) = .requestUnknownCode 20 (req []) := by decide

/-! ### The manual's worked figures -/

/-- Spec 0: (6552 × 3584) / 4096 is 5733; division truncates toward zero. -/
theorem test_division_truncates :
    limitInForce 6552 3584 none = 5733 ∧ (-7 : Int).tdiv 2 = -3 := by decide

/-- Spec 2.13: the falling segment at 2000, and the last point. -/
theorem test_limit_curve :
    curveAt limit.points 820 = (6552, 2048) ∧ curveAt limit.points 2000 = (5819, 1723)
      ∧ curveAt limit.points 4096 = (5120, 1024) := by decide

/-- Spec 2.13, "Forward limiting with both motors". -/
theorem test_setpoint_forward :
    after (.setpoint 1 1 0 6144 7)
      { running with lim := { running.lim with stack := { running.lim.stack with thermA := 3686 } } } (fun t =>
      t.lim.tCmd == 5733 && t.lim.shareA == 3009 && t.lim.shareB == 2724 && t.lim.iqRefA == 3310
        && t.lim.iqRefB == 2996 && t.lim.stack.lRev == 1792 && t.lim.stack.limiting
        && t.lim.stack.tightest == .vib
        && t.log.ring == [⟨.tlim, .none, t.log.ring.head?.elim 0 EventRecord.flags, 0, 6144, 5733⟩])
      = true := by decide +kernel

/-- Spec 2.13, "Reverse limiting and truncation of a negative share". -/
theorem test_setpoint_reverse :
    after (.setpoint 1 1 0 (BitVec.ofInt 16 (-3000)) 7) running (fun t =>
      t.lim.tCmd == -1792 && t.lim.shareA == -940 && t.lim.shareB == -852 && t.lim.iqRefA == -1034
        && t.lim.iqRefB == -937) = true := by decide +kernel

/-- Spec 2.13, overtorque: the torque sum and both allowances. -/
theorem test_allowance :
    motorTorque 5200 4506 + motorTorque 4900 4506 = 9180 ∧ allowance 9000 1200 800 true = 9800
      ∧ allowance 9000 1200 800 false = 9000 := by decide

/-- Spec 3.11: the q step, the d step, saturation, and the lowered limit. -/
theorem test_pi_axis :
    piAxis 3310 3100 1228800 6144 410 3800 = { v := 636, raw := 636, int := 1314900 }
      ∧ piAxis 0 25 (-40960) 4096 205 2000 = { v := -36, raw := -36, int := -46085 }
      ∧ piAxis 4000 0 1228800 6144 410 3800 = { v := 3800, raw := 6700, int := 1228800 }
      ∧ piAxis 100 0 14000000 5120 300 3000 = { v := 3000, raw := 3125, int := 12288000 } := by decide

/-- Spec 3.11, "A stack heating and cooling". -/
theorem test_thermal_derate :
    thermalDerate 55 60 80 = 4096 ∧ thermalDerate 62 60 80 = 3686 ∧ thermalDerate 75 60 80 = 1024
      ∧ thermalDerate 80 60 80 = 0 ∧ thermalDerate 70 60 80 = 2048 := by decide

/-- R75: the integer square roots the manual gives. -/
theorem test_integer_square_root :
    isqrt 160000 = 400 ∧ isqrt 425000 = 651 ∧ isqrt 1073741824 = 32768 := by decide

/-! ### Steps -/

/-- R53, R54: OVERTEMP at THERM_END, value 80, and the trip latched (spec 3.11, arrival 4). -/
theorem test_feedback_overtemp :
    after (.feedback .A (feedback 820 80 2)) running (fun t =>
      t.trip.list.map (fun e => (e.id, e.value)) == [(⟨.overtemp, .motor .A⟩, 80)]
        && t.run.state == .tripped && t.regA.therm == 0) = true := by decide +kernel

/-- R58, R61: one VCMD with vd −36 and vq 636 (spec 3.11), under the arrival's sequence. -/
theorem test_feedback_answers :
    after (.feedback .A (feedback 820 55 2)) { running with
        lim := { running.lim with iqRefA := 3310 }
        regA := { running.regA with intD := -40960, intQ := 1228800 } } (fun t =>
      t.link.m0Tx.sending == some (0, { seq := 4, vd := -36, vq := 636, block := false })) = true := by
  decide +kernel

/-- Spec 4: the sixteenth frame of magnitude 400 gives level 400 and ALERT, and the phase SKIP. -/
theorem test_vib_window :
    after (.vibSample 2 5 (Vector.replicate 8 (BitVec.ofInt 16 (-400)))) { running with
        vib := { running.vib with
          channels := running.vib.channels.set 2
            { Channel.reset with state := .normal, acc := 19200000, frames := 15 } } } (fun t =>
      t.vib.channels[2].lastLevel == 400 && t.vib.channels[2].state == .alert
        && t.vib.channels[2].phase == .skip && t.vib.channels[2].frames == 0
        && t.lim.stack.vibDerate == 3584) = true := by decide +kernel

/-- Spec 5: sector averages 4700 and 3900 give ECC 800 and the ring alert at 700. -/
theorem test_position_revolution :
    after (.position 5 310) { running with
        load := { running.load with
          refPresent := true, lastAngle := 65500,
          acc := (Vector.replicate 16 (4000 * 3750)).set 0 17627100 |>.set 7 14628749,
          cnt := Vector.replicate 16 3750 } } (fun t =>
      t.load.ecc == 800 && t.load.eccValid && t.load.ringAlert && t.load.lastAngle == 310
        && t.load.avg[0] == 4700 && t.load.avg[7] == 3900 && t.log.alertLine) = true := by decide +kernel

/-- R15, R8: RUN needs the run edge; STOP sets it. -/
theorem test_setpoint_modes :
    after (.setpoint 1 1 0 0 0) ready (fun t => t.run.state == .breakaway && t.run.attempts == 1) = true
      ∧ after (.setpoint 1 1 0 0 0) { ready with run := { ready.run with runEdge := false } }
          (fun t => t.run.state == .ready) = true := by decide +kernel

/-- R13: BREAKAWAY_FAIL after the last attempt, RESTING before it (BRK_RETRIES 2). -/
theorem test_brk_time :
    after .brkTimeExpiry breaking (fun t => t.run.state == .resting) = true
      ∧ after .brkTimeExpiry { breaking with run := { breaking.run with attempts := 2 } }
          (fun t => t.run.state == .tripped) = true := by decide +kernel

/-- R14: the second attempt. -/
theorem test_brk_rest :
    after .brkRestExpiry resting (fun t => t.run.state == .breakaway && t.run.attempts == 2) = true := by
  decide +kernel

/-- R17: the stop ends in READY. -/
theorem test_stop_time :
    after .stopTimeExpiry stopping (fun t => t.run.state == .ready) = true := by decide +kernel

/-- R43: the third miss is SUP_LOST (SP_LOSS_LIMIT 3). -/
theorem test_setpoint_timer :
    after .setpointTimerExpiry { running with
        lim := { running.lim with spTimer := .running 100, missCount := 2 } }
      (fun t => t.lim.supLost && t.run.state == .tripped) = true := by decide +kernel

/-- R65, R66: the second miss is FB_LOST (FB_LOSS_LIMIT 2). -/
theorem test_feedback_timer :
    after (.feedbackTimerExpiry .B) { running with
        regB := { running.regB with fbTimer := .running 500, missCount := 1 } }
      (fun t => t.regB.fbLost && t.trip.active == [⟨.fbLost, .motor .B⟩]) = true := by decide +kernel

/-- R100: the EXT_TRIP of a setpoint. -/
theorem test_ext_trip :
    after (.setpoint 1 1 1 0 0) running (fun t => t.trip.tripLine && t.recorder.state == .post) = true := by
  decide +kernel

/-- R107: the refusals name what stands in the way. -/
theorem test_trip_reset_refused :
    answered (.tripReset (req [])) running = some (.notTripped, [])
      ∧ answered (.tripReset (req [])) (tripped .writing) = some (.recording, [3]) := by decide +kernel

/-- R108: a reset once the record is DONE. -/
theorem test_trip_reset_accepted :
    answered (.tripReset (req [])) (tripped .done) = some (.ok, [1, 0])
      ∧ after (.tripReset (req [])) (tripped .done) (fun t => t.run.state == .ready) = true := by
  decide +kernel

/-- R185. -/
theorem test_identify :
    answered (.identify (req [])) idle = some (.ok, [0x00, 0x56, 0x0D, 0x42, 0x00, 0x01, 1, 1, 1, 1, 1, 4, 8, 0x08, 0x70]) := by
  decide +kernel

/-- R184: a wrong number of argument bytes. -/
theorem test_bad_request :
    answered (.identify (req [0])) idle = some (.badRequest, [])
      ∧ answered (.requestUnknownCode 77 (req [])) idle = some (.badRequest, []) := by decide +kernel

/-- R187: RESTART in RUN. -/
theorem test_restart_refused :
    answered (.restart (req [])) running = some (.running, []) := by decide +kernel

/-- R166: buffer 0, then IN_USE naming it. -/
theorem test_table_open :
    answered (.tableOpen (req [4, 0, 9, 0, 46])) idle = some (.ok, [0])
      ∧ answered (.tableOpen (req [4, 0, 9, 0, 46])) (withBuffers (some (filled .event 46 [])) none idle)
          = some (.inUse, [0]) := by decide +kernel

/-- R167: three bytes at position 0 of buffer 0 stand at 6 to 8. -/
theorem test_table_write :
    answered (.tableWrite (req [0, 1, 2, 3])) (withBuffers (some (filled .event 46 [0, 4, 0, 9, 0, 46])) none idle)
      = some (.ok, [0, 9, 0, 8]) := by decide +kernel

/-- R170, R171: an image with a fill threshold of 0 is adjusted in one field and becomes active. -/
theorem test_table_commit :
    answered (.tableCommit (req [0])) (withBuffers
        (some (filled .event 46 ((imageOf .event).set 40 0 |>.set 41 0))) none idle)
      = some (.adjusted, [0, 1])
    ∧ after (.tableCommit (req [0])) (withBuffers
        (some (filled .event 46 ((imageOf .event).set 40 0 |>.set 41 0))) none idle)
        (fun t => t.tab.event.table.fillThreshold == 1 && t.tab.event.version == 9) = true := by decide +kernel

/-- R173: the default EVENT image begins with table 4, version 0, length 46. -/
theorem test_table_read :
    (answered (.tableRead (req [4, 0])) idle).map (fun a => a.2.take 10)
      = some [0, 4, 0, 0, 0, 46, 0, 0, 0, 63] := by decide +kernel

/-- R174. -/
theorem test_locks :
    answered (.lockSet (req [5])) idle = some (.ok, [0x10, 0])
      ∧ answered (.lockClear (req [5])) (withLock true idle) = some (.locked, [0x1F, 1]) := by decide +kernel

/-- R144: record 7 read from its slot, offset 1 of an aligned group of 8. -/
theorem test_trip_read :
    answered (.tripRead (req [0, 0, 0, 7, 0, 1, 8])) (withStore storeOne idle)
      = some (.ok, [0, 0, 0, 7, 0, 0, 0, 0, 0, 0, 0, 0, 0, 0, 0xA5, 0xC3]) := by decide +kernel

/-- R147, R145, R146 during the scan. -/
theorem test_store_scanning :
    answered (.storeTrim (req [])) (withStore scanning idle) = some (.scanning, [])
      ∧ answered (.storeEraseAll (req [])) idle = some (.ok, [0])
      ∧ answered (.storeBlankCheck (req [1])) idle = some (.accepted, []) := by decide +kernel

/-- R130, R131: record 7 is found, and the next number is 8. -/
theorem test_scan_end :
    after .scanEnd (withStore scanning idle) (fun t =>
      t.store.banks[0].slots[0] == { state := .valid, number := some 7 } && t.store.nextNumber == 8
        && t.store.banks[1].state == .blank && t.store.activity == .idle) = true := by decide +kernel

/-- R137, R138. -/
theorem test_program_completion :
    after (.programCompletion true) (withStore (programming false) (tripped .writing)) (fun t =>
      t.store.banks[1].slots[0] == { state := .valid, number := some 8 } && t.recorder.state == .done
        && t.store.nv[1].slots[0].word 0 == 0xA5C3 && t.store.nv[1].slots[0].word 47 == 0x5A3C
        && t.store.nv[1].slots[0].word 2 == 8) = true := by decide +kernel

/-- Record 8 in flight into a slot whose first snapshot word, at offset 112, read 0 already. -/
def overZeros (retry : Bool) : TripStore :=
  let t := programming retry
  { t with nv := t.nv.set 1 { t.nv[1] with
      slots := t.nv[1].slots.set 0 ((NvSlot.words [0xA5C3, 0, 8]).program (List.replicate 112 0xFFFF ++ [0])) } }

/-- R127, R137: programming does not turn a bit from 0 to 1, and a slot that cannot read as the record fails. -/
theorem test_program_keeps_zeros :
    ((NvSlot.words [0xFFFF, 0x00F0]).program [0xA5C3, 0x0FFF]).word 0 = 0xA5C3
      ∧ ((NvSlot.words [0xFFFF, 0x00F0]).program [0xA5C3, 0x0FFF]).word 1 = 0x00F0
      ∧ after (.programCompletion true)
          (withStore (overZeros true) (tripped .writing))
          (fun t => t.store.banks[1].slots[0] == { state := .void, number := some 8 } && t.store.programFail) = true := by
  decide +kernel

/-- R142. -/
theorem test_erase_completion :
    after (.eraseCompletion true) (withStore erasing idle) (fun t =>
      t.store.banks[2].state == .blank && t.store.nv[2].stamp == some 2) = true
      ∧ after (.eraseCompletion false) (withStore erasing idle) (fun t =>
          t.store.banks[2].state == .retired && t.store.eraseFail) = true := by decide +kernel

/-- R183: an answer's end frees the slot. -/
theorem test_transmission_end :
    after .transmissionEnd (withLink (fun l => { l with sTx := .answer 0 answer, slot := some answer }) idle)
      (fun t => t.link.slot == none && t.link.sTx == .idle) = true := by decide

/-- R177: the waiting VCMD follows. -/
theorem test_vcmd_transmission_end :
    after (.vcmdTransmissionEnd .A)
      (withLink (fun l => { l with m0Tx := { sending := some (0, vcmd 1), waiting := [vcmd 2] }, outM0 := 1 }) idle)
      (fun t => t.link.m0Tx == { sending := some (1, vcmd 2), waiting := [] } && t.link.outM0 == 2) = true := by
  decide

/-- R156, R157: a mark goes in and is read back. -/
theorem test_event_mark :
    answered (.eventMark (req [3, 0, 0, 0, 1, 0, 0, 0, 2])) idle = some (.ok, [1, 1, 0, 0])
      ∧ answered (.eventMark (req [16, 0, 0, 0, 1, 0, 0, 0, 2])) idle = some (.badRequest, []) := by
  decide +kernel

/-- R83: the restarted channel is SILENT and its factor counts. -/
theorem test_vib_restart :
    answered (.vibRestart (req [2])) running = some (.ok, [1, 0x0E, 0x00]) := by decide +kernel

/-- R175, R188. -/
theorem test_lines :
    after (.lockLineChange true) idle (fun t => t.tab.lockLine) = true
      ∧ after .hardwareReset (withStore storeOne running) (fun t =>
          t.store.nv == storeOne.nv && t.store.activity == .scanning && t.tab.drive == none) = true := by
  decide +kernel

/-- Nothing is decoded from a table word, and an empty queue idles. -/
theorem test_step :
    decodeTableWord 8 0 = none ∧ step State.reset = .next State.reset
      ∧ step idle = .next { idle with tab := { idle.tab with lockLine := true }, pending := [] }
      ∧ idle.withFetchWord 8 0 = idle := ⟨rfl, rfl, rfl, rfl⟩

/-! ### States and operands that meet the statements' hypotheses

One theorem for each statement that has hypotheses, named after it; each clause at a value where it begins or
ends. -/

theorem running_runTrip : RunTripLaw running := by
  constructor <;> (try unfold Timer.runs) <;> decide

theorem inPost_runTrip : RunTripLaw inPost := by
  constructor <;> (try unfold Timer.runs) <;> decide

theorem running_torque : TorqueLaw running where
  still := by decide
  shared := by decide
  iqMax := by intro d h; cases h; decide

theorem running_conditions : ConditionLaw running where
  set := by decide
  danger := by decide
  outside := by intro m h; cases m <;> exact absurd h (by decide)

theorem running_watch : WatchLaw running where
  derate := by decide
  delivered := by decide
  off := by decide
  silence := by unfold Timer.runs; decide

theorem idle_log : LogLaw idle where
  size := by decide
  counters := by decide
  missed := by decide
  judged := by decide
  level := by decide
  pulse := by intro h; exact absurd h (by decide)

theorem inPost_recorder : RecorderLaw inPost where
  latched := by decide
  limit := by unfold Timer.runs; decide
  ram := by decide
  size := by decide
  post := by decide
  frozen := by decide
  writing := by decide
  one := by decide
  flight := by decide
  preCount := by intro d h; cases h; decide

theorem programming_store : StoreLaw (programming false) where
  flight := by decide
  slot := by intro p h; cases h; decide
  only := by
    intro b k h
    have : b = 1 ∧ k = 0 := by revert b k; decide
    exact ⟨_, rfl, this.1.symm, this.2.symm⟩
  erasing := by decide
  bank := by decide
  still := by decide
  suspended := by decide
  single := by decide +kernel
  queue := by decide
  derived := by decide
  valid := by decide

theorem programming_number : NumberLaw (programming false) where
  store := programming_store
  stored := by decide
  live := by decide
  below := by
    intro _ n h
    rw [show (programming false).liveNumbers = [7, 8] by decide +kernel] at h
    rcases List.mem_cons.mp h with rfl | h
    · exact .inr (by decide)
    · obtain rfl := List.mem_singleton.mp h
      exact .inr (by decide)
  held := by decide +kernel
  blank := by decide +kernel
  header := by intro p h; cases h; decide +kernel
  unstamped := by decide
  retry := by intro n h; cases h

theorem idle_link : LinkLaw idle.link where
  sending := by intro q a h; cases h
  waiting := by decide
  m0 := by decide
  m1 := by decide
  errors := by decide
  gaps := by decide
  skipped := by decide

/-- A filling buffer that holds its header. -/
theorem filled_staging : StagingLaw (filled .event 46 [0, 4, 0, 9, 0, 46]) where
  length := by decide
  canonical := by decide
  inside := by decide
  header := by decide +kernel

theorem filling_tables : TableLaw (withBuffers (some (filled .event 46 [0, 4, 0, 9, 0, 46])) none idle).tab where
  active := by
    intro t image h
    cases t <;> cases h
    exact ⟨by decide +kernel, EventTable.default.toFields, by decide +kernel⟩
  staging := by
    intro n b h
    cases n
    · obtain rfl := Option.some.inj h; exact filled_staging
    · cases h
  once := by intro a b _ h; cases h

theorem witness_StepKeepsRunTripLaw : ∃ t, RunTripLaw inPost ∧ step inPost = .next t :=
  ⟨_, inPost_runTrip, rfl⟩

theorem witness_StepKeepsTorqueLaw : ∃ t, TorqueLaw running ∧ step running = .next t :=
  ⟨_, running_torque, rfl⟩

theorem witness_StepKeepsIntegratorLaw :
    ∃ t, RunTripLaw running ∧ IntegratorLaw running ∧ step running = .next t :=
  ⟨_, running_runTrip, by intro m _; cases m <;> decide, rfl⟩

theorem witness_StepKeepsConditionLaw : ∃ t, ConditionLaw running ∧ step running = .next t :=
  ⟨_, running_conditions, rfl⟩

theorem witness_StepKeepsWatchLaw : ∃ t, WatchLaw running ∧ step running = .next t :=
  ⟨_, running_watch, rfl⟩

theorem witness_StepKeepsLogLaw : ∃ t, LogLaw idle ∧ step idle = .next t :=
  ⟨_, idle_log, rfl⟩

/-- The recorder in POST over tables of which one is FILLING. -/
def postFilling : State :=
  { inPost with tab := (withBuffers (some (filled .event 46 [0, 4, 0, 9, 0, 46])) none idle).tab }

theorem witness_StepKeepsRecorderLaw :
    ∃ t, TableLaw postFilling.tab ∧ RecorderLaw postFilling ∧ step postFilling = .next t :=
  ⟨_, filling_tables, { inPost_recorder with preCount := by intro d h; cases h }, rfl⟩

theorem witness_StepKeepsStoreLaw :
    ∃ s t, s.store = programming false ∧ StoreLaw s.store ∧ step s = .next t :=
  ⟨withStore (programming false) idle, _, rfl, programming_store, rfl⟩

theorem witness_StepKeepsNumberLaw :
    ∃ s t, s.store = programming false ∧ NumberLaw s.store ∧ step s = .next t :=
  ⟨withStore (programming false) idle, _, rfl, programming_number, rfl⟩

theorem witness_StepKeepsTableLaw :
    ∃ s t, s.tab.buf0.isSome = true ∧ TableLaw s.tab ∧ step s = .next t :=
  ⟨withBuffers (some (filled .event 46 [0, 4, 0, 9, 0, 46])) none idle, _, rfl, filling_tables, rfl⟩

theorem witness_StepKeepsLinkLaw : ∃ t, LinkLaw idle.link ∧ step idle = .next t :=
  ⟨_, idle_link, rfl⟩

/-- One well-formed arrival of every kind; a request of 29 argument bytes. -/
theorem witness_BuiltFramesDecodeToTheirCommand :
    (arrivalCommand (.setpoint 0xFFF 1 0xFF 0x8000 0)).wellFormed = true
      ∧ (arrivalCommand (.request 5 (req (List.replicate 29 0xFF)))).wellFormed = true
      ∧ (arrivalCommand (.request 0 (req []))).wellFormed = true
      ∧ (arrivalCommand (.feedback .B (feedback 0 0 0))).wellFormed = true
      ∧ (arrivalCommand (.vibSample 5 0 (Vector.replicate 8 0))).wellFormed = true
      ∧ (arrivalCommand (.position 0 0xFFFF)).wellFormed = true := by decide

/-- No reference, the sequence before it (over the wrap), and the widest gap. -/
theorem witness_AcceptedFramesAreSequenced :
    idle.link.ref .H 7 = none
      ∧ (withLink (fun l => l.setRef .H 7 0xFFF) idle).link.ref .H 7 = some (0 - 1 : Seq)
      ∧ ∃ old, (withLink (fun l => l.setRef .S 0 5) idle).link.ref .S 0 = some old ∧ (5 : Seq) - old - 1 ≠ 0 :=
  ⟨rfl, by decide, 5, by decide, by decide⟩

/-- A frame refused for each reason: no room for a header, a length of kind 8, an unknown kind, channel 6. -/
theorem witness_RefusedFrameIsCountedAndRaised :
    checkFrame .S [] = some .crc
      ∧ checkFrame .H (buildFrame 8 7 0 [0]) = some .length
      ∧ checkFrame .H (buildFrame 9 7 0 [0]) = some .kind
      ∧ checkFrame .M0 (buildFrame 8 7 0 [0, 0]) = some .kind
      ∧ checkFrame .H (buildFrame 8 6 0 [0, 0]) = some .channel := by decide +kernel

/-- A counter at 1, a counter at 0 with room for one record, and a full ring in each mode. -/
def ringOf (n : Nat) (mode : RingMode) : State :=
  { idle with
    log := { idle.log with ring := List.replicate n ⟨.mark, .none, 0, 0, 0, 0⟩ }
    tab := { idle.tab with event := { idle.tab.event with table := { EventTable.default with ringMode := mode } } } }

theorem witness_OccurrencesPassTheirCounter :
    ({ idle with log := { idle.log with counters := idle.log.counters.set 1 1 } } : State).log.counters[EventKind.tlim.index]
        = 0 + 1
      ∧ ((ringOf 127 .wrap).log.counters[EventKind.tlim.index] = 0 ∧ (ringOf 127 .wrap).log.ring.length < 128)
      ∧ ((ringOf 128 .wrap).log.counters[EventKind.tlim.index] = 0 ∧ 128 ≤ (ringOf 128 .wrap).log.ring.length)
      ∧ ((ringOf 128 .hold).log.counters[EventKind.tlim.index] = 0 ∧ 128 ≤ (ringOf 128 .hold).log.ring.length) := by
  decide +kernel

theorem witness_EventRequestsReadAndMark :
    (idle.link.slot = none ∧ (req []).args = [])
      ∧ (idle.link.slot = none ∧ (req [15, 0, 0, 0, 1, 0, 0, 0, 2]).args = [15, 0, 0, 0, 1, 0, 0, 0, 2]
          ∧ (15 : Byte).toNat ≤ 15 ∧ 15 < (16 : Byte).toNat) := by decide

theorem witness_PulseExpiryReleasesTheLine :
    ({ idle with log := { idle.log with pulseTimer := .running 100 } } : State).log.pulseTimer = .running 100 := rfl

/-- A free slot with an idle transmitter, and with a report being sent. -/
def reporting : State :=
  withLink (fun l => { l with
    sTx := .report 0 (reportOf idle) }) idle

theorem witness_RequestIsAnsweredOnce :
    (idle.link.slot = none ∧ idle.link.sTx = .idle)
      ∧ (reporting.link.slot = none ∧ reporting.link.sTx ≠ .idle) := by decide

theorem witness_RequestDuringPendingAnswerIsDiscarded :
    ∃ a, (withLink (fun l => { l with sTx := .answer 0 answer, slot := some answer }) idle).link.slot = some a :=
  ⟨answer, rfl⟩

/-- One argument byte too many and too few; the first value out of range; the codes beside the named ones. -/
theorem witness_BadRequestsChangeNothing :
    (idle.link.slot = none ∧ argumentCount 1 [0].length = false ∧ argumentCount 5 [0].length = false)
      ∧ (idle.link.slot = none ∧ argumentOutOfRange 6 [2] = true ∧ argumentOutOfRange 8 [6, 0] = true
          ∧ argumentOutOfRange 19 [6] = true ∧ argumentOutOfRange 15 [4] = true
          ∧ argumentOutOfRange 12 [0, 0, 0, 0, 0x08, 0x70, 8] = true)
      ∧ (idle.link.slot = none ∧ (0 : Byte).toNat = 0 ∧ 19 < (20 : Byte).toNat)
      ∧ (idle.tab.buffer false = none ∧ idle.tab.buffer true = none) := by decide

theorem witness_IdentifyAndStatusClearAnswer : idle.link.slot = none ∧ (req []).args = [] := by decide

/-- Accepted from TRIPPED, and from OFF where READY does not follow; the three refusals. -/
theorem witness_RestartReturnsToTheStart :
    (idle.link.slot = none ∧ energised idle = false ∧ idle.recorder.state = .armed ∧ idle.run.state = .off
        ∧ after (.restart (req [])) idle (fun t => !readyConditions t) = true
        ∧ (eventTable idle).intervals[10] = 0 ∧ (tripped .done).run.state ≠ .off)
      ∧ ((tripped .done).link.slot = none ∧ (req []).args = [] ∧ energised (tripped .done) = false
        ∧ (tripped .done).recorder.state ≠ .frozen ∧ (tripped .done).recorder.state ≠ .writing)
      ∧ (running.link.slot = none ∧ energised running = true)
      ∧ (energised (tripped .frozen) = false ∧ (tripped .frozen).recorder.state = .frozen)
      ∧ (energised (tripped .writing) = false ∧ (tripped .writing).recorder.state = .writing) := by
  decide +kernel

/-- A report with an answer waiting and without, an answer, and VCMDs with one waiting and none. -/
theorem witness_TransmissionEndsFreeOrFollow :
    (∃ q a, (withLink (fun l => { l with sTx := .answer 0 answer, slot := some answer }) idle).link.sTx = .answer q a)
      ∧ (∃ q x, reporting.link.sTx = .report q x ∧ reporting.link.slot = none
          ∧ (withLink (fun l => { l with slot := some answer }) reporting).link.slot = some answer)
      ∧ (∃ x w rest, (withLink (fun l => { l with m1Tx := { sending := some (0, vcmd 1), waiting := [vcmd 2] } }) idle).link.m1Tx
          = { sending := some x, waiting := w :: rest })
      ∧ (∃ x, (withLink (fun l => { l with m0Tx := { sending := some (0, vcmd 1), waiting := [] } }) idle).link.m0Tx
          = { sending := some x, waiting := [] }) :=
  ⟨⟨_, _, rfl⟩, ⟨_, _, rfl, rfl, rfl⟩, ⟨_, _, _, rfl⟩, ⟨_, rfl⟩⟩

theorem witness_LocksFollowTheLine :
    (idle.link.slot = none ∧ TableId.ofByte 1 = some .gain ∧ idle.tab.lockLine = false)
      ∧ ((withLock true idle).link.slot = none ∧ TableId.ofByte 5 = some .drive
          ∧ (withLock true idle).tab.lockLine = true) := by decide

/-- The default EVENT image, all 46 bytes written. -/
def eventBuffer : Staging := filled .event 46 (imageOf .event)

def driveBuffer : Staging := filled .drive 66 (imageOf .drive)

def vibBuffer : Staging := filled .vib 132 (imageOf .vib)

/-- Both buffers free, buffer 0 taken, IN_USE in either, neither free; the shortest and longest LIMIT image. -/
theorem witness_TableOpenTakesAFreeBuffer :
    (idle.link.slot = none ∧ TableId.ofByte 2 = some .limit ∧ lengthOk .limit (be16 0 20).toNat = true
        ∧ lengthOk .limit (be16 0 104).toNat = true ∧ idle.tab.buf0 = none ∧ idle.tab.buf1 = none)
      ∧ ((withBuffers (some eventBuffer) none idle).tab.buf0 = some eventBuffer ∧ eventBuffer.table ≠ .limit
          ∧ (withBuffers (some eventBuffer) none idle).tab.buf1 = none)
      ∧ ((withBuffers (some eventBuffer) none idle).tab.buf0 = some eventBuffer ∧ eventBuffer.table = .event
          ∧ TableId.ofByte 4 = some .event ∧ lengthOk .event (be16 0 46).toNat = true)
      ∧ ((withBuffers none (some eventBuffer) idle).tab.buf1 = some eventBuffer ∧ eventBuffer.table = .event
          ∧ (withBuffers none (some eventBuffer) idle).tab.buf0 = none)
      ∧ ((withBuffers (some driveBuffer) (some eventBuffer) idle).tab.buf0 = some driveBuffer
          ∧ (withBuffers (some driveBuffer) (some eventBuffer) idle).tab.buf1 = some eventBuffer
          ∧ driveBuffer.table ≠ .limit ∧ eventBuffer.table ≠ .limit) := by decide +kernel

/-- A write that ends on the last byte, and one that ends beyond it, in either buffer. -/
theorem witness_TableWriteStoresItsBytesAlone :
    ((withBuffers (some eventBuffer) none idle).tab.buffer (decide (128 ≤ (39 : Byte).toNat)) = some eventBuffer
        ∧ (39 % 128 + 6) + [(0 : Byte)].length ≤ eventBuffer.length)
      ∧ ((withBuffers none (some eventBuffer) idle).tab.buffer (decide (128 ≤ (168 : Byte).toNat)) = some eventBuffer
        ∧ eventBuffer.length < (168 % 128 + 6) + [(0 : Byte)].length) := by decide +kernel

theorem witness_TableAbortFreesTheBuffer :
    1 < (2 : Byte).toNat ∧ idle.tab.buffer false = none
      ∧ (1 : Byte) = (if true then 1 else 0)
      ∧ (withBuffers none (some eventBuffer) idle).tab.buffer true = some eventBuffer := by decide +kernel

/-- The last position unwritten; locked; a DRIVE table while running; a GAIN image whose first speed is 0. -/
theorem witness_TableCommitIsRefusedInOrder :
    (45 < 46 ∧ Cells.read (filled .event 46 ((imageOf .event).take 45)).cells 45 = none
        ∧ ∀ i < 45, Cells.read (filled .event 46 ((imageOf .event).take 45)).cells i ≠ none)
      ∧ ((∀ i < eventBuffer.length, Cells.read eventBuffer.cells i ≠ none)
        ∧ (withLock true idle).tab.locks[eventBuffer.table.index] = true ∧ (withLock true idle).tab.lockLine = true)
      ∧ ((∀ i < driveBuffer.length, Cells.read driveBuffer.cells i ≠ none)
        ∧ running.tab.lockLine = false ∧ driveBuffer.table = .drive ∧ energised running = true)
      ∧ ((∀ i < 134, Cells.read (filled .gain 134 (List.replicate 134 0)).cells i ≠ none)
        ∧ idle.tab.lockLine = false
        ∧ validate .gain 134 (filled .gain 134 (List.replicate 134 0)).image = .bad 0) := by decide +kernel

/-- An image is accepted, with fields of a property. -/
def accepts (t : TableId) (image : List Byte) (p : List Int → Bool) : Bool :=
  match validate t image.length image with
  | .good f _ => p f
  | .bad _ => false

/-- The owners' clauses: GAIN in OFF and READY; a DRIVE image of motor set A in TRIPPED, with fewer retries than
attempts; EVENT images of both modes, before which the mode is LEVEL and PULSE, with the condition holding. -/
theorem witness_TableCommitReplacesTheImage_owners :
    (accepts .gain (imageOf .gain) (fun _ => true) = true ∧ idle.run.state = .off ∧ ready.run.state = .ready)
      ∧ (accepts .drive (((imageOf .drive).set 7 1).set 25 1)
            (fun f => !(DriveTable.ofFields f).motorSet.has .B && (DriveTable.ofFields f).brkRetries == 1) = true
          ∧ (tripped .done).run.state = .tripped ∧ energised (tripped .done) = false)
      ∧ (accepts .event (imageOf .event) (fun f => (EventTable.ofFields f).alertMode == .level) = true
          ∧ accepts .event ((imageOf .event).set 43 1) (fun f => (EventTable.ofFields f).alertMode == .pulse) = true
          ∧ (eventTable idle).alertMode = .level
          ∧ alertInputs (tripped .done) = true ∧ (tripped .done).log.alertCond = false) := by decide +kernel

/-- An image taken as it stands, and one with a field adjusted. -/
theorem witness_TableCommitReplacesTheImage :
    ∃ f g, (∀ i < eventBuffer.length, Cells.read eventBuffer.cells i ≠ none) ∧ idle.tab.lockLine = false
      ∧ eventBuffer.table ≠ .drive ∧ energised idle = false
      ∧ validate .event 46 eventBuffer.image = .good f 0
      ∧ validate .event 46 (filled .event 46 ((imageOf .event).set 40 0 |>.set 41 0)).image = .good g 1 :=
  ⟨EventTable.default.toFields, EventTable.default.toFields.set 17 1, by decide +kernel, rfl, by decide,
    by decide, by decide +kernel, by decide +kernel⟩

theorem witness_AcceptedImageRevalidatesUnchanged :
    ∃ f, lengthOk .event (imageOf .event).length = true
      ∧ validate .event (imageOf .event).length (imageOf .event) = .good f 0 :=
  ⟨EventTable.default.toFields, by decide +kernel, by decide +kernel⟩

/-- No image; an image read from its last byte and from its end. -/
theorem witness_TableReadReturnsTheImage :
    ((0 : Byte).toNat = 0 ∧ 5 < (6 : Byte).toNat)
      ∧ ((5 : Byte).toNat = TableId.drive.code ∧ idle.tab.image .drive = none)
      ∧ (∃ image, loaded.tab.image .drive = some image ∧ image.length ≤ (66 : Byte).toNat
          ∧ (65 : Byte).toNat < image.length) :=
  ⟨by decide, by decide, imageOf .drive, by decide +kernel, by decide +kernel, by decide +kernel⟩

theorem witness_VibCommitRestartsEveryChannel :
    ConditionLaw (withBuffers (some vibBuffer) none running)
      ∧ ∃ f k, (∀ i < vibBuffer.length, Cells.read vibBuffer.cells i ≠ none)
        ∧ running.tab.lockLine = false ∧ validate .vib 132 vibBuffer.image = .good f k :=
  ⟨{ set := by decide, danger := by decide, outside := by intro m h; cases m <;> exact absurd h (by decide) },
    vib.toFields, 0, by decide +kernel, rfl, by decide +kernel⟩

/-- A commit over a valid ECC at RING_ALERT sets the ring alert and keeps sums, reference and a running timer; the
records are VIB_STATE of channel 2, RING_STATE and TABLE, in that order. -/
theorem witness_VibCommitRestartsEveryChannel_shell :
    after (.tableCommit (req [0]))
        { withBuffers (some vibBuffer) none running with
          vib := { running.vib with channels := running.vib.channels.set 2 { Channel.reset with state := .normal } }
          load := { running.load with
            ecc := 700, eccValid := true, refPresent := true, posTimer := .running 77, cnt := Vector.replicate 16 3 } }
        (fun t => t.load.ringAlert && t.load.refPresent && t.load.posTimer == .running 77
          && t.load.cnt == Vector.replicate 16 3
          && recorded t == [(.vibState, 3), (.ringState, 2), (.table, 0)]) = true := by decide +kernel

/-- A GAIN commit that makes the drive ready: DRIVE_STATE CONDITIONS, then TABLE; a LIMIT image is accepted too. -/
theorem witness_TableCommitReplacesTheImage_records :
    after (.tableCommit (req [0]))
        (withBuffers (some (filled .gain (imageOf .gain).length (imageOf .gain))) none (at_ .off ready))
        (fun t => t.run.state == .ready && recorded t == [(.driveState, 0), (.table, 0)]) = true
      ∧ accepts .limit (imageOf .limit) (fun _ => true) = true := by decide +kernel

/-- An entry list of eight causes. -/
def eight : List CauseEntry :=
  [entry ⟨.stall, .none⟩, entry ⟨.overtemp, .motor .A⟩, entry ⟨.modFault, .motor .A⟩,
   entry ⟨.vibDanger, .channel 0⟩, entry ⟨.vibDanger, .channel 1⟩, entry ⟨.vibDanger, .channel 2⟩,
   entry ⟨.vibDanger, .channel 3⟩, entry ⟨.vibDanger, .channel 4⟩]

def full (overflow : List CauseId) : State :=
  { tripped .done with
    trip := { (tripped .done).trip with
      list := eight, overflowSet := overflow, overflowCount := overflow.length } }

/-- The first cause while ARMED and running; a listed cause; a new one at seven and at eight entries, outside
and inside the overflow set. -/
theorem witness_CausesLatchAndAreListedOnce :
    (running.trip.latch = false ∧ 0 ≤ (driveFieldsOf running).iqMax ∧ energised running = true
        ∧ running.recorder.state = .armed)
      ∧ recorded (deliverCause { own := none, inSetpoint := false } ⟨.stall, .none⟩ 3 breaking)
          = [(.driveState, 10), (.brkEnd, 0), (.trip, 0)]
      ∧ ((full []).trip.latch = true ∧ ∃ e ∈ (full []).trip.list, e.id = ⟨.stall, .none⟩)
      ∧ ((tripped .done).trip.latch = true ∧ (tripped .done).trip.list.length < 8
          ∧ ¬∃ e ∈ (tripped .done).trip.list, e.id = ⟨.extTrip, .none⟩)
      ∧ (¬(∃ e ∈ (full []).trip.list, e.id = ⟨.extTrip, .none⟩) ∧ 8 ≤ (full []).trip.list.length
          ∧ ⟨.extTrip, .none⟩ ∉ (full []).trip.overflowSet)
      ∧ (8 ≤ (full [⟨.extTrip, .none⟩]).trip.list.length
          ∧ ⟨.extTrip, .none⟩ ∈ (full [⟨.extTrip, .none⟩]).trip.overflowSet)
      ∧ (ready.trip.latch = false ∧ energised ready = false ∧ ready.recorder.state = .armed
          ∧ (0x01 : Byte).getLsbD 0 = true) := by decide +kernel

/-- R3, R19: a trip from RUN sends one blocking command on each port, none on the port whose own arrival it is, and
none from READY; a motor that was never seen sends none. -/
theorem witness_CausesLatchAndAreListedOnce_blocks :
    LinkLaw running.link
      ∧ (let d : Option Motor → Delivery := fun m => { own := m, inSetpoint := false }
         let t := deliverCause (d none) ⟨.stall, .none⟩ 3 running
         let block : Vcmd := { seq := 0, vd := 0, vq := 0, block := true }
         t.link.vcmds .A = [block] ∧ t.link.vcmds .B = [block] ∧ t.recorder.trigger.derate = 3584
          ∧ t.recorder.trigger.lFwd = 5733
          ∧ (deliverCause (d (some .A)) ⟨.stall, .none⟩ 3 running).link.vcmds .A = []
          ∧ (deliverCause (d none) ⟨.stall, .none⟩ 3 { running with regB := idle.regB }).link.vcmds .B = []
          ∧ (deliverCause (d none) ⟨.extTrip, .none⟩ 0 ready).link = ready.link) :=
  ⟨idle_link, by decide +kernel⟩

def withActive (l : List CauseId) (s : State) : State := { s with trip := { s.trip with active := l } }

/-- Accepted; not tripped; a listed active cause; an active cause not listed; the record not DONE. -/
theorem witness_TripResetClearsTheTrip :
    ((tripped .done).link.slot = none ∧ (tripped .done).trip.latch = true ∧ (tripped .done).trip.active = []
        ∧ (tripped .done).recorder.state = .done)
      ∧ running.trip.latch = false
      ∧ ((withActive [⟨.overtemp, .motor .A⟩] (full [])).trip.list
            = [entry ⟨.stall, .none⟩] ++ entry ⟨.overtemp, .motor .A⟩ :: eight.drop 2
          ∧ (⟨.overtemp, .motor .A⟩ : CauseId) ∈ (withActive [⟨.overtemp, .motor .A⟩] (full [])).trip.active
          ∧ ∀ x ∈ [entry ⟨.stall, .none⟩], x.id ∉ (withActive [⟨.overtemp, .motor .A⟩] (full [])).trip.active)
      ∧ ((∀ x ∈ (full []).trip.list, x.id ∉ (withActive [⟨.overtemp, .motor .B⟩] (full [])).trip.active)
          ∧ (withActive [⟨.overtemp, .motor .B⟩] (full [])).trip.active = ⟨.overtemp, .motor .B⟩ :: [])
      ∧ ((tripped .post).trip.active = [] ∧ (tripped .post).recorder.state ≠ .done) := by decide

/-- The records of an accepted TRIP_RESET: TRIP_RESET, then DRIVE_STATE with reason TRIP_RESET. -/
theorem witness_TripResetClearsTheTrip_records :
    after (.tripReset (req [])) (tripped .done)
      (fun t => recorded t == [(.tripReset, 0), (.driveState, 11)]) = true := by decide +kernel

/-- The RAM record and a slot's record at the last offset; the scan; no record; a record in an erasing bank and
in the bank being programmed. -/
theorem witness_TripReadAnswersTheGroup :
    ((be16 0x08 0x6F).toNat < 2160 ∧ idle.store.activity ≠ .scanning ∧ be32 0 0 0 0 = 0
        ∧ (tripped .done).recorder.ramRecord = some record)
      ∧ (be32 0 0 0 7 ≠ 0 ∧ storeOne.locate (be32 0 0 0 7) = some (0, 0) ∧ storeOne.bankBusy 0 = false)
      ∧ scanning.activity = .scanning
      ∧ (idle.recorder.ramRecord = none
          ∧ ∀ (b : Fin 4) (k : Fin 8), ¬((storeOne.banks[b].slots[k].state = .valid ∨ storeOne.banks[b].slots[k].state = .writing)
              ∧ storeOne.banks[b].slots[k].number = some (be32 0 0 0 6)))
      ∧ (((programming false).banks[(1 : Fin 4)].slots[(0 : Fin 8)].state = .writing
            ∧ (programming false).banks[(1 : Fin 4)].slots[(0 : Fin 8)].number = some (be32 0 0 0 8))
          ∧ ∃ p, (programming false).program = some p ∧ p.bank = 1) := by
  refine ⟨by decide +kernel, by decide +kernel, rfl, by decide +kernel, by decide +kernel, _, rfl, rfl⟩

/-- Spec 12.5: a used cause slot and the first that is not, a snapshot and the words beyond it, the flags. -/
theorem witness_TripReadAnswersTheGroup_words :
    (record.causes[0]? = some (entry ⟨.stall, .none⟩) ∧ record.snapshots[0]? = some snapshot)
      ∧ [48, 49, 50, 51, 52, 53, 54, 55, 56, 111].map record.word
          = [0x020F, 0, 5, 0, 1, 0, 9, 0, 0xFFFF, 0xFFFF]
      ∧ [112, 113, 114, 115, 116, 117, 118, 119, 120].map record.word = [5, 1, 2, 3, 4, 5, 6, 7, 0xFFFF]
      ∧ [0, 14, 15, 16, 17, 47].map record.word = [0xA5C3, 0x0100, 0x0100, 0x101F, 1, 0x5A3C] := by decide +kernel

/-- A store whose four banks are FULL, the current one 0. -/
def fullStore : TripStore :=
  { storeOne with
    current := 0
    banks := Vector.replicate 4
      { state := .full, eraseCount := 1, validCount := 8,
        slots := Vector.replicate 8 { state := .valid, number := some 3 }, marks := [] } }

/-- The same with another state for bank 1. -/
def beside (x : BankState) : TripStore :=
  { fullStore with banks := fullStore.banks.set 1 { fullStore.banks[1] with state := x } }

/-- The store in KEEP mode. -/
def keeping (t : TripStore) : State :=
  { loaded with
    store := t
    tab := { loaded.tab with drive := some { version := 5, table := { drive with storeMode := .keep } } } }

def offering (o : Offer) (t : TripStore) : TripStore := { t with offer := o }

/-- Every activity of the store; an expiry that ends in WRITING, FROZEN and DONE. -/
theorem witness_PostLimitFreezesTheRecord :
    (inPost.recorder.postTimer = .running 1000 ∧ inPost.store.activity = .idle
        ∧ after .postLimitExpiry inPost (fun t => t.recorder.state == .writing) = true)
      ∧ ((withStore scanning inPost).recorder.postTimer = .running 1000
          ∧ (withStore scanning inPost).store.activity = .scanning)
      ∧ ((withStore erasing inPost).store.activity = .erasing
          ∧ after .postLimitExpiry (withStore erasing inPost) (fun t => t.recorder.state == .writing) = true
          ∧ after .postLimitExpiry (withStore (beside .needsErase) inPost)
              (fun t => t.recorder.state == .frozen && t.store.activity == .erasing) = true
          ∧ after .postLimitExpiry { inPost with store := { storeOne with nextNumber := 0 } }
              (fun t => t.recorder.state == .done) = true) := by decide +kernel

/-- A slot that reads erased, and one that does not and is taken all the same: the header's zeros and its own stay. -/
theorem witness_PostLimitFreezesTheRecord_slot :
    (takeOffer (withStore (offering .newRecord storeOne) loaded)).store.nv[(1 : Fin 4)].slots[(0 : Fin 8)]
        = .words [0xA5C3, 0, 8]
    ∧ (takeOffer (withStore (offering .newRecord { storeOne with
          nv := storeOne.nv.set 1 { NvBank.erased with
            stamp := some 1, slots := NvBank.erased.slots.set 0 (.words [0xFFF0, 0xFFFF, 0xFFF7, 0x1234]) } })
          loaded)).store.nv[(1 : Fin 4)].slots[(0 : Fin 8)]
        = .words [0xA5C0, 0, 0, 0x1234] := by decide +kernel

/-- An offer that finds a slot, beside a running erase too; a wait; a bank that joins, plainly and for overwrite;
a miss in KEEP mode, with a free mark and without; exhausted numbers, for a record and for a retry. -/
theorem witness_PostLimitFreezesTheRecord_offers :
    (storeOne.offer = .none
        ∧ (offering .newRecord storeOne).select .wrap = .slot 1 0
        ∧ (offering (.retry 7) erasing).select .wrap = .slot 1 0 ∧ erasing.busy ≠ some 1)
      ∧ ((beside .erasing).select .wrap = .wait ∧ (beside .needsErase).select .wrap = .queueErase 1
          ∧ storeMode (withStore fullStore loaded) = .wrap ∧ fullStore.select .wrap = .queueOverwrite 1)
      ∧ (storeMode (keeping fullStore) = .keep ∧ fullStore.select .keep = .miss
          ∧ fullStore.markHolder = some 0 ∧ ({ fullStore with queue := [0, 1, 2, 3] } : TripStore).markHolder = none)
      ∧ (({ storeOne with nextNumber := 0 } : TripStore).nextNumber = 0
          ∧ (offering (.retry 0xFFFFFFFF) { storeOne with nextNumber := 0 }).select .wrap = .slot 1 0) := by
  decide +kernel

/-- Target selection: each state of the next bank, queued and not; no next bank; under the erase-all flag. -/
theorem witness_ScanEndFillsTheIndex_selection :
    ((storeOne.banks[storeOne.current].state = .blank ∧ storeOne.current ∉ storeOne.queue
        ∧ storeOne.banks[storeOne.current].slots[(0 : Fin 8)].state = .blank)
      ∧ fullStore.banks[fullStore.current].state = .full)
      ∧ ((beside .blank).banks[(1 : Fin 4)].state ≠ .retired ∧ (1 : Fin 4) ∉ (beside .blank).queue
          ∧ (1 : Fin 4) ∈ ({ fullStore with queue := [1] } : TripStore).queue)
      ∧ (let t : TripStore := { fullStore with banks := Vector.replicate 4 { fullStore.banks[0] with state := .retired } };
          ([t.current + 1, t.current + 2, t.current + 3].find? fun b => t.banks[b].state != .retired) = none)
      ∧ (let t : TripStore := { beside .blank with eraseAll := true };
          ([t.current + 1, t.current + 2, t.current + 3].find? fun b =>
            t.banks[b].state == .blank && !t.queue.contains b) = some 1)
      ∧ (let t : TripStore := { fullStore with eraseAll := true };
          ([t.current + 1, t.current + 2, t.current + 3].find? fun b =>
            t.banks[b].state == .blank && !t.queue.contains b) = none) := by decide +kernel

/-- A memory with a stamped bank that holds a record, and one without stamps. -/
theorem witness_ScanEndFillsTheIndex :
    (scanning.activity = .scanning ∧ scanning.offer = .none ∧ scanning.nv[(0 : Fin 4)].stamp = some 1
        ∧ scanning.nv[(0 : Fin 4)].slots[(0 : Fin 8)].word 0 = 0xA5C3#16)
      ∧ (State.reset.store.activity = .scanning ∧ State.reset.store.offer = .none
          ∧ State.reset.store.nv[(0 : Fin 4)].stamp = none) := by decide +kernel

/-- A store with one record and a larger number already missed, so that no bank holds the largest. -/
def trimmable : TripStore := { storeOne with nextNumber := 9 }

theorem witness_StoreErasesOnRequest :
    (trimmable.activity = .idle ∧ trimmable.queue = [] ∧ (∀ c : Fin 4, trimmable.banks[c].state ≠ .eraseSuspended)
        ∧ trimmable.banks[(0 : Fin 4)].slots[(0 : Fin 8)] = { state := .valid, number := some 7 }
        ∧ (∀ (c : Fin 4) (j : Fin 8), trimmable.banks[c].slots[j].state = .valid → c = 0 ∧ j = 0)
        ∧ trimmable.banks[(0 : Fin 4)].holds (trimmable.nextNumber - 1) = false)
      ∧ ((let c := trimmable.current
          [c + 1, c + 2, c + 3, c].filter fun b =>
            trimmable.banks[b].state != .retired && trimmable.banks[b].state != .blank) = 0 :: []
        ∧ (let c := idle.store.current
          [c + 1, c + 2, c + 3, c].filter fun b =>
            idle.store.banks[b].state != .retired && idle.store.banks[b].state != .blank) = [])
      ∧ (scanning.activity = .scanning ∧ (erasing.activity ≠ .idle ∧ erasing.activity ≠ .scanning)
          ∧ idle.store.activity = .idle
          ∧ ∀ (b : Fin 4) (k : Fin 8), idle.store.banks[b].slots[k].state ≠ .valid) := by decide +kernel

/-- A trim with a bank queued; a suspended erase; an empty queue; a head that holds the largest number, with and
without a free mark elsewhere, and one that does not. -/
theorem witness_StoreErasesOnRequest_work :
    (({ trimmable with queue := [3] } : TripStore).activity = .idle
        ∧ trimmable.banks[(0 : Fin 4)].slots[(0 : Fin 8)] = { state := .valid, number := some 7 })
      ∧ (erasing.activity ≠ .idle ∧ (beside .eraseSuspended).activity = .idle
          ∧ (beside .eraseSuspended).banks[(1 : Fin 4)].state = .eraseSuspended
          ∧ ∀ a : Fin 4, (beside .eraseSuspended).banks[a].state = .eraseSuspended → a = 1)
      ∧ (storeOne.activity = .idle ∧ storeOne.queue = [])
      ∧ (let t : TripStore := { storeOne with queue := [0] };
          t.banks[(0 : Fin 4)].slots[(0 : Fin 8)].number = some (t.nextNumber - 1) ∧ t.markHolder = some 1)
      ∧ (let t : TripStore := { storeOne with queue := [0], nv := Vector.replicate 4 NvBank.erased };
          t.markHolder = none)
      ∧ ({ storeOne with queue := [2] } : TripStore).banks[(2 : Fin 4)].holds (storeOne.nextNumber - 1) = false := by
  decide +kernel

/-- A store whose one bank with records is the current one and holds the largest number: alone it joins, and is
taken up where a mark is free elsewhere and held back where none is.  A blocked queue that holds every bank, and one
that holds another bank. -/
theorem witness_StoreErasesOnRequest_all :
    (let t : TripStore := { storeOne with current := 0 };
      (t.banks[(0 : Fin 4)].holds (t.nextNumber - 1) = true ∧ t.activity = .idle ∧ t.queue = [])
        ∧ answered (.storeEraseAll (req [])) (withStore t idle) = some (.accepted, [1])
        ∧ after (.storeEraseAll (req [])) (withStore t idle)
            (fun u => u.store.activity == .erasing && u.store.busy == some 0 && u.store.banks[1].marks == [7]) = true
        ∧ after (.storeEraseAll (req [])) (withStore { t with nv := Vector.replicate 4 NvBank.erased } idle)
            (fun u => u.store.activity == .idle && u.store.queue == [0] && !u.store.eraseAll) = true)
      ∧ answered (.storeEraseAll (req [])) (withStore { storeOne with queue := [0] } idle) = some (.ok, [0])
      ∧ answered (.storeEraseAll (req [])) (withStore { beside .needsErase with queue := [0] } idle)
          = some (.accepted, [3]) := by decide +kernel

/-- The scan; an erasing bank and a bank being programmed; another bank meanwhile; IDLE.  Then a bank whose slot
0 is programmed, and one whose slots are all erased. -/
theorem witness_BlankCheckReadsTheBank :
    (idle.link.slot = none ∧ (3 : Byte).toNat = (3 : Fin 4).val ∧ scanning.activity = .scanning
        ∧ erasing.banks[(2 : Fin 4)].state = .erasing
        ∧ (programming false).program.map (fun p => p.bank) = some 1
        ∧ erasing.activity ≠ .idle ∧ erasing.banks[(3 : Fin 4)].state = .blank ∧ erasing.program = none
        ∧ idle.store.activity = .idle ∧ idle.store.banks[(3 : Fin 4)].state = .blank ∧ idle.store.program = none)
      ∧ (storeOne.nv[(0 : Fin 4)].slots[(0 : Fin 8)].firstProgrammed ≠ none ∧ storeOne.offer = .none
          ∧ ∀ k : Fin 8, storeOne.nv[(1 : Fin 4)].slots[k].firstProgrammed = none) := by decide +kernel

theorem witness_StoreStatusAnswersTheIndex :
    idle.link.slot = none ∧ (req []).args = [] ∧ idle.store.activity ≠ .scanning ∧ scanning.activity = .scanning := by
  decide

/-- A check of a bank that is all erased, of a VALID slot, and of a slot the index holds as BLANK. -/
theorem witness_BlankCheckReadsTheBank_completion :
    (let t : TripStore := { storeOne with activity := .blankChecking, busy := some 1 };
      t.activity = .blankChecking ∧ t.busy = some 1 ∧ ∀ k : Fin 8, t.nv[(1 : Fin 4)].slots[k].firstProgrammed = none)
      ∧ (storeOne.nv[(0 : Fin 4)].slots[(0 : Fin 8)].firstProgrammed = some 0
          ∧ storeOne.banks[(0 : Fin 4)].slots[(0 : Fin 8)].state ≠ .blank)
      ∧ (let t : TripStore := { storeOne with banks := idle.store.banks };
          t.nv[(0 : Fin 4)].slots[(0 : Fin 8)].firstProgrammed = some 0
          ∧ t.banks[(0 : Fin 4)].slots[(0 : Fin 8)].state = .blank) := by decide +kernel

/-- Pre-erase: two BLANK slots and one; each state of the next bank, in both modes; no next bank. -/
theorem witness_ProgramCompletionWritesOrVoids_preErase :
    (2 ≤ ((List.finRange 8).filter fun k => storeOne.banks[storeOne.current].slots[k].state == .blank).length
        ∧ ((List.finRange 8).filter fun k => fullStore.banks[fullStore.current].slots[k].state == .blank).length < 2)
      ∧ ((beside .blank).nextBank = some 1 ∧ (beside .needsErase).nextBank = some 1 ∧ fullStore.nextBank = some 1
          ∧ (beside .needsErase).banks[(1 : Fin 4)].state = .needsErase ∧ (1 : Fin 4) ∉ (beside .needsErase).queue
          ∧ fullStore.banks[(1 : Fin 4)].state = .full ∧ (beside .open).banks[(1 : Fin 4)].state = .open
          ∧ storeMode (keeping fullStore) = .keep ∧ storeMode (withStore fullStore loaded) = .wrap)
      ∧ ({ fullStore with banks := Vector.replicate 4 { fullStore.banks[0] with state := .retired } } : TripStore).nextBank
          = none := by decide +kernel

/-- A first program and a retry. -/
theorem witness_ProgramCompletionWritesOrVoids :
    ∃ p q, (programming false).activity = .programming ∧ (programming false).program = some p
      ∧ (tripped .writing).recorder.ramRecord = some record
      ∧ (programming true).program = some q ∧ q.retry = true :=
  ⟨_, _, rfl, rfl, rfl, rfl, rfl⟩

/-- A slot that can read as the record, its marker among it; one that cannot, at the first snapshot's word. -/
theorem witness_ProgramCompletionWritesOrVoids_verification :
    let x : TripRecord := { record with tripNumber := 8 }
    let good := (programming false).nv[(1 : Fin 4)].slots[(0 : Fin 8)]
    let bad := (overZeros false).nv[(1 : Fin 4)].slots[(0 : Fin 8)]
    (∀ o < 2160, o ≠ 47 → good.word o &&& x.word o = x.word o) ∧ good.word 47 = 0xFFFF#16
      ∧ (112 < 2160 ∧ bad.word 112 &&& x.word 112 ≠ x.word 112) :=
  ⟨(NvSlot.canRead_iff _ _).mp (by decide +kernel), by decide +kernel, by decide, by decide +kernel⟩

theorem witness_EraseCompletionBlanksOrRetires :
    erasing.activity = .erasing ∧ erasing.busy = some 2 ∧ erasing.offer = .none ∧ 2 ∉ erasing.queue
      ∧ ∀ c : Fin 4, erasing.banks[c].state ≠ .eraseSuspended := by decide +kernel

/-- Each state the mode acts on, at BRK_SPEED exactly and one below it. -/
theorem witness_ModeMovesTheDrive :
    (activeDrive running = some drive ∧ (0xFE : Byte).getLsbD 0 = false ∧ running.run.state = .run
        ∧ breaking.run.state = .breakaway ∧ resting.run.state = .resting)
      ∧ (ready.run.state = .ready ∧ ready.run.runEdge = true
          ∧ (drive.brkSpeed : Int) ≤ |paceSpeed (turning (-200) ready)| ∧ |paceSpeed (turning 199 ready)| < drive.brkSpeed)
      ∧ (at_ .ready running).run.runEdge = false
      ∧ (stopping.run.state = .stopping ∧ (drive.brkSpeed : Int) ≤ |paceSpeed (turning 200 stopping)|
          ∧ |paceSpeed stopping| < drive.brkSpeed) := by
  simp only [abs_lt, le_abs]
  decide

/-- Without a DRIVE table: a STOP sets the run edge, a RUN does nothing.  With one, the records of a refusal, of a
first attempt and of a STOP that ends it (12.2: reasons RUN_REFUSED 2, RUN_TAKEN 1, STOP_TAKEN 6). -/
theorem witness_ModeMovesTheDrive_records :
    (activeDrive idle = none ∧ idle.run.state = .off ∧ idle.run.runEdge = false
        ∧ after (.setpoint 1 0 0 0 9) idle (fun t => t.run.runEdge && recorded t == []) = true
        ∧ after (.setpoint 1 1 0 0 9) idle (fun t => t.run == idle.run) = true)
      ∧ after (.setpoint 1 1 0 0 9) (at_ .ready running) (fun t => recorded t == [(.driveState, 2)]) = true
      ∧ after (.setpoint 1 1 0 0 9) ready (fun t => recorded t == [(.driveState, 1), (.brkStart, 0)]) = true
      ∧ after (.setpoint 1 0 0 0 9) breaking (fun t => recorded t == [(.driveState, 6), (.brkEnd, 0)]) = true := by
  decide +kernel

/-- A request above L_fwd in RUN: TLIM with direction FWD and tightest VIB (the derate 3584 of channel 2); the
stall watch starts below STALL_SPEED, runs on, stops at it, and stops for a request inside the limits. -/
theorem witness_SetpointIsStoredAndComputed_watch :
    after (.setpoint 1 1 0 20000 9) (turning 99 running)
        (fun t => recorded t == [(.tlim, 16)] && t.lim.stallTimer == .running 500) = true
      ∧ after (.setpoint 1 1 0 20000 9) (turning 99 { running with
          lim := { running.lim with stallTimer := .running 77 } }) (fun t => t.lim.stallTimer == .running 77) = true
      ∧ after (.setpoint 1 1 0 20000 9) (turning 100 { running with
          lim := { running.lim with stallTimer := .running 77 } }) (fun t => t.lim.stallTimer == .stopped) = true
      ∧ after (.setpoint 1 1 0 0 9) (turning 99 { running with
          lim := { running.lim with stallTimer := .running 77 } })
          (fun t => t.lim.stallTimer == .stopped && recorded t == []) = true := by decide +kernel

/-- The last attempt but one, the last attempt, a rest and a stop. -/
theorem witness_RunTimersExpire :
    (activeDrive breaking = some drive ∧ breaking.run.brkTimer = .running 2000
        ∧ breaking.run.attempts < drive.brkRetries)
      ∧ (drive.brkRetries ≤ ({ breaking with run := { breaking.run with attempts := 2 } } : State).run.attempts
          ∧ breaking.trip.latch = false)
      ∧ resting.run.restTimer = .running 3000
      ∧ (stopping.run.stopTimer = .running 60000 ∧ LinkLaw stopping.link) :=
  ⟨by decide, by decide, rfl, rfl, idle_link⟩

/-- The records of the last attempt's end: BRK_END FAIL, DRIVE_STATE TRIP, TRIP FIRST, and no ABANDONED; a stop
that ends in READY clears the run edge, one that ends in OFF keeps it. -/
theorem witness_RunTimersExpire_ends :
    after .brkTimeExpiry { breaking with run := { breaking.run with attempts := 2 } }
        (fun t => recorded t == [(.brkEnd, 0), (.driveState, 10), (.trip, 0)]) = true
      ∧ after .stopTimeExpiry { stopping with run := { stopping.run with runEdge := true } }
        (fun t => t.run.state == .ready && !t.run.runEdge && recorded t == [(.driveState, 9)]) = true
      ∧ after .stopTimeExpiry { stopping with
          run := { stopping.run with runEdge := true }, regA := { stopping.regA with modState := .notReady } }
        (fun t => t.run.state == .off && t.run.runEdge) = true := by decide +kernel

def stalling : State := { running with lim := { running.lim with stallTimer := .running 500 } }

def missing (n : Nat) : State :=
  { running with lim := { running.lim with spTimer := .running 100, missCount := n } }

/-- A stall; a setpoint miss short of SP_LOSS_LIMIT and one that comes to it. -/
theorem witness_TorqueTimersExpire :
    (activeDrive stalling = some drive ∧ stalling.lim.stallTimer = .running 500 ∧ stalling.trip.latch = false)
      ∧ ((missing 1).lim.spTimer = .running 100 ∧ energised (missing 1) = true
          ∧ min ((missing 1).lim.missCount + 1) 65535 ≠ drive.spLossLimit)
      ∧ min ((missing 2).lim.missCount + 1) 65535 = drive.spLossLimit := by decide

/-- Temperatures at THERM_START, above it, below THERM_END and at it; a fault; a motor in the set. -/
theorem witness_FeedbackIsTakenIn :
    activeDrive idle = none ∧ activeDrive running = some drive ∧ drive.motorSet.has .A = true
      ∧ after (.feedback .A (feedback 820 60 2)) running (fun t => t.regA.temp == drive.thermStart) = true
      ∧ after (.feedback .A (feedback 820 61 2)) running (fun t => decide (drive.thermStart < t.regA.temp)) = true
      ∧ after (.feedback .A (feedback 820 79 2)) running (fun t => decide (t.regA.temp < drive.thermEnd)) = true
      ∧ after (.feedback .A (feedback 820 80 3)) running (fun t => t.regA.temp == drive.thermEnd) = true
      ∧ paceMotor running = .A := by decide +kernel

/-- The run controller's step: a latching arrival; evaluations in OFF and READY; BRK_SPEED reached and one below
it; STOP_SPEED not reached and one below it; the states that stand. -/
theorem witness_FeedbackIsTakenIn_run :
    (running.trip.latch = false ∧ inDriveSet running .A = true
        ∧ (driveFieldsOf running).thermEnd ≤ max (-40) (min 150 (feedback 0 80 2).temp.toInt)
        ∧ ¬(driveFieldsOf running).thermEnd ≤ max (-40) (min 150 (feedback 0 79 2).temp.toInt))
      ∧ (after (.feedback .B (feedback 0 55 1)) (at_ .off ready) (fun t => t.run.state == .ready) = true
          ∧ after (.feedback .B (feedback 0 55 0)) ready (fun t => t.run.state == .off) = true)
      ∧ (breaking.run.state = .breakaway ∧ Motor.A = paceMotor breaking
          ∧ (driveFieldsOf breaking).brkSpeed = (feedback 200 55 2).speed.toInt
          ∧ after (.feedback .A (feedback 200 55 2)) breaking (fun t => t.run.state == .run) = true
          ∧ after (.feedback .A (feedback 199 55 2)) breaking (fun t => t.run.state == .breakaway) = true)
      ∧ (stopping.run.state = .stopping ∧ Motor.A = paceMotor stopping
          ∧ after (.feedback .A (feedback (-49) 55 2)) stopping (fun t => t.run.state == .ready) = true
          ∧ after (.feedback .A (feedback 50 55 2)) stopping (fun t => t.run.state == .stopping) = true)
      ∧ resting.run.state = .resting := by decide +kernel

/-- R3, R55, R116: an arrival with MOD_FAULT blocks the other port, answers its own, and triggers the recorder. -/
theorem witness_FeedbackIsTakenIn_trip :
    LinkLaw running.link
      ∧ (running.trip.latch = false ∧ inDriveSet running .B = true ∧ (feedback 820 55 3).modState = 3
          ∧ energised running = true ∧ running.regA.seen = true ∧ running.recorder.state = .armed)
      ∧ after (.feedback .B (feedback 820 55 3)) running (fun t =>
          (t.link.vcmds .A).length == 1 && (t.link.vcmds .B).length == 1 && t.recorder.state == .post
            && t.recorder.trigger.dcB == 2000 && t.recorder.trigger.tempB == 55) = true :=
  ⟨idle_link, by decide +kernel, by decide +kernel⟩

/-- A driven motor in a band below 7 and in band 7, and a blocking answer. -/
theorem witness_FeedbackIsAnsweredOnce :
    LinkLaw running.link ∧ activeGain running = some gain
      ∧ after (.feedback .A (feedback 3499 55 2)) running (fun t => t.regA.band == 6 && energised t) = true
      ∧ after (.feedback .A (feedback 3500 55 2)) running (fun t => t.regA.band == 7 && energised t) = true
      ∧ after (.feedback .A (feedback 0 55 2)) ready (fun t => !energised t) = true :=
  ⟨idle_link, rfl, by decide +kernel, by decide +kernel, by decide +kernel⟩

/-- Before a GAIN table is active the answer blocks; a frame whose q output is clamped raises VCLIP in band 1
(speed 820 below 1000). -/
theorem witness_FeedbackIsAnsweredOnce_forms :
    (activeGain idle = none
        ∧ after (.feedback .A (feedback 0 55 1)) idle
          (fun t => t.link.vcmds .A == [{ seq := 4, vd := 0, vq := 0, block := true }]) = true)
      ∧ after (.feedback .A { feedback 820 55 2 with iq := 9000 }) running
        (fun t => t.recorder.state == .armed && recorded t == [(.vclip, 1)]) = true := by decide +kernel

/-- A limit of 0 and one above. -/
theorem witness_AxisFollowsThePiLaw : (0 : Int) ≤ 0 ∧ (0 : Int) ≤ 3800 := by decide

/-- A due report sent, and one skipped; a masked arrival; an ARMED recorder. -/
theorem witness_PaceArrivalRecordsAndReports :
    (Motor.A = paceMotor running ∧ running.recorder.state = .armed ∧ reportDue running = true
        ∧ running.link.slot = none ∧ running.link.sTx = .idle)
      ∧ (Motor.A = paceMotor reporting ∧ reportDue reporting = true ∧ reporting.link.sTx ≠ .idle)
      ∧ reportDue { running with
          link := { running.link with reportPhase := .mask, remaining := 1 } } = false := by decide

/-- R106, R182: the report of a tripped drive shows the first entry of the list; one formed without a trip shows
none. -/
theorem witness_PaceArrivalRecordsAndReports_report :
    after (.feedback .A (feedback 820 55 2)) (tripped .done) (fun t =>
        match t.link.sTx with
        | .report _ x => x.firstCause == some ⟨.stall, .none⟩ && x.payload[2]? == some 2 && x.payload[3]? == some 15
            && x.iqA == 3100 && x.busy == none && x.ecc == t.load.ecc
        | _ => false) = true
      ∧ after (.feedback .A (feedback 820 55 2)) running (fun t =>
        match t.link.sTx with
        | .report _ x => x.firstCause == none && x.payload[0]? == some 4 && x.payload[3]? == some 15
            && x.payload.length == 26
        | _ => false) = true := by decide +kernel

/-- The jammed drive: both currents high, with a count behind it and a fresh position. -/
def jammed (count : Nat) : State :=
  { running with
    lim := { running.lim with otCount := count }
    regB := { running.regB with iqMeas := 9000 }
    load := { running.load with lastAngle := 0xFFFF, posTimer := .running 500 } }

def jam : FeedbackFrame := { feedback 820 55 2 with iq := 9000 }

/-- Torque above the allowance short of OT_PERSIST and at it, and below it; an arrival that is not driven; the
post part short of its target and at it, with the store idle and scanning; a latch of an ARMED recorder; a closed
recorder; the pattern in both phases, at its end and before it. -/
theorem witness_PaceArrivalRecordsAndReports_work :
    (energised (arrivalStart .A jam (jammed 2)) = true
        ∧ after (.feedback .A jam) (jammed 2)
            (fun t => t.lim.otCount == 3 && t.load.cnt[15] == 1 && t.run.state == .run) = true
        ∧ after (.feedback .A jam) (jammed 3) (fun t => t.run.state == .tripped && t.recorder.postCount == 1) = true
        ∧ after (.feedback .A { jam with iq := 0 }) { jammed 3 with regB := running.regB } (fun t => t.lim.otCount == 0) = true
        ∧ energised (arrivalStart .A jam ready) = false)
      ∧ (inPost.recorder.state = .post ∧ inPost.recorder.postCount + 1 < inPost.recorder.postTarget
          ∧ after (.feedback .A jam) { inPost with recorder := { inPost.recorder with postCount := 127 } }
              (fun t => t.recorder.state == .writing) = true
          ∧ after (.feedback .A jam) { inPost with recorder := { inPost.recorder with postCount := 127 }, store := scanning }
              (fun t => t.recorder.state == .frozen && t.store.offer == .newRecord) = true)
      ∧ ((jammed 3).recorder.state = .armed ∧ (jammed 3).trip.latch = false ∧ drive.preCount ≤ 224
          ∧ (tripped .done).recorder.state = .done) := by decide +kernel

def silent (n : Nat) : State :=
  { running with regB := { running.regB with fbTimer := .running 500, missCount := n } }

/-- A miss short of FB_LOSS_LIMIT, one that comes to it, and one while the drive is not energised. -/
theorem witness_FeedbackTimerExpires :
    (activeDrive (silent 0) = some drive ∧ LinkLaw (silent 0).link ∧ ((silent 0).reg .B).fbTimer = .running 500
        ∧ min (((silent 0).reg .B).missCount + 1) 65535 ≠ drive.fbLossLimit)
      ∧ ((energised (silent 1) && drive.motorSet.has .B) = true
          ∧ min (((silent 1).reg .B).missCount + 1) 65535 = drive.fbLossLimit)
      ∧ energised (at_ .ready (silent 1)) = false :=
  ⟨⟨rfl, idle_link, rfl, by decide⟩, by decide, by decide⟩

/-- A silent motor of the set takes READY to OFF: FB_MISS without BLOCKED, then DRIVE_STATE CONDITIONS; one that
is lost while driven trips, FB_MISS BLOCKED before the records of the trip. -/
theorem witness_FeedbackTimerExpires_falls :
    ((at_ .ready (silent 0)).run.state = .ready ∧ drive.motorSet.has .B = true
        ∧ after (.feedbackTimerExpiry .B) (at_ .ready (silent 0))
          (fun t => t.run.state == .off && recorded t == [(.fbMiss, 0), (.driveState, 0)]) = true)
      ∧ after (.feedbackTimerExpiry .B) (silent 1)
          (fun t => recorded t == [(.fbMiss, 1), (.driveState, 10), (.trip, 0)]) = true := by decide +kernel

def watched (c : Channel) : State :=
  { running with vib := { running.vib with channels := running.vib.channels.set 2 c } }

/-- An OFF channel, a window short of its end by two frames and by one, and a skipped frame. -/
theorem witness_VibSampleGathersAndEvaluates :
    (channelConfig running 2 = some (channel true) ∧ (channel true).clear ≤ (channel true).alert)
      ∧ running.vib.channels[(0 : Fin 6)].state = .off ∧ channelConfig running 0 = some (channel false)
      ∧ ((watched { Channel.reset with state := .silent, frames := 14 }).vib.channels[(2 : Fin 6)].phase = .gather
          ∧ 14 + 1 ≠ (channel true).window)
      ∧ ((watched { Channel.reset with state := .alert, frames := 15, acc := 54400000, persist := 2 }).vib.channels[(2 : Fin 6)].state
            ≠ .off
          ∧ 15 + 1 = (channel true).window
          ∧ after (.vibSample 2 0 (Vector.replicate 8 0))
              (watched { Channel.reset with state := .alert, frames := 15, acc := 54400000, persist := 2 })
              (fun t => t.vib.channels[2].state == .danger && t.vib.channels[2].lastLevel == 651) = true)
      ∧ ((watched { Channel.reset with state := .normal, phase := .skip, frames := 47 }).vib.channels[(2 : Fin 6)].phase
            = .skip
          ∧ (channel true).gap ≤ 47 + 1) := by decide +kernel

/-- Before the first VIB commit; a channel that enters DANGER, with VIB_STATE before the records of the trip; one
that leaves it. -/
theorem witness_VibSampleGathersAndEvaluates_changes :
    channelConfig idle 2 = none
      ∧ after (.vibSample 2 0 (Vector.replicate 8 0))
          (watched { Channel.reset with state := .alert, frames := 15, acc := 54400000, persist := 2 })
          (fun t => recorded t == [(.vibState, 0), (.driveState, 10), (.trip, 0)]) = true
      ∧ after (.vibSample 2 0 (Vector.replicate 8 0))
          (watched { Channel.reset with state := .danger, frames := 15, danger := true })
          (fun t => t.vib.channels[2].state == .normal && recorded t == [(.vibState, 0)]
            && t.lim.stack.vibDerate == 4096) = true := by decide +kernel

theorem witness_SilenceAndRestartClearTheChannel :
    (ConditionLaw running
        ∧ (watched { Channel.reset with state := .normal, silenceTimer := .running 500 }).vib.channels[(2 : Fin 6)].silenceTimer
            = .running 500
        ∧ ConditionLaw (watched { Channel.reset with state := .normal, silenceTimer := .running 500 }))
      ∧ (running.link.slot = none ∧ (2 : Byte).toNat = (2 : Fin 6).val ∧ channelEnabled running 2 = true
          ∧ channelEnabled running 5 = false) :=
  ⟨⟨running_conditions, rfl,
    { set := by decide, danger := by decide, outside := by intro m h; cases m <;> exact absurd h (by decide) }⟩,
    by decide⟩

def turned (angle : Word) (count : Nat) : State :=
  { running with
    load := { running.load with
      refPresent := true, lastAngle := angle, posTimer := .running 500, cnt := Vector.replicate 16 count } }

/-- No VIB table; no reference; a step of 32768; a reverse wrap and a forward wrap one beyond it, with every
sector gathered and with one empty; a running position timer. -/
theorem witness_PositionFollowsTheShell :
    activeVib idle = none ∧ activeVib running = some vib ∧ running.load.refPresent = false
      ∧ ((turned 0 1).load.refPresent = true ∧ ¬(32768 < (32768 : Word).toNat - (turned 0 1).load.lastAngle.toNat))
      ∧ ((turned 0 1).load.lastAngle.toNat < (32769 : Word).toNat
          ∧ 32768 < (32769 : Word).toNat - (turned 0 1).load.lastAngle.toNat)
      ∧ ((0 : Word).toNat < (turned 32769 1).load.lastAngle.toNat
          ∧ 32768 < (turned 32769 1).load.lastAngle.toNat - (0 : Word).toNat
          ∧ (∀ k : Fin 16, 0 < (turned 32769 1).load.cnt[k]) ∧ (∃ k : Fin 16, (turned 32769 0).load.cnt[k] = 0))
      ∧ (turned 0 1).load.posTimer = .running 500 := by decide

/-- A revolution whose averages lie 700 apart sets the ring alert; a position lost clears it. -/
theorem witness_PositionFollowsTheShell_ring :
    after (.position 1 0) { turned 32769 1 with
        load := { (turned 32769 1).load with acc := (Vector.replicate 16 100).set 3 800 } }
        (fun t => t.load.ecc == 700 && t.load.ringAlert && recorded t == [(.ringState, 0)]) = true
      ∧ after .positionTimerExpiry { turned 0 1 with load := { (turned 0 1).load with ringAlert := true } }
        (fun t => !t.load.ringAlert && recorded t == [(.ringState, 1)]) = true := by decide +kernel

theorem witness_NothingComesDueThatDoesNotRun :
    idle.run.brkTimer = .stopped ∧ idle.run.restTimer = .stopped ∧ idle.run.stopTimer = .stopped
      ∧ idle.lim.stallTimer = .stopped ∧ idle.lim.spTimer = .stopped ∧ (idle.reg .A).fbTimer = .stopped
      ∧ idle.vib.channels[(5 : Fin 6)].silenceTimer = .stopped ∧ idle.load.posTimer = .stopped
      ∧ idle.recorder.postTimer = .stopped ∧ idle.log.pulseTimer = .stopped
      ∧ idle.store.activity = .idle ∧ idle.link.sTx = .idle ∧ idle.link.m0Tx.sending = none
      ∧ idle.link.m1Tx.sending = none := by decide

end Sys2Proof.Tests
end

/-! The state right after hardware reset: its blocks read off, each law of the device at it (O2), and
HARDWARE_RESET itself (O28). -/

namespace Sys2Proof.Machine

theorem reset_channel (c : Fin 6) : State.reset.vib.channels[c] = Channel.reset :=
  Vector.getElem_replicate c.isLt

theorem reset_bank (b : Fin 4) : State.reset.store.banks[b] = BankIndex.unclassified :=
  Vector.getElem_replicate b.isLt

theorem reset_nv (b : Fin 4) : State.reset.store.nv[b] = NvBank.erased :=
  Vector.getElem_replicate b.isLt

theorem unclassified_slot (k : Fin 8) :
    BankIndex.unclassified.slots[k] = { state := .void, number := none } :=
  Vector.getElem_replicate k.isLt

theorem reset_runTripLaw : RunTripLaw State.reset := by
  constructor <;> simp [State.reset, State.afterReset, RunController.reset, TripController.reset,
    TorqueLimiter.reset, TripController.listed, Timer.runs, energised, DriveState.energised]

theorem reset_torqueLaw : TorqueLaw State.reset := by
  constructor <;> simp [State.reset, State.afterReset, TorqueLimiter.reset, TableManager.afterReset, activeDrive]

theorem reset_integratorLaw : IntegratorLaw State.reset := by
  intro m _
  cases m <;> exact ⟨rfl, rfl⟩

theorem reset_conditionLaw : ConditionLaw State.reset where
  set := by decide
  danger c := by rw [reset_channel]; rfl
  outside m _ := by cases m <;> exact ⟨rfl, rfl, rfl⟩

theorem reset_watchLaw : WatchLaw State.reset where
  derate := rfl
  delivered := rfl
  off c := by rw [reset_channel]; exact ⟨fun _ => rfl, fun _ => rfl⟩
  silence c h := by rw [reset_channel] at h; exact absurd rfl h

theorem reset_logLaw : LogLaw State.reset where
  size := by decide
  counters k := by
    have h : State.reset.log.counters[k] = 0 := Vector.getElem_replicate k.isLt
    omega
  missed := by decide
  judged := by decide
  level _ := ⟨rfl, rfl⟩
  pulse h := absurd h (by decide)

theorem reset_recorderLaw : RecorderLaw State.reset := by
  constructor <;> simp [State.reset, State.afterReset, TripController.reset, Recorder.reset,
    TripStore.afterReset, TableManager.afterReset, Timer.runs, RecorderState.holdsRecord, Offer.isRetry,
    activeDrive]

theorem reset_storeLaw : StoreLaw State.reset.store where
  flight := by decide
  slot p h := nomatch h
  only b k h := by rw [reset_bank, unclassified_slot] at h; exact nomatch h
  erasing b := by rw [reset_bank]; exact ⟨(nomatch ·), (nomatch ·.1)⟩
  bank h := by rcases h with h | h <;> exact absurd h (by decide)
  still _ := rfl
  suspended b h := by rw [reset_bank] at h; exact nomatch h
  single b c h := by rw [reset_bank] at h; exact nomatch h
  queue := List.nodup_nil
  derived b h := by rw [reset_bank] at h; exact nomatch h
  valid b := by rw [reset_bank]; decide

theorem reset_numberLaw : NumberLaw State.reset.store where
  store := reset_storeLaw
  stored := by decide
  live h := absurd rfl h
  below h := absurd rfl h
  held h := absurd rfl h
  blank h := absurd rfl h
  header p h := nomatch h
  unstamped b _ := by rw [reset_nv]; rfl
  retry n h := nomatch h

theorem defaultEvent_accepted :
    accepted .event (imageBytes .event 0 46 EventTable.default.toFields) :=
  ⟨by decide +kernel, EventTable.default.toFields, by decide +kernel⟩

theorem reset_tableLaw : TableLaw State.reset.tab where
  active t image h := by
    cases t with
    | event =>
      obtain rfl : imageBytes .event 0 46 EventTable.default.toFields = image := Option.some.inj h
      exact defaultEvent_accepted
    | gain | limit | vib | drive => exact nomatch h
  staging n b h := by cases n <;> exact nomatch h
  once a b h := nomatch h

theorem reset_linkLaw : LinkLaw State.reset.link where
  sending q a h := nomatch h
  waiting _ := rfl
  m0 _ := rfl
  m1 _ := rfl
  errors := by decide
  gaps := by decide
  skipped := by decide

/-- Settles O2: each law in turn at the reset values. -/
theorem resetSatisfiesTheLaws : Obligations.ResetSatisfiesTheLaws :=
  ⟨reset_runTripLaw, reset_torqueLaw, reset_integratorLaw, reset_conditionLaw, reset_watchLaw, reset_logLaw,
    reset_recorderLaw, reset_storeLaw, reset_numberLaw, reset_tableLaw, reset_linkLaw⟩

/-- Settles O28: the reset state is `State.afterReset` over what is kept, block by block. -/
theorem hardwareResetKeepsTheMemoryAlone : Obligations.HardwareResetKeepsTheMemoryAlone := by
  intro s
  refine ⟨_, rfl, ?_⟩
  have hreg : ∀ m, (State.afterReset s.store.nv s.store.nextTag s.tab.lockLine s.pending).reg m
      = Regulator.reset := by intro m; cases m <;> rfl
  refine ⟨rfl, rfl, rfl, rfl, rfl, rfl, rfl, rfl, rfl, rfl, rfl, rfl, rfl, rfl, rfl, rfl, ?_, rfl, rfl, hreg, ?_, ?_⟩
  · intro b; exact Vector.getElem_replicate b.isLt
  · intro c; exact Vector.getElem_replicate c.isLt
  · simp [State.afterReset, VibWatch.reset, LoadProfile.reset, TripController.reset, Recorder.reset, TriggerCopy.reset,
      EventLog.reset, TableManager.afterReset, Link.reset]

end Sys2Proof.Machine

/-! What the shared operations of the drive put where they write: the reading of the event log, the torque
computation, the drive states entered, the blocking commands.  The frame lemmas say what each leaves alone. -/

namespace Sys2Proof.Machine

/-! ### States, block by block -/

theorem State.ext_blocks {s t : State} (run : s.run = t.run) (lim : s.lim = t.lim) (regA : s.regA = t.regA)
    (regB : s.regB = t.regB) (vib : s.vib = t.vib) (load : s.load = t.load) (trip : s.trip = t.trip)
    (recorder : s.recorder = t.recorder) (store : s.store = t.store) (log : s.log = t.log)
    (tab : s.tab = t.tab) (link : s.link = t.link) (pending : s.pending = t.pending) : s = t := by
  cases s; cases t; simp_all

/-- Which regulator a motor names does not depend on the other blocks. -/
theorem State.reg_congr {s t : State} (hA : s.regA = t.regA) (hB : s.regB = t.regB) (m : Motor) :
    s.reg m = t.reg m := by
  cases m <;> assumption

/-! ### What the rules read of the tables -/

theorem activeDrive_congr {s t : State} (h : s.tab = t.tab) : activeDrive s = activeDrive t := by
  simp [activeDrive, h]

theorem driveFieldsOf_some {s : State} {d : DriveTable} (h : activeDrive s = some d) : driveFieldsOf s = d := by
  simp [driveFieldsOf, h]

theorem driveFieldsOf_congr {s t : State} (h : s.tab = t.tab) : driveFieldsOf s = driveFieldsOf t := by
  simp [driveFieldsOf, activeDrive, h]

theorem motorSet_some {s : State} {d : DriveTable} (h : activeDrive s = some d) : motorSet s = d.motorSet := by
  simp [motorSet, h]

theorem motorSet_congr {s t : State} (h : s.tab = t.tab) : motorSet s = motorSet t := by
  simp [motorSet, activeDrive, h]

theorem inDriveSet_some {s : State} {d : DriveTable} (h : activeDrive s = some d) (m : Motor) :
    inDriveSet s m = d.motorSet.has m := by
  simp [inDriveSet, h]

theorem inDriveSet_congr {s t : State} (h : s.tab = t.tab) (m : Motor) : inDriveSet s m = inDriveSet t m := by
  simp [inDriveSet, activeDrive, h]

theorem paceMotor_congr {s t : State} (h : s.tab = t.tab) : paceMotor s = paceMotor t := by
  simp [paceMotor, activeDrive, h]

theorem paceSpeed_congr {s t : State} (h : s.tab = t.tab) (hr : ∀ m, (s.reg m).speed = (t.reg m).speed) :
    paceSpeed s = paceSpeed t := by
  rw [paceSpeed, paceSpeed, hr, paceMotor_congr h]

theorem energised_congr {s t : State} (h : s.run.state = t.run.state) : energised s = energised t := by
  simp [energised, h]

/-- The READY conditions read the tables, the latch and three fields of each regulator (R4). -/
theorem readyConditions_congr {s t : State} (h : s.tab = t.tab) (hl : s.trip.latch = t.trip.latch)
    (hr : ∀ m, (s.reg m).readyOk = (t.reg m).readyOk) : readyConditions s = readyConditions t := by
  have hA : s.regA.readyOk = t.regA.readyOk := hr .A
  have hB : s.regB.readyOk = t.regB.readyOk := hr .B
  simp [readyConditions, motorSet_congr h, h, hl, hA, hB]

/-- The READY conditions need the three tables and a clear latch (R4). -/
theorem readyConditions_tables {s : State} (h : readyConditions s = true) :
    (s.tab.gain.isSome = true ∧ s.tab.limit.isSome = true ∧ s.tab.drive.isSome = true) ∧ s.trip.latch = false := by
  simp only [readyConditions, Bool.and_eq_true, Bool.not_eq_true'] at h
  obtain ⟨⟨⟨⟨⟨hg, hl⟩, hd⟩, -⟩, -⟩, ht⟩ := h
  exact ⟨⟨hg, hl, hd⟩, ht⟩

/-! ### The log -/

/-- Two states in which an event leaves the same log (R151, R153, R158). -/
structure SameLog (s t : State) : Prop where
  log : s.log = t.log
  table : eventTable s = eventTable t
  inputs : alertInputs s = alertInputs t
  pace : s.link.paceCount = t.link.paceCount

namespace SameLog

variable {s t u : State}

theorem refl (s : State) : SameLog s s := ⟨rfl, rfl, rfl, rfl⟩

theorem symm (h : SameLog s t) : SameLog t s := ⟨h.log.symm, h.table.symm, h.inputs.symm, h.pace.symm⟩

theorem trans (h : SameLog s t) (k : SameLog t u) : SameLog s u :=
  ⟨h.log.trans k.log, h.table.trans k.table, h.inputs.trans k.inputs, h.pace.trans k.pace⟩

/-- The blocks an event reads. -/
theorem of_blocks (log : s.log = t.log) (tab : s.tab.event = t.tab.event) (latch : s.trip.latch = t.trip.latch)
    (vib : s.vib.channels = t.vib.channels) (ring : s.load.ringAlert = t.load.ringAlert)
    (pace : s.link.paceCount = t.link.paceCount) : SameLog s t :=
  ⟨log, by simp [eventTable, tab], by simp [alertInputs, latch, vib, ring], pace⟩

theorem raise (h : SameLog s t) (k : EventKind) (o : Source) (f : Word) (a b : DWord) :
    SameLog (raise k o f a b s) (raise k o f a b t) where
  log := raise_log_congr _ _ _ _ _ h.log h.table h.inputs h.pace
  table := h.table
  inputs := h.inputs
  pace := h.pace

theorem judgeAlert (h : SameLog s t) : SameLog (judgeAlert s) (judgeAlert t) where
  log := judgeAlert_log_congr h.log h.table h.inputs
  table := h.table
  inputs := h.inputs
  pace := h.pace

theorem driveStateRecord (h : SameLog s t) (a b c : Nat) :
    SameLog (driveStateRecord a b c s) (driveStateRecord a b c t) := h.raise _ _ _ _ _

theorem brkEndRecord (h : SameLog s t) (a b : Nat) : SameLog (brkEndRecord a b s) (brkEndRecord a b t) :=
  h.raise _ _ _ _ _

theorem brkStartRecord (h : SameLog s t) (hv : paceSpeed s = paceSpeed t) (a b : Nat) :
    SameLog (brkStartRecord a b s) (brkStartRecord a b t) := by
  rw [Machine.brkStartRecord, Machine.brkStartRecord, hv]
  exact h.raise _ _ _ _ _

theorem tlimRecord (h : SameLog s t) (l : TorqueLimiter) : SameLog (tlimRecord l s) (tlimRecord l t) := by
  rw [Machine.tlimRecord, Machine.tlimRecord]
  split
  · exact h.raise _ _ _ _ _
  · exact h

theorem conditionsRecord (h : SameLog s t) (hr : s.run.state = t.run.state) (x : Bool) :
    SameLog (conditionsRecord x s) (conditionsRecord x t) := by
  unfold Machine.conditionsRecord
  rw [hr]
  split
  · exact h.driveStateRecord _ _ _
  · exact h.driveStateRecord _ _ _
  · exact h

/-- With the latch set the ALERT condition holds whatever else stands. -/
theorem latched (h : SameLog s t) {a b : TripController} (ha : a.latch = true) (hb : b.latch = true) :
    SameLog { s with trip := a } { t with trip := b } where
  log := h.log
  table := h.table
  inputs := by simp [alertInputs, ha, hb]
  pace := h.pace

/-- The records of a latch read, besides, the drive state and the attempt count (R15, R22, R23). -/
theorem latchRecords (h : SameLog s t) (hr : s.run.state = t.run.state) (ha : s.run.attempts = t.run.attempts)
    (c : CauseId) (v : DWord) : SameLog (latchRecords c v s) (latchRecords c v t) := by
  have hd : SameLog
      (Machine.driveStateRecord s.run.state.code 6 10
        (Machine.judgeAlert { s with trip := { s.trip with latch := true } }))
      (Machine.driveStateRecord t.run.state.code 6 10
        (Machine.judgeAlert { t with trip := { t.trip with latch := true } })) := by
    rw [hr]
    exact (h.latched rfl rfl).judgeAlert.driveStateRecord _ _ _
  unfold Machine.latchRecords
  refine SameLog.raise ?_ _ _ _ _ _
  rw [hr, ha] at *
  by_cases hb : (t.run.state = .breakaway ∨ t.run.state = .resting) ∧ c.kind ≠ .breakawayFail
  · simpa only [if_pos hb] using hd.brkEndRecord _ _
  · simpa only [if_neg hb] using hd

end SameLog

/-- Changes of blocks that no event reads. -/
theorem sameLog_changeDrive (d : DriveState) (x : DriveReason) (s : State) :
    SameLog (changeDrive d x s) (driveStateRecord s.run.state.code d.code x.code s) where
  log := changeDrive_log d x s
  table := rfl
  inputs := rfl
  pace := rfl

/-- A computation that does not limit raises nothing (R35). -/
theorem tlimRecord_of_not_limiting {l : TorqueLimiter} (h : l.stack.limiting = false) (s : State) :
    tlimRecord l s = s := by
  simp [tlimRecord, h]

/-! ### The torque computation (R28, R34, R41) -/

/-- What a computation leaves in the torque limiter (R28). -/
theorem compute_lim (s : State) :
    (compute s).lim = { limiterAfter s with stallTimer := stallTimerAfter { s with lim := limiterAfter s } } := by
  have h : stallTimerAfter (raiseTlim { s with lim := limiterAfter s })
      = stallTimerAfter { s with lim := limiterAfter s } := by
    simp [stallTimerAfter, stallHolds, paceSpeed, paceMotor, driveFieldsOf, activeDrive, State.reg]
  simp only [compute, watchStall, raiseTlim_frame, h]

/-- After a computation the stall timer runs in RUN alone (R41). -/
theorem compute_stallTimer_runs {s : State} (h : (compute s).lim.stallTimer.runs) : s.run.state = .run := by
  rw [compute_lim] at h
  by_contra hne
  exact h (by simp [stallTimerAfter, stallHolds, hne])

theorem compute_stallTimer_stopped {s : State} (h : s.run.state ≠ .run) :
    (compute s).lim.stallTimer = .stopped := by
  by_contra hne
  exact h (compute_stallTimer_runs hne)

/-- The record of a computation, by what the torque limiter holds after it (R35). -/
theorem sameLog_compute (s : State) : SameLog (compute s) (tlimRecord (compute s).lim s) := by
  have h : tlimRecord (compute s).lim s = tlimRecord (limiterAfter s) s := by rw [compute_lim]; rfl
  rw [h]
  refine ⟨compute_log s, ?_, ?_, ?_⟩ <;>
    simp only [tlimRecord] <;> split <;> simp [eventTable, alertInputs]

/-- Outside BREAKAWAY and RUN nothing is commanded (R34). -/
theorem torqueCommand_still {d : DriveState} (h : d.follows = false) (k : LimitStack) (q : Int) :
    torqueCommand d k q = 0 := by
  cases d <;> first | rfl | exact absurd h (by decide)

theorem isLimiting_still {d : DriveState} (h : d.follows = false) (q c : Int) : isLimiting d q c = false := by
  cases d <;> first | rfl | exact absurd h (by decide)

theorem compute_tCmd (s : State) : (compute s).lim.tCmd = torqueCommand s.run.state (stackOf s) s.lim.tReq := by
  rw [compute_lim]; rfl

theorem compute_tCmd_still {s : State} (h : s.run.state.follows = false) : (compute s).lim.tCmd = 0 := by
  rw [compute_tCmd, torqueCommand_still h]

/-- A computation outside BREAKAWAY and RUN raises nothing (R34, R35). -/
theorem sameLog_compute_still {s : State} (h : s.run.state.follows = false) : SameLog (compute s) s := by
  have hl : (compute s).lim.stack.limiting = false := by
    rw [compute_lim]; exact isLimiting_still h _ _
  simpa only [tlimRecord_of_not_limiting hl] using sameLog_compute s

/-- What a computation keeps of the torque limiter. -/
theorem compute_lim_kept (s : State) :
    (compute s).lim.tReq = s.lim.tReq ∧ (compute s).lim.supTime = s.lim.supTime
      ∧ (compute s).lim.tMeas = s.lim.tMeas ∧ (compute s).lim.otCount = s.lim.otCount
      ∧ (compute s).lim.missCount = s.lim.missCount ∧ (compute s).lim.spTimer = s.lim.spTimer
      ∧ (compute s).lim.supLost = s.lim.supLost ∧ (compute s).lim.stack.vibDerate = s.lim.stack.vibDerate
      ∧ (compute s).lim.stack.thermA = s.lim.stack.thermA ∧ (compute s).lim.stack.thermB = s.lim.stack.thermB := by
  rw [compute_lim]
  exact ⟨rfl, rfl, rfl, rfl, rfl, rfl, rfl, rfl, rfl, rfl⟩

/-! ### Drive states entered (R8, R10, R40) -/

@[simp] theorem TorqueLimiter.entering_off (l : TorqueLimiter) : l.entering .off = { l with otCount := 0 } := rfl
@[simp] theorem TorqueLimiter.entering_ready (l : TorqueLimiter) : l.entering .ready = { l with otCount := 0 } := rfl
@[simp] theorem TorqueLimiter.entering_tripped (l : TorqueLimiter) :
    l.entering .tripped = { l with otCount := 0 } := rfl

/-- Entering a drive state touches the overtorque count alone (R40). -/
@[simp] theorem TorqueLimiter.entering_frame (l : TorqueLimiter) (d : DriveState) :
    (l.entering d).stack = l.stack ∧ (l.entering d).tReq = l.tReq ∧ (l.entering d).tCmd = l.tCmd
      ∧ (l.entering d).supTime = l.supTime ∧ (l.entering d).shareA = l.shareA ∧ (l.entering d).shareB = l.shareB
      ∧ (l.entering d).iqRefA = l.iqRefA ∧ (l.entering d).iqRefB = l.iqRefB ∧ (l.entering d).tMeas = l.tMeas
      ∧ (l.entering d).stallTimer = l.stallTimer ∧ (l.entering d).missCount = l.missCount
      ∧ (l.entering d).spTimer = l.spTimer ∧ (l.entering d).supLost = l.supLost := by
  unfold TorqueLimiter.entering; split <;> simp

theorem RunController.entering_ready (r : RunController) :
    r.entering .ready = { r with state := .ready, runEdge := false, attempts := 0 } := rfl

theorem RunController.entering_off (r : RunController) : r.entering .off = { r with state := .off, attempts := 0 } :=
  rfl

/-- Everything an evaluation point can do: OFF goes to READY, READY to OFF, or nothing changes (R5). -/
theorem evaluateReady_cases (s : State) :
    (s.run.state = .off ∧ readyConditions s = true
        ∧ evaluateReady s = compute (changeDrive .ready .conditions s))
      ∨ (s.run.state = .ready ∧ readyConditions s = false
        ∧ evaluateReady s = compute (changeDrive .off .conditions s))
      ∨ (¬(s.run.state = .off ∧ readyConditions s = true) ∧ ¬(s.run.state = .ready ∧ readyConditions s = false)
        ∧ evaluateReady s = s) := by
  unfold evaluateReady
  cases s.run.state <;> cases readyConditions s <;> simp

/-- The record of an evaluation point (R5, R22). -/
theorem sameLog_evaluateReady (s : State) :
    SameLog (evaluateReady s) (conditionsRecord (readyConditions s) s) := by
  obtain ⟨hs, hc, he⟩ | ⟨hs, hc, he⟩ | ⟨h, h', he⟩ := evaluateReady_cases s
  · simp only [he, conditionsRecord, hs, hc]
    have hd := sameLog_changeDrive .ready .conditions s
    rw [hs] at hd
    exact (sameLog_compute_still (by simp [DriveState.follows])).trans hd
  · simp only [he, conditionsRecord, hs, hc]
    have hd := sameLog_changeDrive .off .conditions s
    rw [hs] at hd
    exact (sameLog_compute_still (by simp [DriveState.follows])).trans hd
  · have hq : conditionsRecord (readyConditions s) s = s := by
      unfold conditionsRecord
      split <;> simp_all
    rw [he, hq]
    exact .refl s

/-- The run controller after an evaluation point (R5, R8, R10). -/
theorem evaluateReady_run (s : State) :
    (evaluateReady s).run =
      if s.run.state = .off ∧ readyConditions s = true then
        { s.run with state := .ready, runEdge := false, attempts := 0 }
      else if s.run.state = .ready ∧ readyConditions s = false then { s.run with state := .off, attempts := 0 }
      else s.run := by
  obtain ⟨hs, hc, he⟩ | ⟨hs, hc, he⟩ | ⟨h, h', he⟩ := evaluateReady_cases s
  · simp [he, hs, hc, RunController.entering]
  · simp [he, hs, hc, RunController.entering]
  · rw [he, if_neg h, if_neg h']

/-- What an evaluation point keeps of the torque limiter. -/
theorem evaluateReady_lim_kept (s : State) :
    (evaluateReady s).lim.tReq = s.lim.tReq ∧ (evaluateReady s).lim.supTime = s.lim.supTime
      ∧ (evaluateReady s).lim.missCount = s.lim.missCount ∧ (evaluateReady s).lim.spTimer = s.lim.spTimer
      ∧ (evaluateReady s).lim.supLost = s.lim.supLost
      ∧ (evaluateReady s).lim.stack.vibDerate = s.lim.stack.vibDerate
      ∧ (evaluateReady s).lim.stack.thermA = s.lim.stack.thermA
      ∧ (evaluateReady s).lim.stack.thermB = s.lim.stack.thermB := by
  obtain ⟨-, -, he⟩ | ⟨-, -, he⟩ | ⟨-, -, he⟩ := evaluateReady_cases s <;> simp [he, compute_lim_kept]

/-! ### Blocking commands (R3) -/

/-- Sending a command on one port keeps the link's agreement (R177). -/
theorem LinkLaw.sendVcmd {l : Link} (h : LinkLaw l) (m : Motor) (v : Vcmd) : LinkLaw (l.sendVcmd m v) := by
  have push (t : VcmdTransmitter) (q : Seq) (hw : t.sending = none → t.waiting = []) :
      (t.push q v).1.sending = none → (t.push q v).1.waiting = [] := by
    unfold VcmdTransmitter.push
    split <;> simp_all
  cases m with
  | A => exact ⟨h.sending, h.waiting, push _ _ h.m0, h.m1, h.errors, h.gaps, h.skipped⟩
  | B => exact ⟨h.sending, h.waiting, h.m0, push _ _ h.m1, h.errors, h.gaps, h.skipped⟩

/-- A command sent touches the motor's transmitter and its outbound sequence alone. -/
theorem Link.sendVcmd_frame (l : Link) (m : Motor) (v : Vcmd) :
    l.sendVcmd m v = { l with
      m0Tx := (l.sendVcmd m v).m0Tx, m1Tx := (l.sendVcmd m v).m1Tx, outM0 := (l.sendVcmd m v).outM0,
      outM1 := (l.sendVcmd m v).outM1 } := by
  cases m <;> rfl

theorem sendBlocking_link (m : Motor) (s : State) :
    (sendBlocking m s).link = s.link.sendVcmd m (blockingCommand (s.reg m)) := by
  cases m <;> rfl

theorem sendBlocking_reg (m k : Motor) (s : State) :
    (sendBlocking m s).reg k =
      if k = m then { s.reg m with intD := 0, intQ := 0, vdLast := 0, vqLast := 0 } else s.reg k := by
  cases m <;> cases k <;> rfl

theorem clearIntegrators_reg (m k : Motor) (s : State) :
    (clearIntegrators m s).reg k = if k = m then { s.reg m with intD := 0, intQ := 0 } else s.reg k := by
  cases m <;> cases k <;> rfl

/-- At a change out of the energised states a regulator sends a blocking command where it has had feedback, but
for the one whose own arrival or expiry it is (R3, R58, R66). -/
def blocksNow (own : Option Motor) (m : Motor) (r : Regulator) : Bool := own != some m && r.seen

theorem blocksNow_iff {own : Option Motor} {m : Motor} {r : Regulator} :
    blocksNow own m r = true ↔ own ≠ some m ∧ r.seen = true := by
  simp [blocksNow]

/-- A regulator after the change: both integrators cleared, and the voltages of a command it sent (R3, R50). -/
def Regulator.blocked (r : Regulator) (sends : Bool) : Regulator :=
  { r with
    intD := 0, intQ := 0
    vdLast := if sends then 0 else r.vdLast
    vqLast := if sends then 0 else r.vqLast }

theorem blockAtChange_eq (own : Option Motor) (m : Motor) (s : State) :
    blockAtChange own m s = if blocksNow own m (s.reg m) then sendBlocking m s else clearIntegrators m s := by
  by_cases ho : own = some m <;> cases hs : (s.reg m).seen <;> simp [blockAtChange, blocksNow, ho, hs]

theorem blockAtChange_reg (own : Option Motor) (m k : Motor) (s : State) :
    (blockAtChange own m s).reg k =
      if k = m then (s.reg m).blocked (blocksNow own m (s.reg m)) else s.reg k := by
  rw [blockAtChange_eq]
  cases blocksNow own m (s.reg m) <;> simp [sendBlocking_reg, clearIntegrators_reg, Regulator.blocked]

theorem blockAtChange_link (own : Option Motor) (m : Motor) (s : State) :
    (blockAtChange own m s).link =
      if blocksNow own m (s.reg m) then s.link.sendVcmd m (blockingCommand (s.reg m)) else s.link := by
  rw [blockAtChange_eq]
  split <;> simp [sendBlocking_link]

/-- Both regulators after a change out of the energised states (R3). -/
theorem blockBoth_reg (own : Option Motor) (s : State) (m : Motor) :
    (blockBoth own s).reg m = (s.reg m).blocked (blocksNow own m (s.reg m)) := by
  cases m <;> simp only [blockBoth, blockAtChange_reg] <;> simp

/-- The link after a change out of the energised states, motor A's port first (R3). -/
theorem blockBoth_link (own : Option Motor) (s : State) :
    (blockBoth own s).link =
      let l := if blocksNow own .A (s.reg .A) then s.link.sendVcmd .A (blockingCommand (s.reg .A)) else s.link
      if blocksNow own .B (s.reg .B) then l.sendVcmd .B (blockingCommand (s.reg .B)) else l := by
  simp only [blockBoth, blockAtChange_link, blockAtChange_reg]
  rfl

theorem blockBoth_link_congr (own : Option Motor) {s t : State} (hA : s.regA = t.regA) (hB : s.regB = t.regB)
    (hl : s.link = t.link) : (blockBoth own s).link = (blockBoth own t).link := by
  rw [blockBoth_link, blockBoth_link, State.reg_congr hA hB .A, State.reg_congr hA hB .B, hl]

/-- Each port takes the one blocking command of its regulator (R3, R177). -/
theorem blockBoth_vcmds (own : Option Motor) (s : State) (h : LinkLaw s.link) (m : Motor) :
    (blockBoth own s).link.vcmds m = s.link.vcmds m ++
      if blocksNow own m (s.reg m) then [blockingCommand (s.reg m)] else [] := by
  rw [blockBoth_link]
  have hA (k : Motor) : (s.link.sendVcmd .A (blockingCommand (s.reg .A))).vcmds k = _ :=
    Link.vcmds_sendVcmd _ _ _ _ h
  have hB (k : Motor) : ((s.link.sendVcmd .A (blockingCommand (s.reg .A))).sendVcmd .B
      (blockingCommand (s.reg .B))).vcmds k = _ := Link.vcmds_sendVcmd _ _ _ _ (h.sendVcmd _ _)
  have hB' (k : Motor) : (s.link.sendVcmd .B (blockingCommand (s.reg .B))).vcmds k = _ :=
    Link.vcmds_sendVcmd _ _ _ _ h
  cases m <;> cases blocksNow own .A (s.reg .A) <;> cases blocksNow own .B (s.reg .B) <;>
    simp only [hA, hB, hB', if_true, if_false, Bool.false_eq_true, reduceCtorEq, List.append_nil]

/-- Blocking commands touch the transmitters of M0 and M1 and their outbound sequences alone. -/
theorem blockBoth_link_frame (own : Option Motor) (s : State) :
    (blockBoth own s).link = { s.link with
      m0Tx := (blockBoth own s).link.m0Tx, m1Tx := (blockBoth own s).link.m1Tx
      outM0 := (blockBoth own s).link.outM0, outM1 := (blockBoth own s).link.outM1 } := by
  rw [blockBoth_link]
  cases blocksNow own .A (s.reg .A) <;> cases blocksNow own .B (s.reg .B) <;> rfl

@[simp] theorem blockBoth_paceCount (own : Option Motor) (s : State) :
    (blockBoth own s).link.paceCount = s.link.paceCount := by
  rw [blockBoth_link_frame]

/-- No event reads what blocking commands change. -/
theorem sameLog_blockBoth (own : Option Motor) (s : State) : SameLog (blockBoth own s) s :=
  .of_blocks (by simp) (by simp) (by simp) (by simp) (by simp) (by simp)

end Sys2Proof.Machine

/-! A cause delivered (R19, R102, R103, R116): what the latch, the entry into TRIPPED and the trigger put in each
block, and that a cause which finds the latch set touches the list and the log alone. -/

namespace Sys2Proof.Machine

/-! ### The computation, by what it reads -/

theorem limiterAfter_congr {s t : State} (hr : s.run.state = t.run.state) (hl : s.lim = t.lim) (ht : s.tab = t.tab)
    (hv : paceSpeed s = paceSpeed t) : limiterAfter s = limiterAfter t := by
  simp only [limiterAfter, stackOf, baseLimits, singleMotorCap, shares, iqRef, motorSet, activeLimit, activeDrive,
    driveFieldsOf, hr, hl, ht, hv]

theorem stallTimerAfter_congr {s t : State} (hr : s.run.state = t.run.state) (hl : s.lim = t.lim) (ht : s.tab = t.tab)
    (hv : paceSpeed s = paceSpeed t) : stallTimerAfter s = stallTimerAfter t := by
  simp only [stallTimerAfter, stallHolds, driveFieldsOf, activeDrive, hr, hl, ht, hv]
  rfl

/-- What a computation leaves in the torque limiter is a matter of the drive state, the limiter, the tables and the
pace motor's speed (R28). -/
theorem compute_lim_congr {s t : State} (hr : s.run.state = t.run.state) (hl : s.lim = t.lim) (ht : s.tab = t.tab)
    (hv : paceSpeed s = paceSpeed t) : (compute s).lim = (compute t).lim := by
  have hw : stallTimerAfter { s with lim := limiterAfter t } = stallTimerAfter { t with lim := limiterAfter t } :=
    stallTimerAfter_congr hr rfl ht hv
  rw [compute_lim, compute_lim, limiterAfter_congr hr hl ht hv, hw]

@[simp] theorem Regulator.blocked_kept (r : Regulator) (x : Bool) :
    (r.blocked x).seen = r.seen ∧ (r.blocked x).lastSeq = r.lastSeq ∧ (r.blocked x).idMeas = r.idMeas
      ∧ (r.blocked x).iqMeas = r.iqMeas ∧ (r.blocked x).speed = r.speed ∧ (r.blocked x).dcLink = r.dcLink
      ∧ (r.blocked x).temp = r.temp ∧ (r.blocked x).modState = r.modState
      ∧ (r.blocked x).faultCode = r.faultCode ∧ (r.blocked x).therm = r.therm ∧ (r.blocked x).band = r.band
      ∧ (r.blocked x).missCount = r.missCount ∧ (r.blocked x).fbTimer = r.fbTimer
      ∧ (r.blocked x).overtemp = r.overtemp ∧ (r.blocked x).modFault = r.modFault
      ∧ (r.blocked x).fbLost = r.fbLost ∧ (r.blocked x).intD = 0 ∧ (r.blocked x).intQ = 0
      ∧ (r.blocked x).readyOk = r.readyOk := by
  simp [Regulator.blocked, Regulator.readyOk]

/-! ### The entry into TRIPPED (R19) -/

/-- The run controller in TRIPPED: its timers stopped, all else kept (R19). -/
def RunController.tripped (r : RunController) : RunController :=
  { r with state := .tripped, brkTimer := .stopped, restTimer := .stopped, stopTimer := .stopped }

/-- The state in which the torque limiter computes at a trip (R28, R40), the other blocks aside. -/
def trippedFrom (s : State) : State := { s with run := s.run.tripped, lim := { s.lim with otCount := 0 } }

/-- The part of the entry before blocking and computation: the change of state with its records (R15, R19). -/
def tripRecorded (k : CauseKind) (s : State) : State :=
  let x := changeDrive .tripped .trip { s with run := s.run.stopTimers }
  if inBreakaway s.run.state && k != .breakawayFail then raiseBrkEnd .abandoned x else x

/-- The entry with a computation of its own, and inside a setpoint (R28). -/
theorem enterTripped_eq (d : Delivery) (k : CauseKind) (s : State) :
    enterTripped d k s =
      let x := if energised s then blockBoth d.own (tripRecorded k s) else tripRecorded k s
      if d.inSetpoint then x else compute x := rfl

@[simp] theorem tripRecorded_frame (k : CauseKind) (s : State) :
    (tripRecorded k s).run = s.run.tripped ∧ (tripRecorded k s).lim = { s.lim with otCount := 0 }
      ∧ (tripRecorded k s).regA = s.regA ∧ (tripRecorded k s).regB = s.regB ∧ (tripRecorded k s).vib = s.vib
      ∧ (tripRecorded k s).load = s.load ∧ (tripRecorded k s).trip = s.trip
      ∧ (tripRecorded k s).recorder = s.recorder ∧ (tripRecorded k s).store = s.store
      ∧ (tripRecorded k s).tab = s.tab ∧ (tripRecorded k s).link = s.link
      ∧ (tripRecorded k s).pending = s.pending := by
  unfold tripRecorded
  dsimp only
  split <;> simp [RunController.entering, RunController.stopTimers, RunController.tripped]

theorem tripRecorded_reg (k : CauseKind) (s : State) (m : Motor) : (tripRecorded k s).reg m = s.reg m :=
  State.reg_congr (by simp) (by simp) m

theorem blockBoth_tripRecorded_reg (o : Option Motor) (k : CauseKind) (s : State) (m : Motor) :
    (blockBoth o (tripRecorded k s)).reg m = (s.reg m).blocked (blocksNow o m (s.reg m)) := by
  rw [blockBoth_reg, tripRecorded_reg]

theorem enterTripped_run (d : Delivery) (k : CauseKind) (s : State) : (enterTripped d k s).run = s.run.tripped := by
  rw [enterTripped_eq]
  dsimp only
  (repeat' split) <;> simp

/-- The torque limiter after the entry into TRIPPED (R28, R40). -/
theorem enterTripped_lim (d : Delivery) (k : CauseKind) (s : State) :
    (enterTripped d k s).lim =
      if d.inSetpoint then { s.lim with otCount := 0 } else (compute (trippedFrom s)).lim := by
  have hv (o : Option Motor) (m : Motor) :
      ((blockBoth o (tripRecorded k s)).reg m).speed = ((trippedFrom s).reg m).speed := by
    rw [blockBoth_tripRecorded_reg]
    simp only [Regulator.blocked_kept]
    rfl
  rw [enterTripped_eq]
  dsimp only
  split
  · split <;> simp
  · split
    · exact compute_lim_congr (by simp [trippedFrom]) (by simp [trippedFrom]) (by simp [trippedFrom])
        (paceSpeed_congr (by simp [trippedFrom]) (hv _))
    · exact compute_lim_congr (by simp [trippedFrom]) (by simp [trippedFrom]) (by simp [trippedFrom])
        (paceSpeed_congr (by simp [trippedFrom]) fun m => congrArg _ (tripRecorded_reg k s m))

/-- The regulators after the entry into TRIPPED (R3). -/
theorem enterTripped_reg (d : Delivery) (k : CauseKind) (s : State) (m : Motor) :
    (enterTripped d k s).reg m =
      if energised s then (s.reg m).blocked (blocksNow d.own m (s.reg m)) else s.reg m := by
  have hc (x : State) : (compute x).reg m = x.reg m := State.reg_congr (by simp) (by simp) m
  rw [enterTripped_eq]
  dsimp only
  cases energised s <;> cases d.inSetpoint <;>
    simp only [if_true, if_false, Bool.false_eq_true, hc, blockBoth_tripRecorded_reg, tripRecorded_reg]

/-- The link after the entry into TRIPPED (R3). -/
theorem enterTripped_link (d : Delivery) (k : CauseKind) (s : State) :
    (enterTripped d k s).link = if energised s then (blockBoth d.own s).link else s.link := by
  have hb : (blockBoth d.own (tripRecorded k s)).link = (blockBoth d.own s).link :=
    blockBoth_link_congr _ (by simp) (by simp) (by simp)
  rw [enterTripped_eq]
  dsimp only
  cases energised s <;> cases d.inSetpoint <;>
    simp only [if_true, if_false, Bool.false_eq_true, compute_frame, hb, tripRecorded_frame]

/-- The records of the entry into TRIPPED (R15, R22, R23). -/
theorem sameLog_tripRecorded (k : CauseKind) (s : State) :
    SameLog (tripRecorded k s)
      (if (s.run.state = .breakaway ∨ s.run.state = .resting) ∧ k ≠ .breakawayFail then
        brkEndRecord 2 s.run.attempts (driveStateRecord s.run.state.code 6 10 s)
      else driveStateRecord s.run.state.code 6 10 s) := by
  have hd : SameLog (changeDrive .tripped .trip { s with run := s.run.stopTimers })
      (driveStateRecord s.run.state.code 6 10 s) :=
    (sameLog_changeDrive .tripped .trip { s with run := s.run.stopTimers }).trans
      (SameLog.driveStateRecord (s := { s with run := s.run.stopTimers }) (t := s)
        (.of_blocks rfl rfl rfl rfl rfl rfl) _ _ _)
  have hif : ((s.run.state = .breakaway ∨ s.run.state = .resting) ∧ k ≠ .breakawayFail)
      ↔ (inBreakaway s.run.state && k != .breakawayFail) = true := by
    simp [inBreakaway]
  simp only [tripRecorded, hif]
  split
  · exact hd.brkEndRecord 2 _
  · exact hd

theorem sameLog_enterTripped (d : Delivery) (k : CauseKind) (s : State) :
    SameLog (enterTripped d k s)
      (if (s.run.state = .breakaway ∨ s.run.state = .resting) ∧ k ≠ .breakawayFail then
        brkEndRecord 2 s.run.attempts (driveStateRecord s.run.state.code 6 10 s)
      else driveStateRecord s.run.state.code 6 10 s) := by
  have hb : SameLog (if energised s then blockBoth d.own (tripRecorded k s) else tripRecorded k s)
      (tripRecorded k s) := by
    split
    · exact sameLog_blockBoth _ _
    · exact .refl _
  have hstill : (if energised s then blockBoth d.own (tripRecorded k s) else tripRecorded k s).run.state.follows
      = false := by
    split <;> simp [RunController.tripped, DriveState.follows]
  rw [enterTripped_eq]
  dsimp only
  split
  · exact hb.trans (sameLog_tripRecorded k s)
  · exact (sameLog_compute_still hstill).trans (hb.trans (sameLog_tripRecorded k s))

/-! ### The latch (R102, R105, R116) -/

theorem setLatch_trip (c : CauseId) (v : DWord) (s : State) :
    (setLatch c v s).trip = { s.trip with latch := true, list := [causeEntry c v s], tripLine := true } := by
  simp [setLatch]

/-- The trigger of an ARMED recorder (R116). -/
theorem triggerRecorder_recorder (s : State) :
    (triggerRecorder s).recorder =
      if s.recorder.state = .armed then
        { s.recorder with
          state := .post
          ring := newest (preCountAt s) s.recorder.ring
          preCount := (newest (preCountAt s) s.recorder.ring).length
          postCount := 0
          postTarget := 256 - preCountAt s
          postTimer := .running (postLimitAt s)
          trigger := triggerCopy s }
      else s.recorder := by
  unfold triggerRecorder
  cases hs : s.recorder.state <;> simp

theorem length_newest (n : Nat) (l : List Snapshot) : (newest n l).length = min l.length n := by
  simp only [newest, List.length_drop]
  omega

theorem latchTrip_run (d : Delivery) (c : CauseId) (v : DWord) (s : State) :
    (latchTrip d c v s).run = s.run.tripped := by
  simp [latchTrip, enterTripped_run]

theorem latchTrip_trip (d : Delivery) (c : CauseId) (v : DWord) (s : State) :
    (latchTrip d c v s).trip = { s.trip with latch := true, list := [causeEntry c v s], tripLine := true } := by
  simp [latchTrip, setLatch_trip]

theorem latchTrip_lim (d : Delivery) (c : CauseId) (v : DWord) (s : State) :
    (latchTrip d c v s).lim =
      if d.inSetpoint then { s.lim with otCount := 0 } else (compute (trippedFrom s)).lim := by
  have h : (compute (trippedFrom (setLatch c v s))).lim = (compute (trippedFrom s)).lim :=
    compute_lim_congr (by simp [trippedFrom]) (by simp [trippedFrom]) (by simp [trippedFrom])
      (paceSpeed_congr (by simp [trippedFrom])
        fun m => congrArg _ (State.reg_congr (by simp [trippedFrom]) (by simp [trippedFrom]) m))
  simp [latchTrip, enterTripped_lim, h]

theorem latchTrip_reg (d : Delivery) (c : CauseId) (v : DWord) (s : State) (m : Motor) :
    (latchTrip d c v s).reg m =
      if energised s then (s.reg m).blocked (blocksNow d.own m (s.reg m)) else s.reg m := by
  have h : (latchTrip d c v s).reg m = (enterTripped d c.kind (setLatch c v s)).reg m :=
    State.reg_congr (by simp [latchTrip]) (by simp [latchTrip]) m
  have hs : (setLatch c v s).reg m = s.reg m := State.reg_congr (by simp) (by simp) m
  have he : energised (setLatch c v s) = energised s := energised_congr (by simp)
  rw [h, enterTripped_reg, hs, he]

theorem latchTrip_link (d : Delivery) (c : CauseId) (v : DWord) (s : State) :
    (latchTrip d c v s).link = if energised s then (blockBoth d.own s).link else s.link := by
  have hb : (blockBoth d.own (setLatch c v s)).link = (blockBoth d.own s).link :=
    blockBoth_link_congr _ (by simp) (by simp) (by simp)
  have he : energised (setLatch c v s) = energised s := energised_congr (by simp)
  simp [latchTrip, enterTripped_link, hb, he]

/-- The recorder after a latch: an ARMED one is triggered, with the limits that stand after it (R116). -/
theorem latchTrip_recorder (d : Delivery) (c : CauseId) (v : DWord) (s : State) :
    (latchTrip d c v s).recorder =
      if s.recorder.state = .armed then
        { s.recorder with
          state := .post
          ring := newest (preCountAt s) s.recorder.ring
          preCount := (newest (preCountAt s) s.recorder.ring).length
          postCount := 0
          postTarget := 256 - preCountAt s
          postTimer := .running (postLimitAt s)
          trigger := {
            pace := s.link.paceCount, supTime := s.lim.supTime, lFwd := (latchTrip d c v s).lim.stack.lFwd
            derate := (latchTrip d c v s).lim.stack.derate, attempts := s.run.attempts, dcA := s.regA.dcLink
            tempA := s.regA.temp, dcB := s.regB.dcLink, tempB := s.regB.temp } }
      else s.recorder := by
  have hlim : (latchTrip d c v s).lim = (enterTripped d c.kind (setLatch c v s)).lim := by simp [latchTrip]
  have hreg (m : Motor) : ((enterTripped d c.kind (setLatch c v s)).reg m).dcLink = (s.reg m).dcLink
      ∧ ((enterTripped d c.kind (setLatch c v s)).reg m).temp = (s.reg m).temp := by
    have hs : (setLatch c v s).reg m = s.reg m := State.reg_congr (by simp) (by simp) m
    rw [enterTripped_reg, hs]
    split <;> simp
  have hsup : (enterTripped d c.kind (setLatch c v s)).lim.supTime = s.lim.supTime := by
    rw [enterTripped_lim]
    split <;> simp [compute_lim_kept, trippedFrom]
  have hpace : (enterTripped d c.kind (setLatch c v s)).link.paceCount = s.link.paceCount := by
    rw [enterTripped_link]
    split <;> simp
  have hdrive : activeDrive (enterTripped d c.kind (setLatch c v s)) = activeDrive s := activeDrive_congr (by simp)
  have hrec : (latchTrip d c v s).recorder
      = (triggerRecorder (enterTripped d c.kind (setLatch c v s))).recorder := by simp [latchTrip]
  have hA := hreg .A
  have hB := hreg .B
  simp only [State.reg_A, State.reg_B] at hA hB
  rw [hrec, triggerRecorder_recorder, hlim]
  simp [triggerCopy, preCountAt, postLimitAt, hdrive, hsup, hpace, hA, hB, enterTripped_run,
    RunController.tripped]

/-- The records of a latch (R102, R105). -/
theorem sameLog_latchTrip (d : Delivery) (c : CauseId) (v : DWord) (s : State) :
    SameLog (latchTrip d c v s) (latchRecords c v s) := by
  have ht (t : State) : SameLog (triggerRecorder t) t :=
    .of_blocks (by simp) (by simp) (by simp) (by simp) (by simp) (by simp)
  have hj : SameLog (setLatch c v s) (judgeAlert { s with trip := { s.trip with latch := true } }) :=
    SameLog.judgeAlert ((SameLog.refl s).latched rfl rfl)
  have hd := hj.driveStateRecord s.run.state.code 6 10
  refine SameLog.raise (((ht _).trans (sameLog_enterTripped d c.kind (setLatch c v s))).trans ?_) _ _ _ _ _
  simp only [setLatch_frame]
  split
  · exact hd.brkEndRecord _ _
  · exact hd

/-! ### A cause that finds the latch set (R103) -/

/-- A later cause touches the list, the overflow and the log alone, and what it does is one of four things. -/
theorem appendCause_cases (c : CauseId) (v : DWord) (s : State) :
    ((∃ e ∈ s.trip.list, e.id = c) ∧ appendCause c v s = s)
      ∨ ((∀ e ∈ s.trip.list, e.id ≠ c) ∧ s.trip.list.length < 8
        ∧ appendCause c v s
          = raiseTrip 1 c v { s with trip := { s.trip with list := s.trip.list ++ [causeEntry c v s] } })
      ∨ ((∀ e ∈ s.trip.list, e.id ≠ c) ∧ 8 ≤ s.trip.list.length ∧ c ∉ s.trip.overflowSet
        ∧ appendCause c v s = raiseTrip 2 c v { s with trip := { s.trip with
            overflowSet := s.trip.overflowSet ++ [c], overflowCount := s.trip.overflowCount + 1 } })
      ∨ ((∀ e ∈ s.trip.list, e.id ≠ c) ∧ 8 ≤ s.trip.list.length ∧ c ∈ s.trip.overflowSet
        ∧ appendCause c v s = s) := by
  unfold appendCause
  by_cases hl : s.trip.list.any (fun e => e.id == c) = true
  · exact .inl ⟨by simpa using hl, by simp [hl]⟩
  · have hn : ∀ e ∈ s.trip.list, e.id ≠ c := by simpa using hl
    by_cases h8 : s.trip.list.length < 8
    · exact .inr (.inl ⟨hn, h8, by simp [hl, h8]⟩)
    · by_cases ho : c ∈ s.trip.overflowSet
      · exact .inr (.inr (.inr ⟨hn, by omega, ho, by simp [hl, h8, ho]⟩))
      · exact .inr (.inr (.inl ⟨hn, by omega, ho, by simp [hl, h8, ho]⟩))

theorem deliverCause_latched {s : State} (h : s.trip.latch = true) (d : Delivery) (c : CauseId) (v : DWord) :
    deliverCause d c v s = appendCause c v s := by
  simp [deliverCause, h]

theorem deliverCause_clear {s : State} (h : s.trip.latch = false) (d : Delivery) (c : CauseId) (v : DWord) :
    deliverCause d c v s = latchTrip d c v s := by
  simp [deliverCause, h]

end Sys2Proof.Machine

/-! The law of drive state, latch, list and timers (O3), taken apart by the blocks it reads, and each part kept by
the operations that write it. -/

namespace Sys2Proof.Machine

/-! ### The parts of the law -/

/-- The part of the law that reads the cause list alone (R100, R103, R104). -/
structure CauseListLaw (t : TripController) : Prop where
  listed : t.latch = true ↔ t.list ≠ []
  line : t.tripLine = t.latch
  short : t.list.length ≤ 8
  distinct : (t.listed ++ t.overflowSet).Nodup
  late : ∀ c ∈ t.listed.tail ++ t.overflowSet, c ∈ lateCauses
  counted : t.overflowCount = t.overflowSet.length
  full : t.overflowSet ≠ [] → t.list.length = 8

/-- The part that reads the run controller alone (R10 to R18). -/
structure RunTimersLaw (r : RunController) : Prop where
  brkTime : r.brkTimer.runs ↔ r.state = .breakaway
  brkRest : r.restTimer.runs ↔ r.state = .resting
  stopTime : r.stopTimer.runs ↔ r.state = .stopping
  noAttempt : r.state = .off ∨ r.state = .ready → r.attempts = 0
  someAttempt : r.state = .breakaway ∨ r.state = .resting → 1 ≤ r.attempts

/-- The three tables of READY and the energised states are active (R4). -/
def TableManager.driveable (t : TableManager) : Prop :=
  t.gain.isSome = true ∧ t.limit.isSome = true ∧ t.drive.isSome = true

/-- The states that need the three tables (R4). -/
def DriveState.needsTables (d : DriveState) : Prop := d = .ready ∨ d.energised = true

/-- Seven late entries and an overflow set are at most the eleven late causes (R100). -/
theorem CauseListLaw.few {t : TripController} (h : CauseListLaw t) : t.overflowCount ≤ 4 := by
  by_cases ho : t.overflowSet = []
  · simp [h.counted, ho]
  · have hnodup : (t.listed.tail ++ t.overflowSet).Nodup :=
      h.distinct.sublist ((List.tail_sublist _).append (List.Sublist.refl _))
    have hlen : (t.listed.tail ++ t.overflowSet).length ≤ lateCauses.length :=
      (hnodup.subperm h.late).length_le
    have h7 : t.listed.tail.length = 7 := by
      simp [TripController.listed, h.full ho]
    have h11 : lateCauses.length = 11 := rfl
    rw [List.length_append, h7, h11] at hlen
    have := h.counted
    omega

/-- The law is that of the list, that of the run controller, and what ties the blocks together. -/
theorem runTripLaw_iff (s : State) :
    RunTripLaw s ↔ CauseListLaw s.trip ∧ RunTimersLaw s.run ∧ (s.trip.latch = true ↔ s.run.state = .tripped)
      ∧ (s.run.state.needsTables → s.tab.driveable) ∧ (s.lim.stallTimer.runs → s.run.state = .run) := by
  constructor
  · intro h
    exact ⟨⟨h.listed, h.line, h.short, h.distinct, h.late, h.counted, h.full⟩,
      ⟨h.brkTime, h.brkRest, h.stopTime, h.noAttempt, h.someAttempt⟩, h.tripped, h.tables, h.stall⟩
  · rintro ⟨hl, hr, ht, htab, hs⟩
    exact ⟨ht, hl.listed, hl.line, hl.short, hl.distinct, hl.late, hl.counted, hl.full, hl.few, htab,
      hr.brkTime, hr.brkRest, hr.stopTime, hs, hr.noAttempt, hr.someAttempt⟩

/-! ### The cause list -/

/-- A list without a trip: latch and line clear, no entry, no overflow (R111, R112). -/
theorem CauseListLaw.clear {t : TripController} (hl : t.latch = false) (he : t.list = []) (hc : t.overflowCount = 0)
    (ho : t.overflowSet = []) (hn : t.tripLine = false) : CauseListLaw t := by
  constructor <;> simp [hl, he, hc, ho, hn, TripController.listed]

/-- A clear latch has no entry and no overflow. -/
theorem CauseListLaw.overflow_of_clear {t : TripController} (h : CauseListLaw t) (hl : t.latch = false) :
    t.overflowSet = [] ∧ t.overflowCount = 0 := by
  have he : t.list = [] := by
    by_contra hne
    simp [h.listed.mpr hne] at hl
  have ho : t.overflowSet = [] := by
    by_contra hne
    have h8 := h.full hne
    simp [he] at h8
  exact ⟨ho, by simp [h.counted, ho]⟩

/-- The first cause (R102). -/
theorem CauseListLaw.latch {t : TripController} (h : CauseListLaw t) (hl : t.latch = false) (e : CauseEntry) :
    CauseListLaw { t with latch := true, list := [e], tripLine := true } := by
  obtain ⟨ho, hc⟩ := h.overflow_of_clear hl
  constructor <;> simp [ho, hc, TripController.listed]

theorem not_mem_listed {t : TripController} {c : CauseId} (h : ∀ e ∈ t.list, e.id ≠ c) : c ∉ t.listed := by
  simpa [TripController.listed] using h

/-- A later cause in a list with room (R103). -/
theorem CauseListLaw.append {t : TripController} (h : CauseListLaw t) (hl : t.latch = true) {e : CauseEntry}
    (hlate : e.id ∈ lateCauses) (hnew : ∀ x ∈ t.list, x.id ≠ e.id) (hroom : t.list.length < 8) :
    CauseListLaw { t with list := t.list ++ [e] } := by
  have hne := h.listed.mp hl
  have ho : t.overflowSet = [] := by
    by_contra ho
    have := h.full ho
    omega
  have hlisted : ({ t with list := t.list ++ [e] } : TripController).listed = t.listed ++ [e.id] := by
    simp [TripController.listed]
  have hne' : t.listed ≠ [] := by simpa [TripController.listed] using hne
  refine ⟨by simp [hl], h.line, by simp; omega, ?_, ?_, h.counted, by simp [ho]⟩
  · rw [hlisted]
    show ((t.listed ++ [e.id]) ++ t.overflowSet).Nodup
    rw [ho, List.append_nil]
    exact List.nodup_append.mpr ⟨by simpa [ho] using h.distinct, by simp, by
      intro a ha b hb hab
      simp only [List.mem_singleton] at hb
      exact not_mem_listed hnew (hb ▸ hab ▸ ha)⟩
  · rw [hlisted, List.tail_append_of_ne_nil hne']
    show ∀ c ∈ (t.listed.tail ++ [e.id]) ++ t.overflowSet, c ∈ lateCauses
    intro c hc
    rw [ho, List.append_nil, List.mem_append, List.mem_singleton] at hc
    rcases hc with hc | rfl
    · exact h.late c (List.mem_append_left _ hc)
    · exact hlate

/-- A later cause beyond a full list (R103). -/
theorem CauseListLaw.overflow {t : TripController} (h : CauseListLaw t) {c : CauseId} (hlate : c ∈ lateCauses)
    (hnew : ∀ x ∈ t.list, x.id ≠ c) (hfull : 8 ≤ t.list.length) (hover : c ∉ t.overflowSet) :
    CauseListLaw { t with overflowSet := t.overflowSet ++ [c], overflowCount := t.overflowCount + 1 } := by
  refine ⟨h.listed, h.line, h.short, ?_, ?_, by simp [h.counted], fun _ => ?_⟩
  · show (t.listed ++ (t.overflowSet ++ [c])).Nodup
    rw [← List.append_assoc]
    exact List.nodup_append.mpr ⟨h.distinct, by simp, by
      intro a ha b hb hab
      simp only [List.mem_singleton] at hb
      subst hb hab
      rcases List.mem_append.mp ha with ha | ha
      · exact not_mem_listed hnew ha
      · exact hover ha⟩
  · intro x hx
    have hx' : x ∈ t.listed.tail ++ t.overflowSet ∨ x = c := by
      simpa [TripController.listed, or_assoc] using hx
    rcases hx' with hx | rfl
    · exact h.late x hx
    · exact hlate
  · have := h.short
    show t.list.length = 8
    omega

/-! ### The run controller -/

@[simp] theorem Timer.runs_stopped : Timer.stopped.runs ↔ False := by simp [Timer.runs]
@[simp] theorem Timer.runs_running (n : Nat) : (Timer.running n).runs ↔ True := by simp [Timer.runs]

/-- A run controller at rest: no timer runs, and no attempt is held where none may be. -/
theorem RunTimersLaw.rest {r : RunController} (hb : r.brkTimer = .stopped) (hr : r.restTimer = .stopped)
    (hs : r.stopTimer = .stopped) (hst : r.state = .off ∨ r.state = .ready ∨ r.state = .run ∨ r.state = .tripped)
    (ha : r.state = .off ∨ r.state = .ready → r.attempts = 0) : RunTimersLaw r := by
  rcases hst with h | h | h | h <;> constructor <;> simp_all

/-- The timers that belong to no other state are stopped. -/
theorem RunTimersLaw.stopped {r : RunController} (h : RunTimersLaw r) :
    (r.state ≠ .breakaway → r.brkTimer = .stopped) ∧ (r.state ≠ .resting → r.restTimer = .stopped)
      ∧ (r.state ≠ .stopping → r.stopTimer = .stopped) := by
  have stop {t : Timer} (ht : ¬t.runs) : t = .stopped := by simpa [Timer.runs] using ht
  exact ⟨fun hn => stop (mt h.brkTime.mp hn), fun hn => stop (mt h.brkRest.mp hn),
    fun hn => stop (mt h.stopTime.mp hn)⟩

end Sys2Proof.Machine

/-! Which commands move the drive.  `SameDrive` relates states that agree in all that the laws of the drive read;
every operation but a few leaves a state so related, and a predicate that survives it and those few is kept by every
command (`DriveInvariant.exec`). -/

namespace Sys2Proof.Machine

/-! ### States that agree for the drive -/

/-- Run controller, list, stall timer and tables stand as they were. -/
structure SameRun (s t : State) : Prop where
  run : t.run = s.run
  latch : t.trip.latch = s.trip.latch
  list : t.trip.list = s.trip.list
  overflowCount : t.trip.overflowCount = s.trip.overflowCount
  overflowSet : t.trip.overflowSet = s.trip.overflowSet
  tripLine : t.trip.tripLine = s.trip.tripLine
  stall : t.lim.stallTimer = s.lim.stallTimer
  gain : t.tab.gain = s.tab.gain
  limit : t.tab.limit = s.tab.limit
  drive : t.tab.drive = s.tab.drive

/-- The integrators stand as they were, besides. -/
structure SameDrive (s t : State) : Prop extends SameRun s t where
  ints : ∀ m, (t.reg m).intD = (s.reg m).intD ∧ (t.reg m).intQ = (s.reg m).intQ

theorem SameRun.trans {s t u : State} (h : SameRun s t) (k : SameRun t u) : SameRun s u :=
  ⟨k.run.trans h.run, k.latch.trans h.latch, k.list.trans h.list, k.overflowCount.trans h.overflowCount,
    k.overflowSet.trans h.overflowSet, k.tripLine.trans h.tripLine, k.stall.trans h.stall, k.gain.trans h.gain,
    k.limit.trans h.limit, k.drive.trans h.drive⟩

namespace SameDrive

variable {s t u : State}

/-- The blocks in which the states agree; the frame lemmas give them. -/
theorem of_blocks (run : t.run = s.run := by simp) (lim : t.lim.stallTimer = s.lim.stallTimer := by simp)
    (regA : t.regA = s.regA := by simp) (regB : t.regB = s.regB := by simp)
    (latch : t.trip.latch = s.trip.latch := by simp) (list : t.trip.list = s.trip.list := by simp)
    (overflowCount : t.trip.overflowCount = s.trip.overflowCount := by simp)
    (overflowSet : t.trip.overflowSet = s.trip.overflowSet := by simp)
    (tripLine : t.trip.tripLine = s.trip.tripLine := by simp)
    (gain : t.tab.gain = s.tab.gain := by simp) (limit : t.tab.limit = s.tab.limit := by simp)
    (drive : t.tab.drive = s.tab.drive := by simp) : SameDrive s t :=
  ⟨⟨run, latch, list, overflowCount, overflowSet, tripLine, lim, gain, limit, drive⟩,
    fun m => by rw [State.reg_congr regA regB m]; exact ⟨rfl, rfl⟩⟩

theorem refl (s : State) : SameDrive s s := of_blocks

theorem trans (h : SameDrive s t) (k : SameDrive t u) : SameDrive s u :=
  ⟨h.toSameRun.trans k.toSameRun, fun m => ⟨(k.ints m).1.trans (h.ints m).1, (k.ints m).2.trans (h.ints m).2⟩⟩

end SameDrive

/-! ### Operations that leave the drive alone -/

theorem sameDrive_acceptFrame (p : Port) (c : Fin 8) (q : Seq) (s : State) : SameDrive s (acceptFrame p c q s) :=
  .of_blocks

theorem sameDrive_setChannel (c : Fin 6) (x : Channel) (s : State) : SameDrive s (setChannel c x s) := .of_blocks

theorem sameDrive_setVibDanger (c : Fin 6) (on : Bool) (s : State) : SameDrive s (setVibDanger c on s) :=
  .of_blocks (latch := by simp [setVibDanger]) (list := by simp [setVibDanger])
    (overflowCount := by simp [setVibDanger]) (overflowSet := by simp [setVibDanger])
    (tripLine := by simp [setVibDanger])

theorem sameDrive_changeChannel (c : Fin 6) (new : ChannelState) (x : VibReason) (level : Nat) (s : State) :
    SameDrive s (changeChannel c new x level s) := by
  unfold changeChannel
  dsimp only
  split
  · exact .refl s
  · split
    · exact SameDrive.trans .of_blocks (sameDrive_setVibDanger c false _)
    · exact .of_blocks

theorem sameDrive_deliverVibDerate (s : State) : SameDrive s (deliverVibDerate s) :=
  .of_blocks (lim := rfl)

theorem sameDrive_restartChannel (c : Fin 6) (into : ChannelState) (x : VibReason) (s : State) :
    SameDrive s (restartChannel c into x s) :=
  (sameDrive_changeChannel c into x _ s).trans (sameDrive_setChannel c _ _)

theorem sameDrive_vibCommit (s : State) : SameDrive s (vibCommit s) := by
  have hfold (l : List (Fin 6)) (u : State) (hu : SameDrive s u) :
      SameDrive s (l.foldl (fun s c => setUpChannel c s) u) := by
    induction l generalizing u with
    | nil => exact hu
    | cons c l ih => exact ih _ (hu.trans (sameDrive_restartChannel c _ _ u))
  exact (hfold allChannels s (.refl s)).trans (sameDrive_deliverVibDerate _)

theorem sameDrive_fallSilent (c : Fin 6) (s : State) : SameDrive s (fallSilent c s) := by
  unfold fallSilent
  split
  · exact .refl s
  · exact (sameDrive_changeChannel c _ _ _ s).trans (sameDrive_deliverVibDerate _)

theorem sameDrive_paceWork (formed : Bool) (s : State) : SameDrive s (paceWork formed s) := .of_blocks

/-! ### Requests that leave the drive alone -/

theorem sameDrive_identify (args : List Byte) (s : State) : SameDrive s (identify args s).state := by
  cases args <;> exact .refl s

theorem sameDrive_statusClear (args : List Byte) (s : State) : SameDrive s (statusClear args s).state := by
  cases args with
  | nil => exact .of_blocks (t := clearFlags s) rfl rfl rfl rfl rfl rfl rfl rfl rfl rfl rfl rfl
  | cons _ _ => exact .refl s

theorem sameDrive_tableOpen (args : List Byte) (s : State) : SameDrive s (tableOpen args s).state := by
  simp only [tableOpen, openTable, refuse]
  (repeat' split) <;> exact .of_blocks (gain := by simp [setBuffer]) (limit := by simp [setBuffer])
    (drive := by simp [setBuffer])

theorem sameDrive_tableWrite (args : List Byte) (s : State) : SameDrive s (tableWrite args s).state := by
  simp only [tableWrite, writeTable, refuse]
  (repeat' split) <;> exact .of_blocks (gain := by simp [setBuffer]) (limit := by simp [setBuffer])
    (drive := by simp [setBuffer])

theorem sameDrive_tableAbort (args : List Byte) (s : State) : SameDrive s (tableAbort args s).state := by
  simp only [tableAbort, refuse]
  (repeat' split) <;> exact .of_blocks (gain := by simp [setBuffer]) (limit := by simp [setBuffer])
    (drive := by simp [setBuffer])

theorem sameDrive_tableRead (args : List Byte) (s : State) : SameDrive s (tableRead args s).state := by
  simp only [tableRead, readTable, refuse]
  (repeat' split) <;> exact .refl s

theorem sameDrive_setLock (t : TableId) (on : Bool) (s : State) : SameDrive s (setLock t on s) :=
  .of_blocks (gain := rfl) (limit := rfl) (drive := rfl)

theorem sameDrive_lockSet (args : List Byte) (s : State) : SameDrive s (lockSet args s).state := by
  simp only [lockSet, refuse]
  (repeat' split)
  · exact sameDrive_setLock _ _ s
  · exact .refl s
  · exact .refl s

theorem sameDrive_lockClear (args : List Byte) (s : State) : SameDrive s (lockClear args s).state := by
  simp only [lockClear, refuse]
  (repeat' split)
  · exact .refl s
  · exact sameDrive_setLock _ _ s
  · exact .refl s
  · exact .refl s

theorem sameDrive_tripRead (args : List Byte) (s : State) : SameDrive s (tripRead args s).state := by
  simp only [tripRead, readRecord, refuse]
  (repeat' split) <;> exact .refl s

theorem sameDrive_storeTrim (args : List Byte) (s : State) : SameDrive s (storeTrim args s).state := by
  simp only [storeTrim, trimBank, refuse]
  (repeat' split) <;> exact .of_blocks

theorem sameDrive_storeEraseAll (args : List Byte) (s : State) : SameDrive s (storeEraseAll args s).state := by
  simp only [storeEraseAll, eraseAllBanks, refuse]
  (repeat' split) <;> exact .of_blocks

theorem sameDrive_storeBlankCheck (args : List Byte) (s : State) :
    SameDrive s (storeBlankCheck args s).state := by
  simp only [storeBlankCheck, checkBank, refuse]
  (repeat' split) <;> exact .of_blocks

theorem sameDrive_storeStatus (args : List Byte) (s : State) : SameDrive s (storeStatus args s).state := by
  simp only [storeStatus, refuse]
  (repeat' split) <;> exact .refl s

theorem sameDrive_eventRead (args : List Byte) (s : State) : SameDrive s (eventRead args s).state := by
  cases args with
  | nil => exact .of_blocks (t := dropOldest s)
  | cons _ _ => exact .refl s

theorem sameDrive_eventMark (args : List Byte) (s : State) : SameDrive s (eventMark args s).state := by
  simp only [eventMark, refuse]
  (repeat' split) <;> exact .of_blocks

theorem sameDrive_vibRestart (args : List Byte) (s : State) : SameDrive s (vibRestart args s).state := by
  simp only [vibRestart, vibRestartChannel, refuse]
  (repeat' split)
  · exact (sameDrive_restartChannel _ _ _ s).trans (sameDrive_deliverVibDerate _)
  · exact sameDrive_deliverVibDerate s
  · exact .refl s
  · exact .refl s

/-! ### The commands that move the drive -/

/-- The state a FEEDBACK arrival has reached when it is answered, before the pace work (R52). -/
def arrivalAnswered (m : Motor) (f : FeedbackFrame) (s : State) : State :=
  let u := arrivalStart m f s
  answerFrame m (if isPace m s && energised u then torqueAtArrival m u else u)

theorem execFeedback_eq (m : Motor) (f : FeedbackFrame) (s : State) :
    execFeedback m f s = .next (if isPace m s then
      paceWork (isPace m s && energised (arrivalStart m f s)) (arrivalAnswered m f s) else arrivalAnswered m f s) :=
  rfl

/-- A predicate that survives whatever leaves the drive alone, and each of the operations that do not. -/
structure DriveInvariant (P : State → Prop) : Prop where
  same : ∀ {s t : State}, SameDrive s t → P s → P t
  danger : ∀ (c : Fin 6) (v : DWord) (s : State), P s →
    P (deliverCause { own := none, inSetpoint := false } ⟨.vibDanger, .channel c⟩ v s)
  setpoint : ∀ (flag run : Bool) (q : Word) (u : DWord) (s : State), P s →
    P (compute (handOver flag run (storeSetpoint q u s)))
  feedback : ∀ (m : Motor) (f : FeedbackFrame) (s : State), P s → P (arrivalAnswered m f s)
  restart : ∀ s : State, energised s = false → P s → P (restartAll s)
  tripReset : ∀ s : State, s.trip.latch = true → P s → P (acceptTripReset s)
  commit : ∀ (n : Bool) (b : Staging) (fields : List Int) (k : Nat) (s : State),
    ¬(b.table = .drive ∧ energised s = true) → P s → P (acceptCommit n b fields k s)
  brkTime : ∀ s t : State, P s → execBrkTimeExpiry s = .next t → P t
  brkRest : ∀ s t : State, P s → execBrkRestExpiry s = .next t → P t
  stopTime : ∀ s t : State, P s → execStopTimeExpiry s = .next t → P t
  stall : ∀ s t : State, P s → execStallTimerExpiry s = .next t → P t
  setpointTimer : ∀ s t : State, P s → execSetpointTimerExpiry s = .next t → P t
  feedbackTimer : ∀ (m : Motor) (s t : State), P s → execFeedbackTimerExpiry m s = .next t → P t
  reset : ∀ (nv : Vector NvBank 4) (k : Nat) (line : Bool) (q : List Instr), P (State.afterReset nv k line q)

namespace DriveInvariant

variable {P : State → Prop}

theorem tripResetRequest (h : DriveInvariant P) (args : List Byte) (s : State) (hs : P s) :
    P (Machine.tripReset args s).state := by
  simp only [Machine.tripReset, refuse]
  (repeat' split)
  · exact hs
  · exact hs
  · next hl _ _ _ => exact h.tripReset s (by simpa using hl) hs
  · exact hs
  · exact hs

theorem restartRequest (h : DriveInvariant P) (args : List Byte) (s : State) (hs : P s) :
    P (Machine.restart args s).state := by
  simp only [Machine.restart, refuse]
  (repeat' split)
  · exact hs
  · exact hs
  · next he _ => exact h.restart s (by simpa using he) hs
  · exact hs

theorem tableCommitRequest (h : DriveInvariant P) (args : List Byte) (s : State) (hs : P s) :
    P (Machine.tableCommit args s).state := by
  simp only [Machine.tableCommit, commitBuffer, refuse]
  (repeat' split) <;> first | exact hs | exact h.commit _ _ _ _ s (by assumption) hs

/-- The request cycle keeps what the owner keeps (R183). -/
theorem serve (h : DriveInvariant P) {code : Byte} {r : Request} {f : State → Reply}
    (hf : ∀ u, P u → P (f u).state) {s t : State} (hs : P s)
    (he : Host.Outcome.next (Machine.serve code r f s) = (.next t : Host.Outcome State Fault Refusal)) : P t := by
  have ha := h.same (sameDrive_acceptFrame .S 0 r.seq s) hs
  obtain rfl := Host.Outcome.next.inj he
  cases hslot : s.link.slot with
  | none =>
    rw [serve_answered _ _ _ _ hslot]
    exact h.same .of_blocks (hf _ ha)
  | some a =>
    rw [serve_overrun _ _ _ _ a hslot]
    exact h.same .of_blocks ha

/-- A SETPOINT's frame is accepted first (R29). -/
theorem execSetpoint (h : DriveInvariant P) {seq : Seq} {mode flags : Byte} {q : Word} {u : DWord} {s t : State}
    (hs : P s) (he : Machine.execSetpoint seq mode flags q u s = .next t) : P t := by
  obtain rfl := Host.Outcome.next.inj he
  exact h.setpoint _ _ q u _ (h.same (sameDrive_acceptFrame .S 0 seq s) hs)

/-- The pace work of a FEEDBACK leaves the drive alone (R52). -/
theorem execFeedback (h : DriveInvariant P) {m : Motor} {f : FeedbackFrame} {s t : State} (hs : P s)
    (he : Machine.execFeedback m f s = .next t) : P t := by
  rw [execFeedback_eq] at he
  obtain rfl := Host.Outcome.next.inj he
  have ha := h.feedback m f s hs
  split
  · exact h.same (sameDrive_paceWork _ _) ha
  · exact ha

/-- A window delivers a cause only where its channel enters DANGER (R75, R79). -/
theorem judgeWindow (h : DriveInvariant P) (c : Fin 6) (cfg : ChannelConfig) {s : State} (hs : P s) :
    P (Machine.judgeWindow c cfg s) := by
  have hset (x : Channel) := h.same (sameDrive_setChannel c x s) hs
  unfold Machine.judgeWindow
  dsimp only
  split
  · exact hset _
  · have hchanged (new : ChannelState) (level : Nat) (x : Channel) :
        P (deliverVibDerate (changeChannel c new .window level (setChannel c x s))) :=
      h.same ((sameDrive_changeChannel c new .window level _).trans (sameDrive_deliverVibDerate _)) (hset x)
    split
    · exact h.danger c _ _ (h.same (sameDrive_setVibDanger c true _) (hchanged _ _ _))
    · exact hchanged _ _ _

theorem execVibSample (h : DriveInvariant P) {c : Fin 6} {seq : Seq} {x : Vector Word 8} {s t : State} (hs : P s)
    (he : Machine.execVibSample c seq x s = .next t) : P t := by
  have ha (k : Fin 8) := h.same (sameDrive_acceptFrame .H k seq s) hs
  have hset (k : Fin 8) (y : Channel) := h.same (sameDrive_setChannel c y _) (ha k)
  unfold Machine.execVibSample at he
  dsimp only at he
  split at he <;> obtain rfl := Host.Outcome.next.inj he
  · exact ha _
  · exact ha _
  · unfold takeFrame
    dsimp only
    (repeat' split)
    · exact h.same (sameDrive_setChannel _ _ _) (h.judgeWindow c _ (hset _ _))
    · exact hset _ _
    · exact hset _ _

theorem execPosition (h : DriveInvariant P) {seq : Seq} {a : Word} {s t : State} (hs : P s)
    (he : Machine.execPosition seq a s = .next t) : P t := by
  have ha := h.same (sameDrive_acceptFrame .H 7 seq s) hs
  unfold Machine.execPosition at he
  dsimp only at he
  split at he <;> obtain rfl := Host.Outcome.next.inj he
  · exact ha
  · exact h.same .of_blocks ha

/-- Whatever request a code names, its owner keeps the predicate (R184). -/
theorem requestOwner (h : DriveInvariant P) (code : Byte) (args : List Byte) (s : State) (hs : P s) :
    P (Machine.requestOwner code args s).state := by
  show (fun f : State → Reply => P (f s).state) (Machine.requestOwner code args)
  unfold Machine.requestOwner
  split
  · exact h.same (sameDrive_identify args s) hs
  · exact h.same (sameDrive_statusClear args s) hs
  · exact h.restartRequest args s hs
  · exact h.same (sameDrive_tableOpen args s) hs
  · exact h.same (sameDrive_tableWrite args s) hs
  · exact h.tableCommitRequest args s hs
  · exact h.same (sameDrive_tableAbort args s) hs
  · exact h.same (sameDrive_tableRead args s) hs
  · exact h.same (sameDrive_lockSet args s) hs
  · exact h.same (sameDrive_lockClear args s) hs
  · exact h.tripResetRequest args s hs
  · exact h.same (sameDrive_tripRead args s) hs
  · exact h.same (sameDrive_storeTrim args s) hs
  · exact h.same (sameDrive_storeEraseAll args s) hs
  · exact h.same (sameDrive_storeBlankCheck args s) hs
  · exact h.same (sameDrive_storeStatus args s) hs
  · exact h.same (sameDrive_eventRead args s) hs
  · exact h.same (sameDrive_eventMark args s) hs
  · exact h.same (sameDrive_vibRestart args s) hs
  · exact hs

theorem execRefusedFrame (h : DriveInvariant P) {p : Port} {bytes : List Byte} {s t : State} (hs : P s)
    (he : Machine.execRefusedFrame p bytes s = .next t) : P t := by
  unfold Machine.execRefusedFrame at he
  split at he
  · obtain rfl := Host.Outcome.next.inj he
    exact h.same .of_blocks hs
  · next a _ _ =>
    cases a with
    | setpoint seq mode flags q u => exact h.execSetpoint hs he
    | request code r => exact h.serve (h.requestOwner code r.args) hs he
    | feedback m f => exact h.execFeedback hs he
    | vibSample c seq x => exact h.execVibSample hs he
    | position seq a => exact h.execPosition hs he
  · obtain rfl := Host.Outcome.next.inj he
    exact hs

/-- A timer that is stopped, or work that does not run, leaves the state as it is; the ends of store work, of a
pulse, of a position and of a transmission leave the drive alone. -/
theorem execCompletions (h : DriveInvariant P) {s : State} (hs : P s) :
    (∀ t, Machine.execPositionTimerExpiry s = .next t → P t) ∧ (∀ t, Machine.execPostLimitExpiry s = .next t → P t)
      ∧ (∀ t, Machine.execPulseTimerExpiry s = .next t → P t) ∧ (∀ t, Machine.execScanEnd s = .next t → P t)
      ∧ (∀ x t, Machine.execProgramCompletion x s = .next t → P t)
      ∧ (∀ x t, Machine.execEraseCompletion x s = .next t → P t)
      ∧ (∀ t, Machine.execBlankCheckCompletion s = .next t → P t) := by
  refine ⟨?_, ?_, ?_, ?_, ?_, ?_, ?_⟩
  · intro t he
    unfold execPositionTimerExpiry at he
    split at he <;> obtain rfl := Host.Outcome.next.inj he
    · exact hs
    · exact h.same .of_blocks hs
  · intro t he
    unfold execPostLimitExpiry at he
    split at he <;> obtain rfl := Host.Outcome.next.inj he
    · exact hs
    · exact h.same .of_blocks hs
  · intro t he
    unfold execPulseTimerExpiry at he
    split at he <;> obtain rfl := Host.Outcome.next.inj he
    · exact hs
    · exact h.same .of_blocks hs
  · intro t he
    unfold execScanEnd at he
    split at he <;> obtain rfl := Host.Outcome.next.inj he
    · exact h.same .of_blocks hs
    all_goals exact hs
  · intro x t he
    unfold execProgramCompletion at he
    split at he <;> obtain rfl := Host.Outcome.next.inj he
    · exact h.same .of_blocks hs
    · exact hs
  · intro x t he
    unfold execEraseCompletion at he
    split at he <;> obtain rfl := Host.Outcome.next.inj he
    · exact h.same .of_blocks hs
    · exact hs
  · intro t he
    unfold execBlankCheckCompletion at he
    split at he <;> obtain rfl := Host.Outcome.next.inj he
    · exact h.same .of_blocks hs
    · exact hs

theorem execSilenceTimerExpiry (h : DriveInvariant P) {c : Fin 6} {s t : State} (hs : P s)
    (he : Machine.execSilenceTimerExpiry c s = .next t) : P t := by
  unfold Machine.execSilenceTimerExpiry at he
  split at he <;> obtain rfl := Host.Outcome.next.inj he
  · exact hs
  · exact h.same ((sameDrive_setChannel c _ s).trans (sameDrive_fallSilent c _)) hs

/-- Every command keeps the predicate. -/
theorem exec (h : DriveInvariant P) (i : Instr) {s t : State} (hs : P s) (he : Machine.exec i s = .next t) : P t := by
  obtain ⟨hpos, hpost, hpulse, hscan, hprog, herase, hblank⟩ := h.execCompletions hs
  cases i with
  | setpoint seq mode flags q u => exact h.execSetpoint hs he
  | feedback m f => exact h.execFeedback hs he
  | vibSample c seq x => exact h.execVibSample hs he
  | position seq a => exact h.execPosition hs he
  | refusedFrame p bytes => exact h.execRefusedFrame hs he
  | requestUnknownCode code r => exact h.serve (h.requestOwner code r.args) hs he
  | identify r => exact h.serve (fun u hu => h.same (sameDrive_identify r.args u) hu) hs he
  | statusClear r => exact h.serve (fun u hu => h.same (sameDrive_statusClear r.args u) hu) hs he
  | restart r => exact h.serve (fun u hu => h.restartRequest r.args u hu) hs he
  | tableOpen r => exact h.serve (fun u hu => h.same (sameDrive_tableOpen r.args u) hu) hs he
  | tableWrite r => exact h.serve (fun u hu => h.same (sameDrive_tableWrite r.args u) hu) hs he
  | tableAbort r => exact h.serve (fun u hu => h.same (sameDrive_tableAbort r.args u) hu) hs he
  | tableCommit r => exact h.serve (fun u hu => h.tableCommitRequest r.args u hu) hs he
  | tableRead r => exact h.serve (fun u hu => h.same (sameDrive_tableRead r.args u) hu) hs he
  | lockSet r => exact h.serve (fun u hu => h.same (sameDrive_lockSet r.args u) hu) hs he
  | lockClear r => exact h.serve (fun u hu => h.same (sameDrive_lockClear r.args u) hu) hs he
  | tripReset r => exact h.serve (fun u hu => h.tripResetRequest r.args u hu) hs he
  | tripRead r => exact h.serve (fun u hu => h.same (sameDrive_tripRead r.args u) hu) hs he
  | storeTrim r => exact h.serve (fun u hu => h.same (sameDrive_storeTrim r.args u) hu) hs he
  | storeEraseAll r => exact h.serve (fun u hu => h.same (sameDrive_storeEraseAll r.args u) hu) hs he
  | storeBlankCheck r => exact h.serve (fun u hu => h.same (sameDrive_storeBlankCheck r.args u) hu) hs he
  | storeStatus r => exact h.serve (fun u hu => h.same (sameDrive_storeStatus r.args u) hu) hs he
  | eventRead r => exact h.serve (fun u hu => h.same (sameDrive_eventRead r.args u) hu) hs he
  | eventMark r => exact h.serve (fun u hu => h.same (sameDrive_eventMark r.args u) hu) hs he
  | vibRestart r => exact h.serve (fun u hu => h.same (sameDrive_vibRestart r.args u) hu) hs he
  | hardwareReset =>
    obtain rfl := Host.Outcome.next.inj he
    exact h.reset _ _ _ _
  | lockLineChange asserted =>
    obtain rfl := Host.Outcome.next.inj he
    exact h.same .of_blocks hs
  | brkTimeExpiry => exact h.brkTime s t hs he
  | brkRestExpiry => exact h.brkRest s t hs he
  | stopTimeExpiry => exact h.stopTime s t hs he
  | stallTimerExpiry => exact h.stall s t hs he
  | setpointTimerExpiry => exact h.setpointTimer s t hs he
  | feedbackTimerExpiry m => exact h.feedbackTimer m s t hs he
  | silenceTimerExpiry c => exact h.execSilenceTimerExpiry hs he
  | positionTimerExpiry => exact hpos t he
  | postLimitExpiry => exact hpost t he
  | pulseTimerExpiry => exact hpulse t he
  | scanEnd => exact hscan t he
  | programCompletion took => exact hprog took t he
  | eraseCompletion verified => exact herase verified t he
  | blankCheckCompletion => exact hblank t he
  | transmissionEnd =>
    obtain rfl := Host.Outcome.next.inj he
    exact h.same .of_blocks hs
  | vcmdTransmissionEnd m =>
    obtain rfl := Host.Outcome.next.inj he
    exact h.same .of_blocks hs

/-- Every step keeps the predicate: the command taken from the queue does, and an empty queue idles. -/
theorem step (h : DriveInvariant P) {s t : State} (hs : P s) (he : Machine.step s = .next t) : P t := by
  unfold Machine.step at he
  split at he
  · obtain rfl := Host.Outcome.next.inj he
    exact hs
  · next c rest _ => exact h.exec c (h.same (t := s.withPending rest) .of_blocks hs) he

end DriveInvariant

end Sys2Proof.Machine

/-! Every step keeps drive state, latch, list and timers in agreement (O3).  `UnwatchedLaw` is the law less its stall
timer, which every computation sets right (R41); the operations of the drive keep it, and each ends in a
computation. -/

namespace Sys2Proof.Machine

/-! ### The law less the stall watch -/

/-- The law of drive state, latch, list and timers without its clause on the stall timer. -/
structure UnwatchedLaw (s : State) : Prop where
  list : CauseListLaw s.trip
  run : RunTimersLaw s.run
  tripped : s.trip.latch = true ↔ s.run.state = .tripped
  tables : s.run.state.needsTables → s.tab.driveable

theorem runTripLaw_iff_unwatched (s : State) :
    RunTripLaw s ↔ UnwatchedLaw s ∧ (s.lim.stallTimer.runs → s.run.state = .run) := by
  rw [runTripLaw_iff]
  exact ⟨fun ⟨hl, hr, ht, htab, hs⟩ => ⟨⟨hl, hr, ht, htab⟩, hs⟩, fun ⟨⟨hl, hr, ht, htab⟩, hs⟩ => ⟨hl, hr, ht, htab, hs⟩⟩

theorem RunTripLaw.unwatched {s : State} (h : RunTripLaw s) : UnwatchedLaw s := ((runTripLaw_iff_unwatched s).mp h).1

theorem CauseListLaw.congr {a b : TripController} (h : CauseListLaw a) (latch : b.latch = a.latch)
    (list : b.list = a.list) (count : b.overflowCount = a.overflowCount) (set : b.overflowSet = a.overflowSet)
    (line : b.tripLine = a.tripLine) : CauseListLaw b := by
  have hlisted : b.listed = a.listed := by simp [TripController.listed, list]
  constructor
  · simpa [latch, list] using h.listed
  · simpa [latch, line] using h.line
  · simpa [list] using h.short
  · simpa [hlisted, set] using h.distinct
  · simpa only [hlisted, set] using h.late
  · simpa [count, set] using h.counted
  · simpa [list, set] using h.full

theorem UnwatchedLaw.of_blocks {s t : State} (h : UnwatchedLaw s) (run : t.run = s.run := by simp)
    (latch : t.trip.latch = s.trip.latch := by simp) (list : t.trip.list = s.trip.list := by simp)
    (count : t.trip.overflowCount = s.trip.overflowCount := by simp)
    (set : t.trip.overflowSet = s.trip.overflowSet := by simp) (line : t.trip.tripLine = s.trip.tripLine := by simp)
    (gain : t.tab.gain = s.tab.gain := by simp) (limit : t.tab.limit = s.tab.limit := by simp)
    (drive : t.tab.drive = s.tab.drive := by simp) : UnwatchedLaw t :=
  ⟨h.list.congr latch list count set line, run ▸ h.run, by rw [latch, run]; exact h.tripped, by
    rw [run, TableManager.driveable, gain, limit, drive]; exact h.tables⟩

/-- States that agree for the drive satisfy the law together. -/
theorem RunTripLaw.of_same {s t : State} (h : RunTripLaw s) (k : SameRun s t) : RunTripLaw t :=
  (runTripLaw_iff_unwatched t).mpr ⟨h.unwatched.of_blocks k.run k.latch k.list k.overflowCount k.overflowSet k.tripLine
    k.gain k.limit k.drive, by rw [k.stall, k.run]; exact h.stall⟩

/-- A computation sets the stall timer right (R41). -/
theorem UnwatchedLaw.compute {s : State} (h : UnwatchedLaw s) : RunTripLaw (compute s) :=
  (runTripLaw_iff_unwatched _).mpr ⟨h.of_blocks, fun hs => by simpa using compute_stallTimer_runs hs⟩

theorem UnwatchedLaw.latch_clear {s : State} (h : UnwatchedLaw s) (hs : s.run.state ≠ .tripped) :
    s.trip.latch = false := by
  simpa using mt h.tripped.mp hs

/-- The drive moves between states other than TRIPPED: list and tables stand, the timers agree with the new state. -/
theorem UnwatchedLaw.move {s t : State} (h : UnwatchedLaw s) (hs : s.run.state ≠ .tripped) (trip : t.trip = s.trip)
    (tab : t.tab = s.tab) (run : RunTimersLaw t.run) (ht : t.run.state ≠ .tripped)
    (tables : t.run.state.needsTables → s.tab.driveable) : UnwatchedLaw t :=
  ⟨trip ▸ h.list, run, by simp [trip, h.latch_clear hs, ht], by rw [tab]; exact tables⟩

/-! ### Drive states entered -/

/-- READY or OFF, entered with every timer stopped (R8, R10). -/
theorem RunTimersLaw.entering_still {r : RunController} (hb : r.brkTimer = .stopped) (hr : r.restTimer = .stopped)
    (hs : r.stopTimer = .stopped) {d : DriveState} (hd : d = .ready ∨ d = .off) : RunTimersLaw (r.entering d) := by
  rcases hd with rfl | rfl <;>
    exact .rest hb hr hs (by simp) (fun _ => rfl)

theorem RunTimersLaw.stopped_of_still {r : RunController} (h : RunTimersLaw r)
    (hs : r.state = .off ∨ r.state = .ready ∨ r.state = .run ∨ r.state = .tripped) :
    r.brkTimer = .stopped ∧ r.restTimer = .stopped ∧ r.stopTimer = .stopped := by
  obtain ⟨hb, hr, ht⟩ := h.stopped
  rcases hs with hs | hs | hs | hs <;> simp [hs] at hb hr ht <;> exact ⟨hb, hr, ht⟩

/-- An evaluation point keeps the law (R5). -/
theorem RunTripLaw.evaluateReady {s : State} (h : RunTripLaw s) : RunTripLaw (evaluateReady s) := by
  have hu := h.unwatched
  obtain ⟨hs, hc, he⟩ | ⟨hs, -, he⟩ | ⟨-, -, he⟩ := evaluateReady_cases s
  · obtain ⟨hb, hr, ht⟩ := hu.run.stopped_of_still (.inl hs)
    rw [he]
    exact (hu.move (by simp [hs]) (by simp) (by simp) (by simpa using .entering_still hb hr ht (.inl rfl))
      (by simp) fun _ => (readyConditions_tables hc).1).compute
  · obtain ⟨hb, hr, ht⟩ := hu.run.stopped_of_still (.inr (.inl hs))
    rw [he]
    exact (hu.move (by simp [hs]) (by simp) (by simp) (by simpa using .entering_still hb hr ht (.inr rfl))
      (by simp) (by simp [DriveState.needsTables, DriveState.energised])).compute
  · rwa [he]

/-- The end of a stop keeps the law (R17). -/
theorem RunTripLaw.endStop {s : State} (h : RunTripLaw s) (hs : s.run.state = .stopping) (own : Option Motor)
    (x : DriveReason) : RunTripLaw (endStop own x s) := by
  have hu := h.unwatched
  obtain ⟨hb, hr, -⟩ := hu.run.stopped
  have hd : (if readyConditions { s with run := { s.run with stopTimer := .stopped } } then DriveState.ready
      else .off) = .ready ∨ (if readyConditions { s with run := { s.run with stopTimer := .stopped } } then
      DriveState.ready else .off) = .off := by
    split <;> simp
  refine (hu.move (by simp [hs]) (by simp) (by simp) ?_ ?_ ?_).compute
  · simpa [enterReadyOrOff] using
      RunTimersLaw.entering_still (r := { s.run with stopTimer := .stopped }) (hb (by simp [hs])) (hr (by simp [hs]))
        rfl hd
  · simp only [blockBoth_frame, enterReadyOrOff_state]
    split <;> simp
  · exact fun _ => hu.tables (by simp [hs, DriveState.needsTables, DriveState.energised])

/-- A breakaway that reaches speed keeps the law (R12). -/
theorem RunTripLaw.speedReached {s : State} (h : RunTripLaw s) (hs : s.run.state = .breakaway) :
    RunTripLaw (speedReached s) := by
  have hu := h.unwatched
  obtain ⟨-, hr, ht⟩ := hu.run.stopped
  refine (hu.move (by simp [hs]) (by simp) (by simp) ?_ (by simp) ?_).compute
  · simpa [RunController.entering] using RunTimersLaw.rest (r := { s.run with brkTimer := .stopped, state := .run }) rfl
      (hr (by simp [hs])) (ht (by simp [hs])) (by simp) (by simp)
  · exact fun _ => hu.tables (by simp [hs, DriveState.needsTables, DriveState.energised])

/-- An attempt begun from a state that has the tables, with the other timers stopped (R11). -/
theorem UnwatchedLaw.beginAttempt {s t : State} (h : UnwatchedLaw s) (hs : s.run.state ≠ .tripped)
    (htab : s.tab.driveable) (htrip : t.trip = s.trip) (htabs : t.tab = s.tab) (hr : t.run.restTimer = .stopped)
    (ht : t.run.stopTimer = .stopped) {n : Nat} (hn : 1 ≤ n) (x : DriveReason) (y : AttemptOrigin) :
    UnwatchedLaw (beginAttempt n x y t) := by
  have he : (Machine.beginAttempt n x y t).run
      = { t.run with state := .breakaway, attempts := n, brkTimer := .running (driveFieldsOf t).brkTime } := by
    simp [Machine.beginAttempt, RunController.entering]
  refine h.move hs (by simp [htrip]) (by simp [htabs]) ?_ (by simp [he]) fun _ => htab
  rw [he]
  constructor <;> simp [hr, ht, hn]

/-! ### Causes -/

/-- A cause that finds the latch set must be one that needs no energised drive; it joins the list (R103). -/
theorem CauseListLaw.appendCause {s : State} (h : CauseListLaw s.trip) (hl : s.trip.latch = true) {c : CauseId}
    (hc : c ∈ lateCauses) (v : DWord) : CauseListLaw (appendCause c v s).trip := by
  obtain ⟨-, he⟩ | ⟨hn, h8, he⟩ | ⟨hn, h8, ho, he⟩ | ⟨-, -, -, he⟩ := appendCause_cases c v s
  · rwa [he]
  · simpa [he] using h.append hl (e := causeEntry c v s) hc hn h8
  · simpa [he] using h.overflow hc hn h8 ho
  · rwa [he]

theorem appendCause_latch {s : State} (h : s.trip.latch = true) (c : CauseId) (v : DWord) :
    (appendCause c v s).trip.latch = true := by
  rw [← deliverCause_latched h { own := none, inSetpoint := true } c v]
  exact deliverCause_latch _ _ _ _

/-- TRIPPED agrees with its timers (R19). -/
theorem RunController.tripped_law (r : RunController) : RunTimersLaw r.tripped :=
  .rest rfl rfl rfl (by simp [RunController.tripped]) (by simp [RunController.tripped])

/-- A latch brings the law less the stall watch about, whatever the run controller held (R19, R102). -/
theorem CauseListLaw.latchTrip {s : State} (h : CauseListLaw s.trip) (hl : s.trip.latch = false) (d : Delivery)
    (c : CauseId) (v : DWord) : UnwatchedLaw (latchTrip d c v s) := by
  refine ⟨?_, ?_, ?_, ?_⟩
  · rw [latchTrip_trip]
    exact h.latch hl _
  · rw [latchTrip_run]
    exact s.run.tripped_law
  · simp [latchTrip_trip, latchTrip_run, RunController.tripped]
  · simp [latchTrip_run, RunController.tripped, DriveState.needsTables, DriveState.energised]

/-- Outside a setpoint a latch brings the whole law about: its entry into TRIPPED computes (R28). -/
theorem CauseListLaw.latchTrip_runTripLaw {s : State} (h : CauseListLaw s.trip) (hl : s.trip.latch = false)
    {d : Delivery} (hd : d.inSetpoint = false) (c : CauseId) (v : DWord) : RunTripLaw (Machine.latchTrip d c v s) := by
  refine (runTripLaw_iff_unwatched _).mpr ⟨h.latchTrip hl d c v, fun hs => ?_⟩
  rw [latchTrip_lim, hd] at hs
  simpa [trippedFrom, RunController.tripped] using compute_stallTimer_runs hs

/-- A delivered cause keeps the law less the stall watch (R102, R103). -/
theorem UnwatchedLaw.deliverCause {s : State} (h : UnwatchedLaw s) (d : Delivery) {c : CauseId}
    (hc : s.trip.latch = false ∨ c ∈ lateCauses) (v : DWord) : UnwatchedLaw (deliverCause d c v s) := by
  cases hl : s.trip.latch with
  | true =>
    have hc : c ∈ lateCauses := hc.resolve_left (by simp [hl])
    rw [deliverCause_latched hl]
    exact ⟨h.list.appendCause hl hc v, by simpa using h.run, by simp [appendCause_latch hl, h.tripped.mp hl],
      by simpa using h.tables⟩
  | false =>
    rw [deliverCause_clear hl]
    exact h.list.latchTrip hl d c v

/-- A cause delivered outside a setpoint keeps the law. -/
theorem RunTripLaw.deliverCause {s : State} (h : RunTripLaw s) {d : Delivery} (hd : d.inSetpoint = false) {c : CauseId}
    (hc : s.trip.latch = false ∨ c ∈ lateCauses) (v : DWord) : RunTripLaw (deliverCause d c v s) := by
  cases hl : s.trip.latch with
  | true =>
    refine (runTripLaw_iff_unwatched _).mpr ⟨h.unwatched.deliverCause d hc v, ?_⟩
    rw [deliverCause_latched hl]
    simpa using h.stall
  | false =>
    rw [deliverCause_clear hl]
    exact h.unwatched.list.latchTrip_runTripLaw hl hd c v

/-! ### A setpoint -/

theorem UnwatchedLaw.energised_tables {s : State} (h : UnwatchedLaw s) (hs : s.run.state.energised = true) :
    s.tab.driveable := h.tables (.inr hs)

theorem UnwatchedLaw.actExtTrip {s : State} (h : UnwatchedLaw s) (flag : Bool) : UnwatchedLaw (actExtTrip flag s) := by
  unfold Machine.actExtTrip
  dsimp only
  split
  · exact UnwatchedLaw.deliverCause (h.of_blocks) _ (.inr (by simp [lateCauses])) _
  · exact h.of_blocks

/-- STOP ends BREAKAWAY, RESTING or RUN with STOP_TIME started (R16). -/
theorem UnwatchedLaw.enterStopping {s : State} (h : UnwatchedLaw s)
    (hs : s.run.state = .breakaway ∨ s.run.state = .resting ∨ s.run.state = .run) :
    UnwatchedLaw (enterStopping s) := by
  have hrun : (Machine.enterStopping s).run = { s.run with
      state := .stopping, brkTimer := .stopped, restTimer := .stopped
      stopTimer := .running (driveFieldsOf s).stopTime } := by
    unfold Machine.enterStopping
    dsimp only
    split <;> simp [RunController.entering]
  have he : s.run.state.energised = true := by rcases hs with hs | hs | hs <;> rw [hs] <;> rfl
  refine h.move (fun ht => ?_) (by simp) (by simp) ?_ (by simp [hrun]) fun _ => h.energised_tables he
  · simp [ht, DriveState.energised] at he
  · rw [hrun]
    constructor <;> simp

theorem UnwatchedLaw.actStop {s : State} (h : UnwatchedLaw s) : UnwatchedLaw (actStop s) := by
  have he : UnwatchedLaw { s with run := { s.run with runEdge := true } } :=
    ⟨h.list, ⟨h.run.brkTime, h.run.brkRest, h.run.stopTime, h.run.noAttempt, h.run.someAttempt⟩, h.tripped, h.tables⟩
  unfold Machine.actStop
  dsimp only
  split
  · next hs => exact he.enterStopping (.inl hs)
  · next hs => exact he.enterStopping (.inr (.inl hs))
  · next hs => exact he.enterStopping (.inr (.inr hs))
  all_goals exact he

/-- RUN, entered from a state that has the tables, with every timer stopped (R9, R18). -/
theorem UnwatchedLaw.changeToRun {s t : State} (h : UnwatchedLaw s) (hs : s.run.state ≠ .tripped)
    (htab : s.tab.driveable) (htrip : t.trip = s.trip) (htabs : t.tab = s.tab) (hb : t.run.brkTimer = .stopped)
    (hr : t.run.restTimer = .stopped) (ht : t.run.stopTimer = .stopped) (x : DriveReason) :
    UnwatchedLaw (changeDrive .run x t) := by
  have hrun : RunTimersLaw { t.run with state := .run } := .rest hb hr ht (by simp) (by simp)
  exact h.move hs (by simp [htrip]) (by simp [htabs]) (by simpa [RunController.entering] using hrun) (by simp)
    fun _ => htab

theorem UnwatchedLaw.actRun {s : State} (h : UnwatchedLaw s) : UnwatchedLaw (actRun s) := by
  obtain ⟨hb, hr, ht⟩ := h.run.stopped
  unfold Machine.actRun
  split
  · next hs =>
    have htab : s.tab.driveable := h.tables (.inl hs)
    unfold runInReady
    (repeat' split)
    · exact h.changeToRun (by simp [hs]) htab rfl rfl (hb (by simp [hs])) (hr (by simp [hs])) (ht (by simp [hs])) _
    · exact h.beginAttempt (by simp [hs]) htab rfl rfl (hr (by simp [hs])) (ht (by simp [hs])) le_rfl _ _
    · exact h.of_blocks
  · next hs =>
    have htab : s.tab.driveable := h.energised_tables (by rw [hs]; rfl)
    unfold runInStopping
    dsimp only
    split
    · exact h.changeToRun (t := { s with run := { s.run with stopTimer := .stopped } }) (by simp [hs]) htab rfl rfl
        (hb (by simp [hs])) (hr (by simp [hs])) rfl _
    · exact h.beginAttempt (t := { s with run := { s.run with stopTimer := .stopped } }) (by simp [hs]) htab rfl rfl
        (hr (by simp [hs])) rfl le_rfl _ _
  all_goals exact h

/-- A setpoint keeps the law: its computation comes last (R28, R29). -/
theorem RunTripLaw.setpoint {s : State} (h : RunTripLaw s) (flag run : Bool) (q : Word) (u : DWord) :
    RunTripLaw (compute (handOver flag run (storeSetpoint q u s))) := by
  have hstored : UnwatchedLaw (storeSetpoint q u s) :=
    h.unwatched.of_blocks (latch := rfl) (list := rfl) (count := rfl) (set := rfl) (line := rfl)
  refine UnwatchedLaw.compute ?_
  unfold handOver
  dsimp only
  split
  · exact (hstored.actExtTrip flag).actRun
  · exact (hstored.actExtTrip flag).actStop

/-! ### Feedback -/

theorem sameDrive_acceptFeedback (m : Motor) (q : Seq) (s : State) : SameDrive s (acceptFeedback m q s) := .of_blocks

theorem sameDrive_setCondition (c : CauseId) (on : Bool) (s : State) : SameDrive s (setCondition c on s) := .of_blocks

/-- A regulator whose integrators stand may take any other values. -/
theorem sameDrive_setReg (m : Motor) (r : Regulator) (s : State) (hD : r.intD = (s.reg m).intD)
    (hQ : r.intQ = (s.reg m).intQ) : SameDrive s (s.setReg m r) := by
  refine ⟨⟨by simp, by simp, by simp, by simp, by simp, by simp, by simp, by simp, by simp, by simp⟩, fun k => ?_⟩
  by_cases hk : k = m
  · subst hk
    simp [hD, hQ]
  · simp [State.setReg_reg_other s m k r hk]

theorem sameDrive_intake (m : Motor) (f : FeedbackFrame) (s : State) : SameDrive s (intake m f s) := by
  have hr := sameDrive_setReg m ((s.reg m).takeIn f (fbTimerStart s) (thermOf s (clamp (-40) 150 f.temp.toInt))) s
    rfl rfl
  refine (hr.trans (sameDrive_setCondition ⟨.fbLost, .motor m⟩ false _)).trans ?_
  cases m <;> exact .of_blocks rfl rfl rfl rfl rfl rfl rfl rfl rfl rfl rfl rfl

theorem sameDrive_setOvertemp (m : Motor) (on : Bool) (s : State) : SameDrive s (setOvertemp m on s) :=
  (sameDrive_setReg m { s.reg m with overtemp := on } s rfl rfl).trans (sameDrive_setCondition _ _ _)

theorem sameDrive_setModFault (m : Motor) (on : Bool) (s : State) : SameDrive s (setModFault m on s) :=
  (sameDrive_setReg m { s.reg m with modFault := on } s rfl rfl).trans (sameDrive_setCondition _ _ _)

theorem sameDrive_setFbLost (m : Motor) (on : Bool) (s : State) : SameDrive s (setFbLost m on s) :=
  (sameDrive_setReg m { s.reg m with fbLost := on } s rfl rfl).trans (sameDrive_setCondition _ _ _)

/-- The causes of a regulator's arrival need no energised drive (R56). -/
theorem arrivalCause_late (m : Motor) : (⟨.overtemp, .motor m⟩ : CauseId) ∈ lateCauses
    ∧ (⟨.modFault, .motor m⟩ : CauseId) ∈ lateCauses := by
  cases m <;> simp [lateCauses]

theorem RunTripLaw.judgeOvertemp {s : State} (h : RunTripLaw s) (m : Motor) : RunTripLaw (judgeOvertemp m s) := by
  have hset (on : Bool) := h.of_same (sameDrive_setOvertemp m on s).toSameRun
  unfold Machine.judgeOvertemp
  dsimp only
  (repeat' split)
  · exact h
  · exact (hset true).deliverCause rfl (.inr (arrivalCause_late m).1) _
  · exact h
  · exact hset false
  · exact h

theorem RunTripLaw.judgeModFault {s : State} (h : RunTripLaw s) (m : Motor) : RunTripLaw (judgeModFault m s) := by
  have hset (on : Bool) := h.of_same (sameDrive_setModFault m on s).toSameRun
  unfold Machine.judgeModFault
  (repeat' split)
  · exact (hset true).deliverCause rfl (.inr (arrivalCause_late m).2) _
  · exact h
  · exact hset false

theorem RunTripLaw.runAtArrival {s : State} (h : RunTripLaw s) (m : Motor) : RunTripLaw (runAtArrival m s) := by
  unfold Machine.runAtArrival
  split
  · split
    · exact h.evaluateReady
    · exact h
  · split
    · exact h.evaluateReady
    · exact h
  · next hs =>
    split
    · exact h.speedReached hs
    · exact h
  · next hs =>
    split
    · exact h.endStop hs _ _
    · exact h
  all_goals exact h

theorem RunTripLaw.arrivalStart {s : State} (h : RunTripLaw s) (m : Motor) (f : FeedbackFrame) :
    RunTripLaw (arrivalStart m f s) :=
  (((h.of_same ((sameDrive_acceptFeedback m f.seq s).trans (sameDrive_intake m f _)).toSameRun).judgeOvertemp
    m).judgeModFault m).runAtArrival m

/-- An energised drive has a clear latch (R19). -/
theorem RunTripLaw.latch_clear {s : State} (h : RunTripLaw s) (he : energised s = true) : s.trip.latch = false :=
  h.unwatched.latch_clear fun hs => by simp [energised, hs, DriveState.energised] at he

/-- The torque limiter with the measured torque formed and a persistence count (R38 to R40). -/
def torqueFormed (n : Nat) (s : State) : State :=
  { s with lim := { s.lim with tMeas := measuredTorque s, otCount := n } }

/-- The torque limiter's work at an arrival: the torque is formed and counted, and OVERTORQUE is delivered or not
(R38 to R40). -/
theorem torqueAtArrival_cases (m : Motor) (s : State) :
    ∃ n, torqueAtArrival m s = torqueFormed n s
      ∨ torqueAtArrival m s
        = Machine.deliverCause (ownDelivery m) ⟨.overtorque, .none⟩ (data32 (measuredTorque s)) (torqueFormed n s) := by
  unfold Machine.torqueAtArrival watchOvertorque
  dsimp only
  (repeat' split)
  · exact ⟨_, .inr rfl⟩
  · exact ⟨_, .inl rfl⟩
  · exact ⟨_, .inl rfl⟩

theorem sameDrive_torqueFormed (n : Nat) (s : State) : SameDrive s (torqueFormed n s) :=
  .of_blocks (t := torqueFormed n s) rfl rfl rfl rfl rfl rfl rfl rfl rfl rfl rfl rfl

/-- Overtorque is delivered in an energised drive, so its cause finds the latch clear (R40). -/
theorem RunTripLaw.torqueAtArrival {s : State} (h : RunTripLaw s) (he : energised s = true) (m : Motor) :
    RunTripLaw (torqueAtArrival m s) := by
  have hset (n : Nat) : RunTripLaw (torqueFormed n s) := h.of_same (sameDrive_torqueFormed n s).toSameRun
  obtain ⟨n, ht | ht⟩ := torqueAtArrival_cases m s <;> rw [ht]
  · exact hset n
  · exact (hset n).deliverCause rfl (.inl (h.latch_clear he)) _

theorem sameRun_answerFrame (m : Motor) (s : State) : SameRun s (answerFrame m s) := by
  constructor <;> simp

theorem RunTripLaw.arrivalAnswered {s : State} (h : RunTripLaw s) (m : Motor) (f : FeedbackFrame) :
    RunTripLaw (arrivalAnswered m f s) := by
  have hu := h.arrivalStart m f
  unfold Machine.arrivalAnswered
  refine RunTripLaw.of_same ?_ (sameRun_answerFrame m _)
  split
  · next he => exact hu.torqueAtArrival (by simp_all) m
  · exact hu

theorem sameRun_countFeedbackMiss (m : Motor) (s : State) : SameRun s (countFeedbackMiss m s) := by
  constructor <;> simp

/-- FB_LOST is delivered in an energised drive alone (R66). -/
theorem RunTripLaw.checkFbLost {s : State} (h : RunTripLaw s) (m : Motor) : RunTripLaw (checkFbLost m s) := by
  unfold Machine.checkFbLost
  split
  · next hd =>
    have he : energised s = true := by
      simp only [driven, Bool.and_eq_true] at hd
      exact hd.1.1
    have hset := sameDrive_setFbLost m true s
    exact (h.of_same hset.toSameRun).deliverCause rfl (.inl (hset.latch.trans (h.latch_clear he))) _
  · exact h

/-! ### Requests -/

/-- RESTART starts the law afresh: no trip, OFF, no timer (R187). -/
theorem RunTripLaw.restartAll {s : State} (h : RunTripLaw s) : RunTripLaw (restartAll s) := by
  refine RunTripLaw.evaluateReady ((runTripLaw_iff_unwatched _).mpr ⟨⟨?_, ?_, ?_, ?_⟩, ?_⟩)
  · refine .clear ?_ ?_ ?_ ?_ ?_ <;> simp [restartLimiter, clearTrip]
  · simpa [restartRun] using
      RunTimersLaw.rest (r := RunController.reset) rfl rfl rfl (.inl rfl) (fun _ => rfl)
  · simp [restartLimiter, clearTrip, restartRun, RunController.reset]
  · simp [restartRun, RunController.reset, DriveState.needsTables, DriveState.energised]
  · intro hs
    exfalso
    have hstop : (restartRecord s.run.state (restartLog (restartRun s))).lim.stallTimer = .stopped := by
      unfold restartRecord
      split
      · next ho =>
        have : ¬s.lim.stallTimer.runs := fun hr => by simp [h.stall hr] at ho
        simpa [restartRun, Timer.runs] using this
      · exact compute_stallTimer_stopped (by simp [restartRun, RunController.reset])
    simp [restartLimiter, hstop] at hs

/-- TRIP_RESET clears the trip and leaves TRIPPED (R108). -/
theorem RunTripLaw.acceptTripReset {s : State} (h : RunTripLaw s) (hl : s.trip.latch = true) :
    RunTripLaw (acceptTripReset s) := by
  obtain ⟨hb, hr, ht⟩ := h.unwatched.run.stopped_of_still (.inr (.inr (.inr (h.tripped.mp hl))))
  have hclear : CauseListLaw (clearTrip s).trip := by
    refine .clear ?_ ?_ ?_ ?_ ?_ <;> simp [clearTrip]
  have hlatch : (clearTrip s).trip.latch = false := by simp [clearTrip]
  refine UnwatchedLaw.compute ⟨by simpa using hclear, ?_, ?_, ?_⟩
  · simp only [enterReadyOrOff, changeDrive_run, raiseTripReset_frame, rearm_frame, clearTrip_frame]
    exact .entering_still hb hr ht (by split <;> simp)
  · simp only [enterReadyOrOff_frame, raiseTripReset_frame, rearm_frame, hlatch, enterReadyOrOff_state]
    split <;> simp
  · rw [enterReadyOrOff_state]
    split
    · next hc => simpa [TableManager.driveable] using fun _ => (readyConditions_tables hc).1
    · simp [DriveState.needsTables, DriveState.energised]

/-- A commit never takes a table away (R171). -/
theorem TableManager.driveable_activate {m : TableManager} (h : m.driveable) (t : TableId) (v : Word) (xs : List Int)
    (n : Bool) (b : Option Staging) : ((m.activate t v xs).setBuffer n b).driveable := by
  obtain ⟨hg, hl, hd⟩ := h
  cases t <;> simp [TableManager.driveable, TableManager.activate, hg, hl, hd]

theorem RunTripLaw.activate {s : State} (h : RunTripLaw s) (t : TableId) (v : Word) (xs : List Int) (n : Bool)
    (b : Option Staging) : RunTripLaw { s with tab := (s.tab.activate t v xs).setBuffer n b } :=
  have hu := h.unwatched
  (runTripLaw_iff_unwatched _).mpr ⟨⟨hu.list, hu.run, hu.tripped, fun hn =>
    TableManager.driveable_activate (hu.tables hn) t v xs n b⟩,
    h.stall⟩

theorem sameDrive_releaseMotor (m : Motor) (s : State) : SameDrive s (releaseMotor m s) := by
  unfold releaseMotor
  split
  · exact .refl s
  · exact ((sameDrive_setOvertemp m false s).trans (sameDrive_setModFault m false _)).trans
      (sameDrive_setFbLost m false _)

/-- The attempt count is lowered in a drive that is not energised, where none has to be held (R21, R172). -/
theorem RunTripLaw.lowerAttempts {s : State} (h : RunTripLaw s) (he : energised s = false) :
    RunTripLaw (lowerAttempts s) := by
  have hu := h.unwatched
  refine (runTripLaw_iff_unwatched _).mpr ⟨⟨hu.list, ⟨hu.run.brkTime, hu.run.brkRest, hu.run.stopTime, ?_, ?_⟩,
    hu.tripped, hu.tables⟩, h.stall⟩
  · intro hs
    simp [Machine.lowerAttempts, hu.run.noAttempt hs]
  · intro hs
    have he' : s.run.state.energised = false := he
    have hs' : s.run.state = .breakaway ∨ s.run.state = .resting := hs
    rcases hs' with hs' | hs' <;> simp [hs', DriveState.energised] at he'

theorem sameDrive_raiseTable (t : TableId) (v : Word) (k : Nat) (s : State) : SameDrive s (raiseTable t v k s) :=
  .of_blocks

theorem sameDrive_shellCommit (s : State) : SameDrive s (shellCommit s) := .of_blocks

theorem sameDrive_eventCommit (x : AlertMode) (s : State) : SameDrive s (eventCommit x s) := .of_blocks

theorem RunTripLaw.acceptCommit {s : State} (h : RunTripLaw s) (n : Bool) (b : Staging) (fields : List Int) (k : Nat)
    (hrun : ¬(b.table = .drive ∧ energised s = true)) : RunTripLaw (acceptCommit n b fields k s) := by
  unfold Machine.acceptCommit
  dsimp only
  have ha := h.activate b.table b.version fields n none
  refine RunTripLaw.of_same ?_ (sameDrive_raiseTable _ _ _ _).toSameRun
  cases ht : b.table <;> rw [ht] at ha hrun <;> dsimp only [informOwners]
  · exact ha.evaluateReady
  · exact ha.evaluateReady
  · exact ha.of_same ((sameDrive_vibCommit _).trans (sameDrive_shellCommit _)).toSameRun
  · exact ha.of_same (sameDrive_eventCommit _ _).toSameRun
  · refine RunTripLaw.evaluateReady (RunTripLaw.lowerAttempts (ha.of_same ?_) ?_)
    · exact (((sameDrive_releaseMotor .A _).trans (sameDrive_releaseMotor .B _)).trans .of_blocks).toSameRun
    · simpa [energised] using hrun

/-! ### Timers -/

theorem RunTripLaw.execBrkTimeExpiry {s t : State} (h : RunTripLaw s) (he : execBrkTimeExpiry s = .next t) :
    RunTripLaw t := by
  have hu := h.unwatched
  unfold Machine.execBrkTimeExpiry at he
  split at he <;> obtain rfl := Host.Outcome.next.inj he
  · exact h
  · next d hd =>
    have hs : s.run.state = .breakaway := hu.run.brkTime.mp (by simp [hd])
    obtain ⟨-, hr, ht⟩ := hu.run.stopped
    have hn := hu.run.someAttempt (.inl hs)
    have hl := hu.latch_clear (by simp [hs])
    dsimp only
    split
    · refine (hu.move (by simp [hs]) (by simp) (by simp) ?_ (by simp) fun _ =>
        hu.energised_tables (by rw [hs]; rfl)).compute
      constructor <;> simp [RunController.entering, ht (by simp [hs]), hn]
    · unfold breakawayFailed
      rw [deliverCause_clear (by simpa using hl)]
      exact CauseListLaw.latchTrip_runTripLaw (by simpa using hu.list) (by simpa using hl) rfl _ _

theorem RunTripLaw.execBrkRestExpiry {s t : State} (h : RunTripLaw s) (he : execBrkRestExpiry s = .next t) :
    RunTripLaw t := by
  have hu := h.unwatched
  unfold Machine.execBrkRestExpiry at he
  split at he <;> obtain rfl := Host.Outcome.next.inj he
  · exact h
  · next d hd =>
    have hs : s.run.state = .resting := hu.run.brkRest.mp (by simp [hd])
    exact (hu.beginAttempt (t := { s with run := { s.run with restTimer := .stopped } }) (by simp [hs])
      (hu.energised_tables (by rw [hs]; rfl)) rfl rfl rfl (hu.run.stopped.2.2 (by simp [hs])) (by omega) _ _).compute

theorem RunTripLaw.execStopTimeExpiry {s t : State} (h : RunTripLaw s) (he : execStopTimeExpiry s = .next t) :
    RunTripLaw t := by
  unfold Machine.execStopTimeExpiry at he
  split at he <;> obtain rfl := Host.Outcome.next.inj he
  · exact h
  · next d hd => exact h.endStop (h.stopTime.mp (by simp [hd])) _ _

/-- The stall timer runs in RUN, so its cause finds the latch clear (R41, R42). -/
theorem RunTripLaw.execStallTimerExpiry {s t : State} (h : RunTripLaw s) (he : execStallTimerExpiry s = .next t) :
    RunTripLaw t := by
  unfold Machine.execStallTimerExpiry at he
  split at he <;> obtain rfl := Host.Outcome.next.inj he
  · exact h
  · next d hd =>
    have hl := h.unwatched.latch_clear (by simp [h.stall (by simp [hd])])
    rw [deliverCause_clear (by exact hl)]
    refine CauseListLaw.latchTrip_runTripLaw ?_ ?_ rfl _ _
    · exact h.unwatched.list
    · exact hl

/-- SUP_LOST is delivered in an energised drive alone (R44). -/
theorem RunTripLaw.execSetpointTimerExpiry {s t : State} (h : RunTripLaw s)
    (he : execSetpointTimerExpiry s = .next t) : RunTripLaw t := by
  unfold Machine.execSetpointTimerExpiry at he
  split at he <;> obtain rfl := Host.Outcome.next.inj he
  · exact h
  · have hm : SameRun s (countSetpointMiss s) := by constructor <;> simp [countSetpointMiss]
    have hc := h.of_same hm
    unfold checkSupLost
    split
    · next hd =>
      have hset : SameRun (countSetpointMiss s)
          (setCondition ⟨.supLost, .none⟩ true
            { countSetpointMiss s with lim := { (countSetpointMiss s).lim with supLost := true } }) := by
        constructor <;> simp
      exact (hc.of_same hset).deliverCause rfl (.inl (hset.latch.trans (hc.latch_clear hd.1))) _
    · exact hc

theorem RunTripLaw.execFeedbackTimerExpiry {m : Motor} {s t : State} (h : RunTripLaw s)
    (he : execFeedbackTimerExpiry m s = .next t) : RunTripLaw t := by
  unfold Machine.execFeedbackTimerExpiry at he
  split at he <;> obtain rfl := Host.Outcome.next.inj he
  · exact h
  · have hc := (h.of_same (sameRun_countFeedbackMiss m s)).checkFbLost m
    split
    · exact hc.evaluateReady
    · exact hc

/-- The law holds at every reset state (R188). -/
theorem runTripLaw_afterReset (nv : Vector NvBank 4) (k : Nat) (line : Bool) (q : List Instr) :
    RunTripLaw (State.afterReset nv k line q) :=
  reset_runTripLaw.of_same ⟨rfl, rfl, rfl, rfl, rfl, rfl, rfl, rfl, rfl, rfl⟩

theorem runTripLaw_driveInvariant : DriveInvariant RunTripLaw where
  same k h := h.of_same k.toSameRun
  danger c v s h := h.deliverCause rfl (.inr (by fin_cases c <;> simp [lateCauses])) v
  setpoint flag run q u s h := h.setpoint flag run q u
  feedback m f s h := h.arrivalAnswered m f
  restart s _ h := h.restartAll
  tripReset s hl h := h.acceptTripReset hl
  commit n b fields k s hrun h := h.acceptCommit n b fields k hrun
  brkTime s t h := h.execBrkTimeExpiry
  brkRest s t h := h.execBrkRestExpiry
  stopTime s t h := h.execStopTimeExpiry
  stall s t h := h.execStallTimerExpiry
  setpointTimer s t h := h.execSetpointTimerExpiry
  feedbackTimer m s t h := h.execFeedbackTimerExpiry
  reset nv k line q := runTripLaw_afterReset nv k line q

/-- Settles O3: the law survives every operation that moves the drive, and all others leave what it reads alone. -/
theorem stepKeepsRunTripLaw : Obligations.StepKeepsRunTripLaw :=
  fun _ _ h he => runTripLaw_driveInvariant.step h he

end Sys2Proof.Machine

/-! Every step keeps the integrators of a regulator that is not driven at zero (O5).  Each operation leaves a motor's
integrators alone without ceasing to drive it, or clears them, or drives the motor. -/

namespace Sys2Proof.Machine

/-- Both integrators of a motor's regulator are zero. -/
def integratorsClear (s : State) (m : Motor) : Prop := (s.reg m).intD = 0 ∧ (s.reg m).intQ = 0

/-- Both integrators of a motor's regulator are as they were. -/
def integratorsKept (s t : State) (m : Motor) : Prop :=
  (t.reg m).intD = (s.reg m).intD ∧ (t.reg m).intQ = (s.reg m).intQ

/-- From `s` to `t` every motor is driven, or has its integrators cleared, or keeps them and does not cease to be
driven. -/
def IntegratorsFollow (s t : State) : Prop :=
  ∀ m, driven t m = true ∨ integratorsClear t m
    ∨ (integratorsKept s t m ∧ (driven s m = true → driven t m = true))

theorem IntegratorLaw.follow {s t : State} (h : IntegratorLaw s) (k : IntegratorsFollow s t) : IntegratorLaw t := by
  intro m hm
  rcases k m with hd | hc | ⟨⟨hD, hQ⟩, hd⟩
  · simp [driven, hm] at hd
  · exact hc
  · rw [hD, hQ]
    refine h m ?_
    by_contra hs
    have := hd (by simpa [driven] using hs)
    simp [driven, hm] at this

namespace IntegratorsFollow

variable {s t u : State}

theorem trans (h : IntegratorsFollow s t) (k : IntegratorsFollow t u) : IntegratorsFollow s u := by
  intro m
  rcases k m with hd | hc | ⟨⟨hD, hQ⟩, hd⟩
  · exact .inl hd
  · exact .inr (.inl hc)
  · rcases h m with hd' | hc' | ⟨⟨hD', hQ'⟩, hd'⟩
    · exact .inl (hd hd')
    · exact .inr (.inl ⟨hD.trans hc'.1, hQ.trans hc'.2⟩)
    · exact .inr (.inr ⟨⟨hD.trans hD', hQ.trans hQ'⟩, fun hs => hd (hd' hs)⟩)

theorem of_cleared (h : ∀ m, integratorsClear t m) : IntegratorsFollow s t := fun m => .inr (.inl (h m))

/-- A drive that was not energised drove no motor. -/
theorem of_still (he : energised s = false) (hA : t.regA = s.regA := by simp) (hB : t.regB = s.regB := by simp) :
    IntegratorsFollow s t := fun m =>
  .inr (.inr ⟨by rw [integratorsKept, State.reg_congr hA hB m]; exact ⟨rfl, rfl⟩, by simp [driven, he]⟩)

/-- A drive that stays energised, if it is, drives the same motors. -/
theorem of_energised (he : energised s = true → energised t = true)
    (hA : t.regA = s.regA := by simp) (hB : t.regB = s.regB := by simp)
    (hd : t.tab.drive = s.tab.drive := by simp) : IntegratorsFollow s t := fun m =>
  .inr (.inr ⟨by rw [integratorsKept, State.reg_congr hA hB m]; exact ⟨rfl, rfl⟩, by
    simp only [driven, inDriveSet, activeDrive, hd, Bool.and_eq_true]
    exact fun h => ⟨he h.1, h.2⟩⟩)

theorem refl (s : State) : IntegratorsFollow s s := of_energised id rfl rfl rfl

theorem of_same (h : SameDrive s t) : IntegratorsFollow s t := fun m =>
  .inr (.inr ⟨h.ints m, by simp [driven, energised, inDriveSet, activeDrive, h.run, h.drive]⟩)

end IntegratorsFollow

open IntegratorsFollow

/-! ### The operations of the drive -/

theorem follow_compute (s : State) : IntegratorsFollow s (compute s) := of_energised (by simp [energised])

theorem integratorsClear_blockBoth (own : Option Motor) (s : State) (m : Motor) :
    integratorsClear (blockBoth own s) m := by
  rw [integratorsClear, blockBoth_reg]
  exact ⟨rfl, rfl⟩

theorem follow_evaluateReady (s : State) : IntegratorsFollow s (evaluateReady s) := by
  obtain ⟨hs, -, he⟩ | ⟨hs, -, he⟩ | ⟨-, -, he⟩ := evaluateReady_cases s
  · exact of_still (by simp [energised, hs, DriveState.energised])
  · exact of_still (by simp [energised, hs, DriveState.energised])
  · rw [he]
    exact .refl s

theorem follow_endStop (own : Option Motor) (x : DriveReason) (s : State) : IntegratorsFollow s (endStop own x s) :=
  (of_cleared (integratorsClear_blockBoth own _)).trans (follow_compute _)

theorem follow_speedReached (s : State) : IntegratorsFollow s (speedReached s) :=
  of_energised fun _ => by simp [energised, speedReached, DriveState.energised]

/-- A latch out of an energised state clears every integrator (R3, R19). -/
theorem follow_deliverCause (d : Delivery) (c : CauseId) (v : DWord) (s : State) :
    IntegratorsFollow s (deliverCause d c v s) := by
  cases hl : s.trip.latch with
  | true =>
    rw [deliverCause_latched hl]
    exact of_energised (by simp [energised])
  | false =>
    rw [deliverCause_clear hl]
    cases he : energised s with
    | true => exact of_cleared fun m => by simp [integratorsClear, latchTrip_reg, he]
    | false =>
      have hr (m : Motor) : (latchTrip d c v s).reg m = s.reg m := by simp [latchTrip_reg, he]
      exact of_still he (hr .A) (hr .B)

theorem follow_actExtTrip (flag : Bool) (s : State) : IntegratorsFollow s (actExtTrip flag s) := by
  unfold actExtTrip
  dsimp only
  split
  · exact (of_same .of_blocks).trans (follow_deliverCause _ _ _ _)
  · exact of_same .of_blocks

theorem follow_actStop (s : State) : IntegratorsFollow s (actStop s) := by
  refine of_energised fun he => ?_
  unfold actStop
  dsimp only
  split
  all_goals try exact he
  all_goals
    unfold enterStopping
    dsimp only
    split <;> simp [energised, DriveState.energised]

theorem follow_actRun (s : State) : IntegratorsFollow s (actRun s) := by
  refine of_energised fun he => ?_
  unfold actRun
  split
  · next hs => simp [energised, hs, DriveState.energised] at he
  · unfold runInStopping
    dsimp only
    split <;> simp [energised, DriveState.energised, beginAttempt]
  all_goals exact he

theorem follow_setpoint (flag run : Bool) (q : Word) (u : DWord) (s : State) :
    IntegratorsFollow s (compute (handOver flag run (storeSetpoint q u s))) := by
  have hstored : IntegratorsFollow s (storeSetpoint q u s) :=
    of_same (.of_blocks rfl rfl rfl rfl rfl rfl rfl rfl rfl rfl rfl rfl)
  refine IntegratorsFollow.trans ?_ (follow_compute _)
  unfold handOver
  dsimp only
  split
  · exact (hstored.trans (follow_actExtTrip flag _)).trans (follow_actRun _)
  · exact (hstored.trans (follow_actExtTrip flag _)).trans (follow_actStop _)

/-! ### Feedback -/

theorem follow_judgeOvertemp (m : Motor) (s : State) : IntegratorsFollow s (judgeOvertemp m s) := by
  have hset (on : Bool) := of_same (sameDrive_setOvertemp m on s)
  unfold judgeOvertemp
  dsimp only
  (repeat' split)
  · exact .refl s
  · exact (hset true).trans (follow_deliverCause _ _ _ _)
  · exact .refl s
  · exact hset false
  · exact .refl s

theorem follow_judgeModFault (m : Motor) (s : State) : IntegratorsFollow s (judgeModFault m s) := by
  have hset (on : Bool) := of_same (sameDrive_setModFault m on s)
  unfold judgeModFault
  (repeat' split)
  · exact (hset true).trans (follow_deliverCause _ _ _ _)
  · exact .refl s
  · exact hset false

theorem follow_runAtArrival (m : Motor) (s : State) : IntegratorsFollow s (runAtArrival m s) := by
  unfold runAtArrival
  (repeat' split)
  · exact follow_evaluateReady s
  · exact .refl s
  · exact follow_evaluateReady s
  · exact .refl s
  · exact follow_speedReached s
  · exact .refl s
  · exact follow_endStop _ _ s
  all_goals exact .refl s

theorem follow_torqueAtArrival (m : Motor) (s : State) : IntegratorsFollow s (torqueAtArrival m s) := by
  obtain ⟨n, ht | ht⟩ := torqueAtArrival_cases m s <;> rw [ht]
  · exact of_same (sameDrive_torqueFormed n s)
  · exact (of_same (sameDrive_torqueFormed n s)).trans (follow_deliverCause _ _ _ _)

/-- A blocking command clears its regulator and leaves the other alone (R57). -/
theorem follow_sendBlocking (m : Motor) (s : State) : IntegratorsFollow s (sendBlocking m s) := by
  intro k
  by_cases hk : k = m
  · exact .inr (.inl (by simp [integratorsClear, sendBlocking_reg, hk]))
  · exact .inr (.inr ⟨by simp [integratorsKept, sendBlocking_reg, hk], by
      simp [driven, energised, inDriveSet, activeDrive]⟩)

theorem answerWorking_reg_other (m k : Motor) (h : k ≠ m) (s : State) : (answerWorking m s).reg k = s.reg k := by
  cases m <;> cases k <;> simp_all [answerWorking, sendVcmd]

/-- The answer drives its motor or blocks it (R57, R58). -/
theorem follow_answerFrame (m : Motor) (s : State) : IntegratorsFollow s (answerFrame m s) := by
  unfold answerFrame
  split
  · next hd =>
    intro k
    by_cases hk : k = m
    · exact .inl (by simpa [driven, energised, inDriveSet, activeDrive, hk] using hd)
    · exact .inr (.inr ⟨by simp [integratorsKept, answerWorking_reg_other m k hk], by
        simp [driven, energised, inDriveSet, activeDrive]⟩)
  · exact follow_sendBlocking m s

theorem follow_arrivalAnswered (m : Motor) (f : FeedbackFrame) (s : State) :
    IntegratorsFollow s (arrivalAnswered m f s) := by
  have hstart : IntegratorsFollow s (arrivalStart m f s) :=
    (((of_same ((sameDrive_acceptFeedback m f.seq s).trans (sameDrive_intake m f _))).trans
      (follow_judgeOvertemp m _)).trans (follow_judgeModFault m _)).trans (follow_runAtArrival m _)
  unfold arrivalAnswered
  refine IntegratorsFollow.trans ?_ (follow_answerFrame m _)
  split
  · exact hstart.trans (follow_torqueAtArrival m _)
  · exact hstart

/-! ### Requests and timers -/

/-- A trip that is cleared stands in TRIPPED, where no motor is driven (R19). -/
theorem follow_acceptTripReset {s : State} (h : RunTripLaw s) (hl : s.trip.latch = true) :
    IntegratorsFollow s (acceptTripReset s) :=
  of_still (by simp [energised, h.tripped.mp hl, DriveState.energised])

theorem follow_acceptCommit (n : Bool) (b : Staging) (fields : List Int) (k : Nat) (s : State)
    (hrun : ¬(b.table = .drive ∧ energised s = true)) : IntegratorsFollow s (acceptCommit n b fields k s) := by
  unfold acceptCommit
  dsimp only
  refine IntegratorsFollow.trans ?_ (of_same (sameDrive_raiseTable _ _ _ _))
  have hact (t : TableId) (hne : t ≠ .drive) :
      IntegratorsFollow s { s with tab := (s.tab.activate t b.version fields).setBuffer n none } :=
    of_energised id rfl rfl (by cases t <;> simp_all [TableManager.activate])
  cases ht : b.table <;> rw [ht] at hrun <;> dsimp only [informOwners]
  · exact (hact .gain nofun).trans (follow_evaluateReady _)
  · exact (hact .limit nofun).trans (follow_evaluateReady _)
  · exact (hact .vib nofun).trans (of_same ((sameDrive_vibCommit _).trans (sameDrive_shellCommit _)))
  · exact (hact .event nofun).trans (of_same (sameDrive_eventCommit _ _))
  · have he : energised s = false := by simpa using hrun
    refine IntegratorsFollow.trans ?_ (follow_evaluateReady _)
    refine IntegratorsFollow.trans (of_still (t := { s with
      tab := (s.tab.activate .drive b.version fields).setBuffer n none }) he rfl rfl) ?_
    refine IntegratorsFollow.trans (of_same ((sameDrive_releaseMotor .A _).trans (sameDrive_releaseMotor .B _))) ?_
    exact of_energised fun h => by simpa [lowerAttempts, energised] using h

theorem follow_execBrkTimeExpiry {s t : State} (he : execBrkTimeExpiry s = .next t) : IntegratorsFollow s t := by
  unfold execBrkTimeExpiry at he
  split at he <;> obtain rfl := Host.Outcome.next.inj he
  · exact .refl s
  · dsimp only
    split
    · exact of_energised fun _ => by simp [energised, attemptTimedOut, DriveState.energised]
    · exact (of_energised (by simp [energised])).trans (follow_deliverCause _ _ _ _)

theorem follow_execBrkRestExpiry {s t : State} (he : execBrkRestExpiry s = .next t) : IntegratorsFollow s t := by
  unfold execBrkRestExpiry at he
  split at he <;> obtain rfl := Host.Outcome.next.inj he
  · exact .refl s
  · exact of_energised fun _ => by simp [energised, beginAttempt, DriveState.energised]

theorem follow_execStopTimeExpiry {s t : State} (he : execStopTimeExpiry s = .next t) : IntegratorsFollow s t := by
  unfold execStopTimeExpiry at he
  split at he <;> obtain rfl := Host.Outcome.next.inj he
  · exact .refl s
  · exact follow_endStop _ _ s

theorem follow_execStallTimerExpiry {s t : State} (he : execStallTimerExpiry s = .next t) :
    IntegratorsFollow s t := by
  unfold execStallTimerExpiry at he
  split at he <;> obtain rfl := Host.Outcome.next.inj he
  · exact .refl s
  · exact (of_energised (t := { s with lim := { s.lim with stallTimer := .stopped } }) id).trans
      (follow_deliverCause _ _ _ _)

theorem follow_execSetpointTimerExpiry {s t : State} (he : execSetpointTimerExpiry s = .next t) :
    IntegratorsFollow s t := by
  unfold execSetpointTimerExpiry at he
  split at he <;> obtain rfl := Host.Outcome.next.inj he
  · exact .refl s
  · have hm : IntegratorsFollow s (countSetpointMiss s) := of_energised (by simp [energised])
    unfold checkSupLost
    split
    · exact (hm.trans (of_energised (by simp [energised]))).trans (follow_deliverCause _ _ _ _)
    · exact hm

theorem follow_countFeedbackMiss (m : Motor) (s : State) : IntegratorsFollow s (countFeedbackMiss m s) := by
  unfold countFeedbackMiss
  dsimp only
  refine IntegratorsFollow.trans ?_ (of_same (sameDrive_setReg m _ _ rfl rfl))
  have hr : IntegratorsFollow s (s.setReg m { s.reg m with missCount := riseBy (s.reg m).missCount 1 }) :=
    of_same (sameDrive_setReg m _ s rfl rfl)
  split
  · exact (hr.trans (of_same .of_blocks)).trans (follow_sendBlocking m _)
  · exact hr.trans (of_same .of_blocks)

theorem follow_execFeedbackTimerExpiry {m : Motor} {s t : State} (he : execFeedbackTimerExpiry m s = .next t) :
    IntegratorsFollow s t := by
  unfold execFeedbackTimerExpiry at he
  split at he <;> obtain rfl := Host.Outcome.next.inj he
  · exact .refl s
  · have hc : IntegratorsFollow s (checkFbLost m (countFeedbackMiss m s)) := by
      unfold checkFbLost
      split
      · exact ((follow_countFeedbackMiss m s).trans (of_same (sameDrive_setFbLost m true _))).trans
          (follow_deliverCause _ _ _ _)
      · exact follow_countFeedbackMiss m s
    split
    · exact hc.trans (follow_evaluateReady _)
    · exact hc

/-- The law with that of the drive state, which keeps an energised drive from being reset as tripped. -/
theorem integratorLaw_driveInvariant : DriveInvariant fun s => RunTripLaw s ∧ IntegratorLaw s where
  same k h := ⟨h.1.of_same k.toSameRun, h.2.follow (of_same k)⟩
  danger c v s h := ⟨runTripLaw_driveInvariant.danger c v s h.1, h.2.follow (follow_deliverCause _ _ _ _)⟩
  setpoint flag run q u s h := ⟨h.1.setpoint flag run q u, h.2.follow (follow_setpoint flag run q u s)⟩
  feedback m f s h := ⟨h.1.arrivalAnswered m f, h.2.follow (follow_arrivalAnswered m f s)⟩
  restart s he h := ⟨h.1.restartAll, h.2.follow (of_still he)⟩
  tripReset s hl h := ⟨h.1.acceptTripReset hl, h.2.follow (follow_acceptTripReset h.1 hl)⟩
  commit n b fields k s hrun h :=
    ⟨h.1.acceptCommit n b fields k hrun, h.2.follow (follow_acceptCommit n b fields k s hrun)⟩
  brkTime s t h he := ⟨h.1.execBrkTimeExpiry he, h.2.follow (follow_execBrkTimeExpiry he)⟩
  brkRest s t h he := ⟨h.1.execBrkRestExpiry he, h.2.follow (follow_execBrkRestExpiry he)⟩
  stopTime s t h he := ⟨h.1.execStopTimeExpiry he, h.2.follow (follow_execStopTimeExpiry he)⟩
  stall s t h he := ⟨h.1.execStallTimerExpiry he, h.2.follow (follow_execStallTimerExpiry he)⟩
  setpointTimer s t h he := ⟨h.1.execSetpointTimerExpiry he, h.2.follow (follow_execSetpointTimerExpiry he)⟩
  feedbackTimer m s t h he := ⟨h.1.execFeedbackTimerExpiry he, h.2.follow (follow_execFeedbackTimerExpiry he)⟩
  reset nv k line q := ⟨runTripLaw_afterReset nv k line q, fun m _ => by cases m <;> exact ⟨rfl, rfl⟩⟩

/-- Settles O5: every operation drives a motor, clears its integrators, or keeps both as they are. -/
theorem stepKeepsIntegratorLaw : Obligations.StepKeepsIntegratorLaw :=
  fun _ _ hr hi he => (integratorLaw_driveInvariant.step ⟨hr, hi⟩ he).2

end Sys2Proof.Machine

/-! O38: a first cause latches, a later one is listed once or overflows, and EXT_TRIP latches inside a setpoint. -/

namespace Sys2Proof.Machine

/-! ### Ports and regulators across a trip (R3, R19) -/

/-- What is put on the ports and in the regulators by blocking at a trip is what the statements call `TripBlocks`. -/
theorem tripBlocks_of {own : Option Motor} {s t : State} (hl : LinkLaw s.link)
    (hr : ∀ m, t.reg m = if energised s then (s.reg m).blocked (blocksNow own m (s.reg m)) else s.reg m)
    (hk : t.link = if energised s then (blockBoth own s).link else s.link) : TripBlocks own s t where
  sent m := by
    cases he : energised s
    · simp [hk, he]
    · simp [hk, he, blockBoth_vcmds own s hl m, blocksNow_iff]
  regulators m := by
    cases he : energised s <;> simp [hr m, he, Regulator.blocked, blocksNow_iff]
  link := by
    cases he : energised s
    · simp [hk, he]
    · simpa [hk, he] using blockBoth_link_frame own s
  still he := by simp [hk, he]

/-- `TripBlocks` reads of the state before a trip the drive state, the link and the regulators. -/
theorem TripBlocks.congr_left {own : Option Motor} {s s' t : State} (h : TripBlocks own s t)
    (hs : s'.run.state = s.run.state) (hr : ∀ m, s'.reg m = s.reg m) (hl : s'.link = s.link) :
    TripBlocks own s' t where
  sent m := by simpa only [energised_congr hs, hr, hl] using h.sent m
  regulators m := by simpa only [energised_congr hs, hr] using h.regulators m
  link := by simpa only [hl] using h.link
  still he := by simpa only [hl] using h.still (by rwa [energised_congr hs] at he)

theorem TripBlocks.congr_right {own : Option Motor} {s t t' : State} (h : TripBlocks own s t)
    (hr : ∀ m, t'.reg m = t.reg m) (hl : t'.link = t.link) : TripBlocks own s t' where
  sent m := by simpa only [hl] using h.sent m
  regulators m := by simpa only [hr] using h.regulators m
  link := by simpa only [hl] using h.link
  still he := by simpa only [hl] using h.still he

theorem latchTrip_tripBlocks (d : Delivery) (c : CauseId) (v : DWord) (s : State) (h : LinkLaw s.link) :
    TripBlocks d.own s (latchTrip d c v s) :=
  tripBlocks_of h (latchTrip_reg d c v s) (latchTrip_link d c v s)

/-- A latch out of an energised state clears the integrators of both regulators (R3). -/
theorem latchTrip_integrators (d : Delivery) (c : CauseId) (v : DWord) {s : State} (h : energised s = true) :
    (latchTrip d c v s).regA.intD = 0 ∧ (latchTrip d c v s).regA.intQ = 0
      ∧ (latchTrip d c v s).regB.intD = 0 ∧ (latchTrip d c v s).regB.intQ = 0 := by
  have hA := latchTrip_reg d c v s .A
  have hB := latchTrip_reg d c v s .B
  simp only [State.reg_A, State.reg_B, h, if_true] at hA hB
  simp [hA, hB]

/-- A latch in any other state leaves regulators and ports alone (R3). -/
theorem latchTrip_still (d : Delivery) (c : CauseId) (v : DWord) {s : State} (h : energised s = false) :
    (latchTrip d c v s).regA = s.regA ∧ (latchTrip d c v s).regB = s.regB
      ∧ (latchTrip d c v s).link = s.link := by
  have hA := latchTrip_reg d c v s .A
  have hB := latchTrip_reg d c v s .B
  simp only [State.reg_A, State.reg_B, h, Bool.false_eq_true, if_false] at hA hB
  exact ⟨hA, hB, by simp [latchTrip_link, h]⟩

/-- A trigger of an ARMED recorder, with the limits that stand after the latch (R116). -/
theorem latchTrip_triggers (d : Delivery) (c : CauseId) (v : DWord) {s : State} (h : s.recorder.state = .armed) :
    let t := latchTrip d c v s
    t.recorder.state = .post ∧ t.recorder.postCount = 0
      ∧ t.recorder.preCount = min s.recorder.ring.length (preCountAt s)
      ∧ t.recorder.postTarget = 256 - preCountAt s
      ∧ t.recorder.postTimer = .running (postLimitAt s)
      ∧ t.recorder.ring = s.recorder.ring.drop (s.recorder.ring.length - preCountAt s)
      ∧ t.recorder.trigger = {
          pace := s.link.paceCount, supTime := s.lim.supTime, lFwd := t.lim.stack.lFwd,
          derate := t.lim.stack.derate, attempts := s.run.attempts, dcA := s.regA.dcLink,
          tempA := s.regA.temp, dcB := s.regB.dcLink, tempB := s.regB.temp } := by
  dsimp only
  rw [latchTrip_recorder, if_pos h]
  exact ⟨rfl, rfl, length_newest _ _, rfl, rfl, rfl, rfl⟩

/-! ### The computation in a state that commands nothing (R30 to R37) -/

theorem clamp_zero {k : Int} (h : 0 ≤ k) : clamp (-k) k 0 = 0 := by
  unfold clamp
  rw [if_neg (by omega), if_neg (by omega)]

theorem sharesOf_zero (set : MotorSet) (a : Int) : sharesOf set a 0 = (0, 0) := by
  cases set <;> simp [sharesOf]

theorem iqRefOf_zero (kti : Int) {iqMax : Int} (h : 0 ≤ iqMax) : iqRefOf 0 kti iqMax = 0 := by
  simp [iqRefOf, clamp_zero h]

/-- A command of zero gives shares of zero (R36). -/
theorem shares_zero (s : State) : shares s 0 = (0, 0) := by
  unfold shares
  split
  · exact sharesOf_zero _ _
  · rfl

/-- A share of zero gives a current reference of zero (R37). -/
theorem iqRef_zero {s : State} (h : 0 ≤ (driveFieldsOf s).iqMax) : iqRef s 0 = 0 := by
  cases hd : activeDrive s with
  | none => simp [iqRef, hd]
  | some d => simpa [iqRef, hd] using iqRefOf_zero _ (driveFieldsOf_some hd ▸ h)

/-- Outside BREAKAWAY and RUN the current references are zero (R34, R36, R37). -/
theorem compute_iqRef_still {s : State} (hs : s.run.state.follows = false) (h : 0 ≤ (driveFieldsOf s).iqMax) :
    (compute s).lim.iqRefA = 0 ∧ (compute s).lim.iqRefB = 0 := by
  rw [compute_lim]
  simp [limiterAfter, torqueCommand_still hs, shares_zero, iqRef_zero h]

/-- The derate in force after a computation (R31). -/
theorem compute_derate (s : State) :
    (compute s).lim.stack.derate
      = leastDerate (motorSet s) s.lim.stack.vibDerate s.lim.stack.thermA s.lim.stack.thermB := by
  rw [compute_lim]; rfl

/-- The base limits after a computation outside BREAKAWAY (R30). -/
theorem compute_base {s : State} (hs : s.run.state ≠ .breakaway) {l : LimitTable} (h : activeLimit s = some l) :
    ((compute s).lim.stack.baseFwd, (compute s).lim.stack.baseRev) = curveAt l.points (mag (paceSpeed s)) := by
  rw [compute_lim]
  simp [limiterAfter, stackOf, baseLimits, hs, h]

/-- The forward limit in force after a computation (R33). -/
theorem compute_lFwd {s : State} {x : DriveTable} (h : activeDrive s = some x) :
    (compute s).lim.stack.lFwd =
      let l := ((compute s).lim.stack.baseFwd * (compute s).lim.stack.derate).tdiv 4096
      if x.motorSet = .ab then l else min x.smCap l := by
  have hl : (compute s).lim.stack.lFwd = limitInForce (compute s).lim.stack.baseFwd (compute s).lim.stack.derate
      (singleMotorCap s) := by
    rw [compute_lim]; rfl
  by_cases hm : x.motorSet = .ab
  · simp [hl, limitInForce, singleMotorCap, h, hm]
  · simp only [hl, limitInForce, singleMotorCap, h, hm, if_false]
    split <;> omega

/-! ### EXT_TRIP in a setpoint (R7, R28, R29) -/

/-- The state in which the cause of a set EXT_TRIP flag is delivered (R29, point 4). -/
def extTripSet (s : State) : State :=
  setCondition ⟨.extTrip, .none⟩ true { s with trip := { s.trip with extTrip := true } }

@[simp] theorem extTripSet_frame (s : State) :
    (extTripSet s).run = s.run ∧ (extTripSet s).lim = s.lim ∧ (extTripSet s).regA = s.regA
      ∧ (extTripSet s).regB = s.regB ∧ (extTripSet s).vib = s.vib ∧ (extTripSet s).load = s.load
      ∧ (extTripSet s).recorder = s.recorder ∧ (extTripSet s).store = s.store ∧ (extTripSet s).log = s.log
      ∧ (extTripSet s).tab = s.tab ∧ (extTripSet s).link = s.link ∧ (extTripSet s).pending = s.pending
      ∧ (extTripSet s).trip.latch = s.trip.latch ∧ (extTripSet s).trip.extTrip = true := by
  simp [extTripSet, setCondition]

/-- The latch of a set EXT_TRIP flag. -/
def extTripLatched (s : State) : State :=
  latchTrip { own := none, inSetpoint := true } ⟨.extTrip, .none⟩ 0 (extTripSet s)

theorem extTripLatched_run (s : State) : (extTripLatched s).run = s.run.tripped := by
  simp [extTripLatched, latchTrip_run]

/-- STOP ends an attempt, a rest or RUN (R16). -/
theorem actStop_moving {s : State}
    (h : s.run.state = .breakaway ∨ s.run.state = .resting ∨ s.run.state = .run) :
    actStop s = enterStopping { s with run := { s.run with runEdge := true } } := by
  obtain h | h | h := h <;> simp only [actStop, h]

/-- In any other state STOP sets the run edge alone (R8). -/
theorem actStop_still {s : State} (hb : s.run.state ≠ .breakaway) (hr : s.run.state ≠ .resting)
    (hn : s.run.state ≠ .run) : actStop s = { s with run := { s.run with runEdge := true } } := by
  unfold actStop
  dsimp only
  split <;> first | rfl | contradiction

/-- Outside READY and STOPPING, RUN does nothing (R7). -/
theorem actRun_still {s : State} (hr : s.run.state ≠ .ready) (hs : s.run.state ≠ .stopping) : actRun s = s := by
  unfold actRun
  split <;> first | rfl | contradiction

theorem extTripSet_reg (s : State) (m : Motor) : (extTripSet s).reg m = s.reg m :=
  State.reg_congr (by simp) (by simp) m

theorem extTripLatched_trip (s : State) :
    (extTripLatched s).trip.latch = true ∧ (extTripLatched s).trip.tripLine = true
      ∧ (extTripLatched s).trip.extTrip = true
      ∧ (extTripLatched s).trip.list =
        [{ id := ⟨.extTrip, .none⟩, pace := s.link.paceCount, value := 0, supTime := s.lim.supTime }] := by
  simp [extTripLatched, latchTrip_trip, causeEntry]

theorem extTripLatched_lim (s : State) : (extTripLatched s).lim = { s.lim with otCount := 0 } := by
  simp [extTripLatched, latchTrip_lim]

/-- The active-condition set does not matter for the records of a latch. -/
theorem sameLog_extTripLatched (s : State) :
    SameLog (extTripLatched s) (latchRecords ⟨.extTrip, .none⟩ 0 s) :=
  have hs : SameLog (extTripSet s) s := .of_blocks (by simp) (by simp) (by simp) (by simp) (by simp) (by simp)
  (sameLog_latchTrip _ _ _ _).trans (hs.latchRecords (by simp) (by simp) _ _)

theorem extTripLatched_integrators {s : State} (h : energised s = true) :
    (extTripLatched s).regA.intD = 0 ∧ (extTripLatched s).regA.intQ = 0
      ∧ (extTripLatched s).regB.intD = 0 ∧ (extTripLatched s).regB.intQ = 0 :=
  latchTrip_integrators _ _ _ ((energised_congr (by simp)).trans h)

theorem extTripLatched_tripBlocks {s : State} (h : LinkLaw s.link) : TripBlocks none s (extTripLatched s) :=
  (latchTrip_tripBlocks { own := none, inSetpoint := true } ⟨.extTrip, .none⟩ 0 (extTripSet s)
    (by simpa using h)).congr_left (by simp) (fun m => (extTripSet_reg s m).symm) (by simp)

/-- The recorder copies the limits of the computation before the setpoint (R116). -/
theorem extTripLatched_triggers {s : State} (h : s.recorder.state = .armed) :
    (extTripLatched s).recorder.state = .post
      ∧ (extTripLatched s).recorder.trigger = {
          pace := s.link.paceCount, supTime := s.lim.supTime, lFwd := s.lim.stack.lFwd,
          derate := s.lim.stack.derate, attempts := s.run.attempts, dcA := s.regA.dcLink,
          tempA := s.regA.temp, dcB := s.regB.dcLink, tempB := s.regB.temp } := by
  obtain ⟨hs, -, -, -, -, -, ht⟩ :=
    latchTrip_triggers { own := none, inSetpoint := true } ⟨.extTrip, .none⟩ 0 (s := extTripSet s) (by simpa using h)
  exact ⟨hs, by simpa [extTripLatched, latchTrip_lim] using ht⟩

/-- In TRIPPED the mode moves nothing, and STOP sets the run edge (R7). -/
theorem handOver_extTrip {s : State} (h : s.trip.latch = false) (run : Bool) :
    handOver true run s = { extTripLatched s with
      run := { s.run.tripped with runEdge := if run then s.run.runEdge else true } } := by
  have ha : actExtTrip true s = extTripLatched s := deliverCause_clear (by simpa using h) _ _ _
  have hs : (extTripLatched s).run.state = .tripped := by rw [extTripLatched_run]; rfl
  have hr : (extTripLatched s).run = { s.run.tripped with runEdge := s.run.runEdge } := extTripLatched_run s
  cases run
  · simp only [handOver, ha, Bool.false_eq_true, if_false]
    rw [actStop_still (by simp [hs]) (by simp [hs]) (by simp [hs]), extTripLatched_run]
  · simp only [handOver, ha, if_true]
    rw [actRun_still (by simp [hs]) (by simp [hs]), ← hr]

/-- The state in which step 1 of a setpoint hands the mode over. -/
def setpointStored (seq : Seq) (q : Word) (u : DWord) (s : State) : State :=
  storeSetpoint q u (acceptFrame .S 0 seq s)

@[simp] theorem setpointStored_frame (seq : Seq) (q : Word) (u : DWord) (s : State) :
    (setpointStored seq q u s).run = s.run ∧ (setpointStored seq q u s).regA = s.regA
      ∧ (setpointStored seq q u s).regB = s.regB ∧ (setpointStored seq q u s).vib = s.vib
      ∧ (setpointStored seq q u s).load = s.load ∧ (setpointStored seq q u s).recorder = s.recorder
      ∧ (setpointStored seq q u s).store = s.store ∧ (setpointStored seq q u s).tab = s.tab
      ∧ (setpointStored seq q u s).pending = s.pending
      ∧ (setpointStored seq q u s).log = (acceptFrame .S 0 seq s).log
      ∧ (setpointStored seq q u s).link = (acceptFrame .S 0 seq s).link
      ∧ (setpointStored seq q u s).trip.latch = s.trip.latch
      ∧ (setpointStored seq q u s).trip.extTrip = s.trip.extTrip
      ∧ (setpointStored seq q u s).trip.list = s.trip.list
      ∧ (setpointStored seq q u s).lim.supTime = u
      ∧ (setpointStored seq q u s).lim.stack = s.lim.stack := by
  simp [setpointStored, storeSetpoint, setCondition]

/-- An event in the state after step 1 is an event in the state that took the frame. -/
theorem sameLog_setpointStored (seq : Seq) (q : Word) (u : DWord) (s : State) :
    SameLog (setpointStored seq q u s) (acceptFrame .S 0 seq s) :=
  .of_blocks (by simp) (by simp) (by simp) (by simp) (by simp) (by simp)

theorem exec_setpoint (seq : Seq) (mode flags : Byte) (q : Word) (u : DWord) (s : State) :
    exec (.setpoint seq mode flags q u) s
      = .next (compute (handOver (flags.getLsbD 0) (mode == 1) (setpointStored seq q u s))) := rfl

theorem riseBy_le (a b : Nat) : riseBy a b ≤ 65535 := Nat.min_le_right _ _

/-- Taking a frame keeps the link's agreement (R179). -/
theorem LinkLaw.acceptFrame {s : State} (h : LinkLaw s.link) (p : Port) (c : Fin 8) (q : Seq) :
    LinkLaw (acceptFrame p c q s).link := by
  have hg : (∀ i : Fin 4, (Machine.acceptFrame p c q s).link.gaps[i] ≤ 65535)
      ∧ (Machine.acceptFrame p c q s).link.skipped ≤ 65535 := by
    unfold Machine.acceptFrame
    dsimp only
    split
    · cases p <;> exact ⟨h.gaps, h.skipped⟩
    · refine ⟨fun i => ?_, by cases p <;> simpa [Link.setRef] using h.skipped⟩
      have hi := h.gaps i
      simp only [linkError_link, Fin.getElem_fin, Vector.getElem_set]
      split
      · exact riseBy_le _ _
      · cases p <;> exact hi
  refine ⟨?_, ?_, ?_, ?_, ?_, hg.1, hg.2⟩ <;> simp only [acceptFrame_link]
  exacts [h.sending, h.waiting, h.m0, h.m1, h.errors]

/-- The state in which a setpoint that latches EXT_TRIP computes: TRIPPED, with the run edge set by a STOP (R8). -/
def setpointTripped (seq : Seq) (mode : Byte) (q : Word) (u : DWord) (s : State) : State :=
  { extTripLatched (setpointStored seq q u s) with
    run := { s.run.tripped with runEdge := if mode = 1 then s.run.runEdge else true } }

/-- The whole of a setpoint that latches EXT_TRIP, the computation being the setpoint's own (R28). -/
theorem setpoint_extTrip {s : State} (h : s.trip.latch = false) {mode flags : Byte} (hf : flags.getLsbD 0 = true)
    (seq : Seq) (q : Word) (u : DWord) :
    exec (.setpoint seq mode flags q u) s = .next (compute (setpointTripped seq mode q u s)) := by
  rw [exec_setpoint, hf, handOver_extTrip (by simpa using h)]
  simp [setpointTripped]

theorem setpointTripped_still (seq : Seq) (mode : Byte) (q : Word) (u : DWord) (s : State) :
    (setpointTripped seq mode q u s).run.state.follows = false := rfl

/-- The records of a setpoint that latches EXT_TRIP. -/
theorem sameLog_setpointTripped (seq : Seq) (mode : Byte) (q : Word) (u : DWord) (s : State) :
    SameLog (compute (setpointTripped seq mode q u s))
      (latchRecords ⟨.extTrip, .none⟩ 0 (acceptFrame .S 0 seq s)) :=
  have hz : SameLog (setpointTripped seq mode q u s) (extTripLatched (setpointStored seq q u s)) :=
    .of_blocks rfl rfl rfl rfl rfl rfl
  (sameLog_compute_still (setpointTripped_still seq mode q u s)).trans (hz.trans
    ((sameLog_extTripLatched _).trans ((sameLog_setpointStored seq q u s).latchRecords (by simp) (by simp) _ _)))

theorem setpointTripped_blocks (seq : Seq) (mode : Byte) (q : Word) (u : DWord) {s : State} (h : LinkLaw s.link) :
    TripBlocks none (acceptFrame .S 0 seq s) (compute (setpointTripped seq mode q u s)) :=
  have hk : LinkLaw (setpointStored seq q u s).link := by simpa using h.acceptFrame .S 0 seq
  ((extTripLatched_tripBlocks hk).congr_left (by simp) (State.reg_congr (by simp) (by simp)) (by simp)).congr_right
    (State.reg_congr (by simp [setpointTripped]) (by simp [setpointTripped])) (by simp [setpointTripped])

/-! ### O38 -/

/-- The first cause, outside a setpoint (R102). -/
theorem firstCause_latches (d : Delivery) (c : CauseId) (v : DWord) (s : State) (hd : d.inSetpoint = false)
    (hq : 0 ≤ (driveFieldsOf s).iqMax) :
    let t := latchTrip d c v s
    t.lim.tCmd = 0 ∧ t.lim.iqRefA = 0 ∧ t.lim.iqRefB = 0 ∧ t.lim.otCount = 0 ∧ t.lim.stallTimer = .stopped
      ∧ t.lim.stack.derate = leastDerate (motorSet s) s.lim.stack.vibDerate s.lim.stack.thermA s.lim.stack.thermB
      ∧ (∀ l, activeLimit s = some l →
        (t.lim.stack.baseFwd, t.lim.stack.baseRev) = curveAt l.points (mag (paceSpeed s)))
      ∧ (∀ x, activeDrive s = some x → t.lim.stack.lFwd =
        if x.motorSet = .ab then (t.lim.stack.baseFwd * t.lim.stack.derate).tdiv 4096
        else min x.smCap ((t.lim.stack.baseFwd * t.lim.stack.derate).tdiv 4096)) := by
  have hlim : (latchTrip d c v s).lim = (compute (trippedFrom s)).lim := by simp [latchTrip_lim, hd]
  have hstill : (trippedFrom s).run.state.follows = false := rfl
  obtain ⟨hA, hB⟩ := compute_iqRef_still hstill hq
  obtain ⟨-, -, -, hot, -⟩ := compute_lim_kept (trippedFrom s)
  dsimp only
  rw [hlim]
  exact ⟨compute_tCmd_still hstill, hA, hB, hot, compute_stallTimer_stopped (by decide : DriveState.tripped ≠ .run),
    compute_derate _, fun l hl => compute_base (by decide : DriveState.tripped ≠ .breakaway) hl,
    fun x hx => compute_lFwd hx⟩

/-- A cause that finds the latch set (R103). -/
theorem laterCause_isListedOnce (c : CauseId) (v : DWord) (s : State) :
    let t := appendCause c v s
    let listed := ∃ e ∈ s.trip.list, e.id = c
    (listed → t = s)
    ∧ (¬listed → s.trip.list.length < 8 →
        t = { s with log := t.log, trip := { s.trip with
          list := s.trip.list ++
            [{ id := c, pace := s.link.paceCount, value := v, supTime := s.lim.supTime }] } }
        ∧ t.log = (raise .trip c.source 1 (BitVec.ofNat 32 c.kind.code) v s).log)
    ∧ (¬listed → 8 ≤ s.trip.list.length → c ∉ s.trip.overflowSet →
        t = { s with log := t.log, trip := { s.trip with
          overflowSet := s.trip.overflowSet ++ [c], overflowCount := s.trip.overflowCount + 1 } }
        ∧ t.log = (raise .trip c.source 2 (BitVec.ofNat 32 c.kind.code) v s).log)
    ∧ (¬listed → 8 ≤ s.trip.list.length → c ∈ s.trip.overflowSet → t = s) := by
  obtain ⟨hl, he⟩ | ⟨hn, h8, he⟩ | ⟨hn, h8, ho, he⟩ | ⟨hn, h8, ho, he⟩ := appendCause_cases c v s <;>
    simp only [he]
  · exact ⟨fun _ => trivial, fun h => absurd hl h, fun h => absurd hl h, fun h => absurd hl h⟩
  · exact ⟨fun ⟨e, hm, hi⟩ => absurd hi (hn e hm), fun _ _ => ⟨rfl, rfl⟩, fun _ h => absurd h (by omega),
      fun _ h => absurd h (by omega)⟩
  · exact ⟨fun ⟨e, hm, hi⟩ => absurd hi (hn e hm), fun _ h => absurd h (by omega), fun _ _ _ => ⟨rfl, rfl⟩,
      fun _ _ h => absurd h ho⟩
  · exact ⟨fun _ => trivial, fun _ h => absurd h (by omega), fun _ _ h => absurd ho h, fun _ _ _ => trivial⟩

/-- Settles O38, from what a latch puts in each block, inside a setpoint and outside. -/
theorem causesLatchAndAreListedOnce : Obligations.CausesLatchAndAreListedOnce := by
  unfold Obligations.CausesLatchAndAreListedOnce
  refine ⟨?_, ?_, ?_, ?_⟩
  · intro d c v s hl hd hq
    obtain ⟨tCmd, iqA, iqB, ot, stall, derate, base, lFwd⟩ := firstCause_latches d c v s hd hq
    dsimp only
    rw [deliverCause_clear hl, latchTrip_run]
    exact ⟨latchTrip_trip d c v s, rfl, rfl, rfl, rfl, rfl, rfl, tCmd, iqA, iqB, ot, stall,
      latchTrip_integrators d c v, latchTrip_triggers d c v, derate, base, lFwd, latchTrip_tripBlocks d c v s,
      (sameLog_latchTrip d c v s).log, by simp, by simp, by simp, by simp, by simp⟩
  · intro d c v s hl
    simpa only [deliverCause_latched hl] using laterCause_isListedOnce c v s
  · intro d c v s hl hd
    have hlim : (latchTrip d c v s).lim = { s.lim with otCount := 0 } := by simp [latchTrip_lim, hd]
    have htrig := latchTrip_triggers d c v (s := s)
    dsimp only at htrig ⊢
    rw [hlim] at htrig
    rw [deliverCause_clear hl]
    exact ⟨latchTrip_trip d c v s, latchTrip_run d c v s, hlim, latchTrip_integrators d c v,
      latchTrip_still d c v, latchTrip_tripBlocks d c v s, htrig,
      (sameLog_latchTrip d c v s).log, by simp, by simp, by simp, by simp, by simp⟩
  · intro seq mode flags q u s hl hf
    obtain ⟨hlatch, hline, hext, hlist⟩ := extTripLatched_trip (setpointStored seq q u s)
    obtain ⟨-, -, -, hot, -⟩ := compute_lim_kept (setpointTripped seq mode q u s)
    have hx : energised (setpointStored seq q u s) = energised s := energised_congr (by simp)
    refine ⟨_, setpoint_extTrip hl hf seq q u, by simpa [setpointTripped] using hlatch,
      by simpa [setpointTripped] using hline, by simpa [setpointTripped] using hext,
      by simpa [setpointTripped] using hlist, (sameLog_setpointTripped ..).log,
      by simp [setpointTripped, RunController.tripped], compute_tCmd_still (setpointTripped_still ..),
      hot.trans (by simp [setpointTripped, extTripLatched_lim]),
      compute_stallTimer_stopped (by decide : DriveState.tripped ≠ .run), fun he => ?_,
      setpointTripped_blocks seq mode q u, fun hr => ?_⟩
    · simpa [setpointTripped] using extTripLatched_integrators (hx.trans he)
    · simpa [setpointTripped] using extTripLatched_triggers (s := setpointStored seq q u s) (by simpa using hr)

end Sys2Proof.Machine

/-! O39 and O26: TRIP_RESET and RESTART, with the READY conditions judged at the end of each and the records each
leaves. -/

namespace Sys2Proof.Machine

/-! ### Requests -/

@[simp] theorem requestTaken_frame (r : Request) (s : State) :
    (requestTaken r s).run = s.run ∧ (requestTaken r s).lim = s.lim ∧ (requestTaken r s).regA = s.regA
      ∧ (requestTaken r s).regB = s.regB ∧ (requestTaken r s).vib = s.vib ∧ (requestTaken r s).load = s.load
      ∧ (requestTaken r s).trip = s.trip ∧ (requestTaken r s).recorder = s.recorder
      ∧ (requestTaken r s).store = s.store ∧ (requestTaken r s).tab = s.tab
      ∧ (requestTaken r s).pending = s.pending ∧ (requestTaken r s).link.slot = s.link.slot
      ∧ (requestTaken r s).link.paceCount = s.link.paceCount := by
  simp [requestTaken]

/-- The answer of a request's owner goes into an empty slot (R183, R184). -/
theorem serve_reply (code : Byte) (r : Request) (owner : State → Reply) {s : State} (h : s.link.slot = none) :
    serve code r owner s = answerPlaced code r (owner (requestTaken r s)).answer (owner (requestTaken r s)).data
      (owner (requestTaken r s)).state :=
  serve_answered code r owner s h

/-- A refused request changes nothing but the frame's sequence and the slot (R184). -/
theorem serve_refused {code : Byte} {r : Request} {owner : State → Reply} {s : State} {a : AnswerCode}
    {data : List Byte} (h : s.link.slot = none)
    (ho : owner (requestTaken r s) = refuse a data (requestTaken r s)) :
    serve code r owner s = answerPlaced code r a data (requestTaken r s) := by
  rw [serve_reply code r owner h, ho]
  rfl

/-- An answer placed touches the link's slot and transmitter alone. -/
@[simp] theorem answerPlaced_frame (code : Byte) (r : Request) (a : AnswerCode) (data : List Byte) (s : State) :
    (answerPlaced code r a data s).run = s.run ∧ (answerPlaced code r a data s).lim = s.lim
      ∧ (answerPlaced code r a data s).regA = s.regA ∧ (answerPlaced code r a data s).regB = s.regB
      ∧ (answerPlaced code r a data s).vib = s.vib ∧ (answerPlaced code r a data s).load = s.load
      ∧ (answerPlaced code r a data s).trip = s.trip ∧ (answerPlaced code r a data s).recorder = s.recorder
      ∧ (answerPlaced code r a data s).store = s.store ∧ (answerPlaced code r a data s).log = s.log
      ∧ (answerPlaced code r a data s).tab = s.tab ∧ (answerPlaced code r a data s).pending = s.pending
      ∧ (answerPlaced code r a data s).link
        = s.link.placeAnswer { code := code, tag := r.tag, answer := a, data := data } := by
  simp [answerPlaced]

@[simp] theorem answerPlaced_ready (code : Byte) (r : Request) (a : AnswerCode) (data : List Byte) (s : State) :
    readyConditions (answerPlaced code r a data s) = readyConditions s := rfl

/-! ### READY or OFF entered (R17, R20) -/

theorem enterReadyOrOff_run (x : DriveReason) (s : State) :
    (enterReadyOrOff x s).run = { s.run with
      state := if readyConditions s then .ready else .off, attempts := 0
      runEdge := if readyConditions s then false else s.run.runEdge } := by
  unfold enterReadyOrOff
  cases readyConditions s <;> simp [RunController.entering]

theorem enterReadyOrOff_lim (x : DriveReason) (s : State) :
    (enterReadyOrOff x s).lim = { s.lim with otCount := 0 } := by
  unfold enterReadyOrOff
  cases readyConditions s <;> simp

theorem enterReadyOrOff_still (x : DriveReason) (s : State) :
    (enterReadyOrOff x s).run.state.follows = false := by
  rw [enterReadyOrOff_state]
  cases readyConditions s <;> rfl

theorem sameLog_enterReadyOrOff (x : DriveReason) (s : State) :
    SameLog (enterReadyOrOff x s)
      (driveStateRecord s.run.state.code (if readyConditions s then 1 else 0) x.code s) := by
  unfold enterReadyOrOff
  cases readyConditions s <;> exact sameLog_changeDrive _ x s

/-! ### TRIP_RESET (R107 to R109) -/

/-- The first listed cause that is active is the one named (R107). -/
theorem activeCause_listed {t : TripController} {before after_ : List CauseEntry} {e : CauseEntry}
    (hl : t.list = before ++ e :: after_) (he : e.id ∈ t.active) (hb : ∀ x ∈ before, x.id ∉ t.active) :
    activeCause t = some e.id := by
  have hf : t.list.find? (fun e => t.active.contains e.id) = some e :=
    List.find?_eq_some_iff_append.mpr ⟨by simpa using he, before, after_, hl, fun x hx => by simpa using hb x hx⟩
  simp only [activeCause, hf]

/-- With no listed cause active it is the first active one, if there is any (R107). -/
theorem activeCause_unlisted {t : TripController} (hl : ∀ x ∈ t.list, x.id ∉ t.active) :
    activeCause t = t.active.head? := by
  have hf : t.list.find? (fun e => t.active.contains e.id) = none :=
    List.find?_eq_none.mpr fun x hx => by simpa using hl x hx
  simp only [activeCause, hf]

/-- The state from which an accepted TRIP_RESET enters READY or OFF (R108, steps 1 to 3). -/
def tripCleared (s : State) : State :=
  raiseTripReset s.trip.list.length s.trip.overflowCount (rearm (clearTrip s))

theorem acceptTripReset_eq (s : State) :
    acceptTripReset s = compute (enterReadyOrOff .tripReset (tripCleared s)) := rfl

@[simp] theorem tripCleared_frame (s : State) :
    (tripCleared s).run = s.run ∧ (tripCleared s).lim = s.lim ∧ (tripCleared s).regA = s.regA
      ∧ (tripCleared s).regB = s.regB ∧ (tripCleared s).vib = s.vib ∧ (tripCleared s).load = s.load
      ∧ (tripCleared s).store = s.store ∧ (tripCleared s).tab = s.tab ∧ (tripCleared s).link = s.link
      ∧ (tripCleared s).pending = s.pending := by
  simp [tripCleared]

theorem clearTrip_trip (s : State) :
    (clearTrip s).trip = { s.trip with
      latch := false, list := [], overflowCount := 0, overflowSet := [], tripLine := false } := by
  simp [clearTrip]

theorem tripCleared_trip (s : State) :
    (tripCleared s).trip = { s.trip with
      latch := false, list := [], overflowCount := 0, overflowSet := [], tripLine := false } := by
  simp [tripCleared, clearTrip_trip]

theorem tripCleared_recorder (s : State) :
    (tripCleared s).recorder = { s.recorder with
      state := .armed, ring := [], preCount := 0, postCount := 0, postTarget := 0, ramRecord := none } := by
  simp [tripCleared, rearm]

/-- The TRIP_RESET record follows the judgement of the ALERT condition for the cleared latch (R109, R158). -/
theorem sameLog_tripCleared (s : State) :
    SameLog (tripCleared s)
      (raise .tripReset .none 0 (BitVec.ofNat 32 s.trip.list.length) (BitVec.ofNat 32 s.trip.overflowCount)
        (judgeAlert { s with trip := (tripCleared s).trip })) := by
  have hc : judgeAlert { s with trip := (tripCleared s).trip } = clearTrip s := by rw [tripCleared_trip]; rfl
  have hr : SameLog (rearm (clearTrip s)) (clearTrip s) := .of_blocks rfl rfl rfl rfl rfl rfl
  rw [hc]
  exact hr.raise _ _ _ _ _

/-- An accepted TRIP_RESET, block by block (R108, R20, R109). -/
theorem acceptTripReset_leaves (s : State) :
    let t := acceptTripReset s
    readyConditions t = readyConditions (tripCleared s)
      ∧ t.run = { s.run with
          state := if readyConditions t then .ready else .off, attempts := 0
          runEdge := if readyConditions t then false else s.run.runEdge }
      ∧ t.lim.tReq = s.lim.tReq ∧ t.lim.supTime = s.lim.supTime
      ∧ t.log = (driveStateRecord s.run.state.code (if readyConditions t then 1 else 0) 11
          (raise .tripReset .none 0 (BitVec.ofNat 32 s.trip.list.length) (BitVec.ofNat 32 s.trip.overflowCount)
            (judgeAlert { s with trip := t.trip }))).log := by
  have hready : readyConditions (acceptTripReset s) = readyConditions (tripCleared s) :=
    readyConditions_congr (by simp [acceptTripReset_eq]) (by simp [acceptTripReset_eq])
      fun m => congrArg _ (State.reg_congr (by simp [acceptTripReset_eq]) (by simp [acceptTripReset_eq]) m)
  obtain ⟨htReq, hsup, -⟩ := compute_lim_kept (enterReadyOrOff .tripReset (tripCleared s))
  have hlog : SameLog (acceptTripReset s) _ :=
    (sameLog_compute_still (enterReadyOrOff_still .tripReset (tripCleared s))).trans
      ((sameLog_enterReadyOrOff .tripReset (tripCleared s)).trans
        ((sameLog_tripCleared s).driveStateRecord _ _ _))
  refine ⟨hready, ?_, ?_, ?_, ?_⟩
  · rw [hready]
    simp [acceptTripReset_eq, enterReadyOrOff_run]
  · simpa [acceptTripReset_eq, enterReadyOrOff_lim] using htReq
  · simpa [acceptTripReset_eq, enterReadyOrOff_lim] using hsup
  · rw [hready]
    simpa [acceptTripReset_eq, DriveReason.code] using hlog.log

theorem tripReset_accepted {s : State} (hl : s.trip.latch = true) (ha : s.trip.active = [])
    (hd : s.recorder.state = .done) :
    tripReset [] s = { state := acceptTripReset s, answer := .ok
                       data := [count8 s.trip.list.length, count8 s.trip.overflowCount] } := by
  have hc : activeCause s.trip = none := by rw [activeCause_unlisted (by simp [ha]), ha]; rfl
  simp [tripReset, hl, hc, hd]

/-- Settles O39: an accepted TRIP_RESET by its blocks, and the refusals in their order. -/
theorem tripResetClearsTheTrip : Obligations.TripResetClearsTheTrip := by
  unfold Obligations.TripResetClearsTheTrip
  refine ⟨?_, ?_⟩
  · intro r s hs hr hl ha hd
    have howner := tripReset_accepted (s := requestTaken r s) (by simpa using hl) (by simpa using ha)
      (by simpa using hd)
    have hexec : exec (.tripReset r) s = .next (serve 11 r (tripReset r.args) s) := rfl
    obtain ⟨hready, hrun, htReq, hsup, hlog⟩ := acceptTripReset_leaves (requestTaken r s)
    rw [hexec, serve_reply 11 r _ hs, hr, howner]
    have htrip : (acceptTripReset (requestTaken r s)).trip = (tripCleared (requestTaken r s)).trip := by
      simp [acceptTripReset_eq]
    have hrec : (acceptTripReset (requestTaken r s)).recorder = (tripCleared (requestTaken r s)).recorder := by
      simp [acceptTripReset_eq]
    rw [tripCleared_trip] at htrip
    rw [tripCleared_recorder] at hrec
    refine ⟨_, rfl, by simpa using htrip, by simp [hrec], by simp [hrec], by simp [hrec], by simp [hrec],
      by simp [hrec], by simp [hrec], by simp [hrun], by simp [hrun], by simp [hrun], by simpa using htReq,
      by simpa using hsup, by simpa using hlog, by simp [acceptTripReset_eq, count8], ?_⟩
    apply State.ext_blocks <;> simp [acceptTripReset_eq]
  · intro r s hs hr
    have hexec : exec (.tripReset r) s = .next (serve 11 r (tripReset r.args) s) := rfl
    rw [hexec, hr]
    refine ⟨fun hl => ?_, fun hl before e after_ hlist he hb => ?_, fun hl hn c rest hc => ?_, fun hl ha hd => ?_⟩
    · exact congrArg _ (serve_refused hs (by simp [tripReset, hl]))
    · have hc := activeCause_listed hlist he hb
      exact congrArg _ (serve_refused hs (by simp [tripReset, hl, hc, causeBytes, count8]))
    · have hc := (activeCause_unlisted hn).trans (congrArg List.head? hc)
      exact congrArg _ (serve_refused hs (by simp [tripReset, hl, hc, causeBytes, count8]))
    · have hc : activeCause s.trip = none := by rw [activeCause_unlisted (by simp [ha]), ha]; rfl
      exact congrArg _ (serve_refused hs (by simp [tripReset, hl, hc, hd, count8]))

/-! ### RESTART (R187) -/

/-- What the log holds from a RESTART on: at most `n` records, all DRIVE_STATE with reason RESTART or CONDITIONS and
all at one pace count, nothing missed, and every counter but that of DRIVE_STATE at 0 (R163, R187). -/
structure SinceRestart (t : EventTable) (pace : DWord) (missed : Bool) (n : Nat) (l : EventLog) : Prop where
  few : l.ring.length ≤ n
  noMissed : l.missed = 0
  others : ∀ k : Fin 16, k ≠ 10 → l.counters[k] = 0
  own : t.intervals[10] = 0 → l.counters[10] = 0
  records : ∀ e ∈ l.ring, e.kind = .driveState ∧ e.pace = pace ∧ (e.flags = 12 ∨ e.flags = 0)
  flag : l.eventMissed = missed

/-- An insertion into a ring with room goes to its newest end and loses nothing (R154). -/
theorem EventLog.insert_of_room {l : EventLog} (h : l.ring.length < ringSize) (m : RingMode) (e : EventRecord) :
    l.insert m e = { l with ring := l.ring ++ [e] } := by
  simp [EventLog.insert, h]

theorem SinceRestart.judge {t : EventTable} {p : DWord} {f : Bool} {n : Nat} {l : EventLog}
    (h : SinceRestart t p f n l) (u : EventTable) (x : Bool) : SinceRestart t p f n (l.judge u x) where
  few := by simpa using h.few
  noMissed := by simpa using h.noMissed
  others := by simpa using h.others
  own := by simpa using h.own
  records := by simpa using h.records
  flag := by simpa using h.flag

/-- A counter set is read back at its own kind, and leaves those of the other kinds. -/
theorem counters_set (v : Vector Nat 16) (i k : Fin 16) (x : Nat) :
    (v.set i x)[k] = if k = i then x else v[k] := by
  simp only [Fin.getElem_fin, Vector.getElem_set, Fin.ext_iff, eq_comm]

/-- A DRIVE_STATE occurrence is passed over, or is put behind the records that stand (R151, R154). -/
theorem SinceRestart.driveState {s : State} {f : Bool} {n : Nat}
    (h : SinceRestart (eventTable s) s.link.paceCount f n s.log) (hn : n < ringSize) (old new : Nat) {reason : Nat}
    (hr : reason = 12 ∨ reason = 0) :
    SinceRestart (eventTable s) s.link.paceCount f (n + 1) (driveStateRecord old new reason s).log := by
  have hroom := Nat.lt_of_le_of_lt h.few hn
  cases hc : s.log.counters[EventKind.driveState.index] with
  | zero =>
    rw [driveStateRecord, raise_recorded _ _ _ _ _ _ hc, EventLog.insert_of_room (by exact hroom)]
    refine SinceRestart.judge ?_ _ _
    refine ⟨by simpa using h.few, h.noMissed, fun k hk => ?_, fun hi => ?_, fun e he => ?_, h.flag⟩
    · exact (counters_set _ EventKind.driveState.index k _).trans ((if_neg hk).trans (h.others k hk))
    · exact (counters_set _ EventKind.driveState.index 10 _).trans hi
    · rcases List.mem_append.mp he with he | he
      · exact h.records e he
      · obtain rfl := List.mem_singleton.mp he
        exact ⟨rfl, rfl, by rcases hr with rfl | rfl <;> simp⟩
  | succ c =>
    rw [driveStateRecord, raise_passed _ _ _ _ _ _ _ hc]
    refine ⟨Nat.le_succ_of_le h.few, h.noMissed, fun k hk => ?_, fun hi => ?_, h.records, h.flag⟩
    · exact (counters_set _ EventKind.driveState.index k _).trans ((if_neg hk).trans (h.others k hk))
    · exact absurd (hc.symm.trans (h.own hi)) (Nat.succ_ne_zero c)

/-- A DRIVE_STATE record with its counter at 0 goes behind the records that stand (R151, R154). -/
theorem driveStateRecord_ring {s : State} (hc : s.log.counters[EventKind.driveState.index] = 0)
    (hr : s.log.ring.length < ringSize) (old new reason : Nat) :
    (driveStateRecord old new reason s).log.ring = s.log.ring ++ [{
      kind := .driveState, source := .none, flags := BitVec.ofNat 16 reason, pace := s.link.paceCount
      data1 := BitVec.ofNat 32 old, data2 := BitVec.ofNat 32 new }] := by
  rw [driveStateRecord, raise_recorded _ _ _ _ _ _ hc, EventLog.insert_of_room (by exact hr)]
  simp

/-- A record raised into a ring with room leaves the oldest record where it is. -/
theorem driveStateRecord_head {s : State} {e : EventRecord} (he : s.log.ring.head? = some e)
    (hr : s.log.ring.length < ringSize) (old new reason : Nat) :
    (driveStateRecord old new reason s).log.ring.head? = some e := by
  cases hc : s.log.counters[EventKind.driveState.index] with
  | zero => rw [driveStateRecord_ring hc hr, List.head?_append, he]; rfl
  | succ c => rwa [driveStateRecord, raise_passed _ _ _ _ _ _ _ hc]

/-- RESTART up to its evaluation point (R187, steps 1 to 6). -/
def restartCleared (s : State) : State :=
  restartLimiter (restartRecorder (clearTrip (restartRecord s.run.state (restartLog (restartRun s)))))

theorem restartAll_eq (s : State) : restartAll s = evaluateReady (restartCleared s) := rfl

@[simp] theorem restartCleared_frame (s : State) :
    (restartCleared s).run = RunController.reset ∧ (restartCleared s).regA = s.regA
      ∧ (restartCleared s).regB = s.regB ∧ (restartCleared s).vib = s.vib ∧ (restartCleared s).load = s.load
      ∧ (restartCleared s).recorder = Recorder.reset ∧ (restartCleared s).store = s.store
      ∧ (restartCleared s).tab = s.tab ∧ (restartCleared s).link = s.link
      ∧ (restartCleared s).pending = s.pending := by
  simp [restartCleared, restartLimiter, restartRecorder, restartLog, restartRun]

theorem restartCleared_trip (s : State) :
    (restartCleared s).trip = { s.trip with
      latch := false, list := [], overflowCount := 0, overflowSet := [], tripLine := false
      active := s.trip.active.filter fun c => c != ⟨.supLost, .none⟩ } := by
  simp [restartCleared, restartLimiter, setCondition, restartRecorder, clearTrip_trip, restartLog, restartRun,
    removeCondition]

theorem restartCleared_lim (s : State) :
    (restartCleared s).lim.missCount = 0 ∧ (restartCleared s).lim.supLost = false
      ∧ (restartCleared s).lim.tReq = s.lim.tReq ∧ (restartCleared s).lim.supTime = s.lim.supTime
      ∧ (restartCleared s).lim.spTimer = s.lim.spTimer := by
  have hr : (restartRecord s.run.state (restartLog (restartRun s))).lim.tReq = s.lim.tReq
      ∧ (restartRecord s.run.state (restartLog (restartRun s))).lim.supTime = s.lim.supTime
      ∧ (restartRecord s.run.state (restartLog (restartRun s))).lim.spTimer = s.lim.spTimer := by
    unfold restartRecord
    split <;> simp [compute_lim_kept, restartLog, restartRun]
  simpa [restartCleared, restartLimiter, restartRecorder] using hr

/-- The log after step 2 (R163). -/
theorem sinceRestart_restartLog (s : State) :
    SinceRestart (eventTable s) s.link.paceCount s.log.eventMissed 0 (restartLog (restartRun s)).log := by
  refine SinceRestart.judge ?_ _ _
  exact ⟨Nat.le_refl 0, rfl, fun k _ => by simp, fun _ => by simp, fun e he => absurd he (by simp), rfl⟩

theorem restartLog_ring (s : State) : (restartLog (restartRun s)).log.ring = [] := by
  simp [restartLog, judgeAlert]

theorem restartLog_counters (s : State) (k : Fin 16) : (restartLog (restartRun s)).log.counters[k] = 0 := by
  simp [restartLog, judgeAlert]

/-- The DRIVE_STATE record of step 3, from any state but OFF (R187). -/
theorem sameLog_restartRecord {old : DriveState} (ho : old ≠ .off) {s : State} (hs : s.run.state.follows = false) :
    SameLog (restartRecord old s) (driveStateRecord old.code 0 12 s) := by
  rw [restartRecord, if_neg ho]
  exact sameLog_compute_still (by simpa using hs)

/-- Step 4 judges the ALERT condition, and no event reads what the later steps touch. -/
theorem restartCleared_log (s : State) :
    (restartCleared s).log =
      (judgeAlert { restartRecord s.run.state (restartLog (restartRun s)) with
        trip := { (restartRecord s.run.state (restartLog (restartRun s))).trip with
          latch := false, list := [], overflowCount := 0, overflowSet := [], tripLine := false } }).log := by
  simp [restartCleared, restartLimiter, restartRecorder, clearTrip]

/-- The log before the evaluation point (R187). -/
theorem sinceRestart_restartCleared (s : State) :
    SinceRestart (eventTable s) s.link.paceCount s.log.eventMissed 1 (restartCleared s).log := by
  rw [restartCleared_log]
  refine SinceRestart.judge ?_ _ _
  have h := sinceRestart_restartLog s
  by_cases ho : s.run.state = .off
  · simpa [restartRecord, ho] using ⟨Nat.le_succ_of_le h.few, h.noMissed, h.others, h.own, h.records, h.flag⟩
  · have hk := sameLog_restartRecord ho (s := restartLog (restartRun s)) rfl
    have ht : eventTable (restartLog (restartRun s)) = eventTable s := rfl
    have hd := SinceRestart.driveState (s := restartLog (restartRun s)) h (by decide) s.run.state.code 0 (.inl rfl)
    exact hk.log ▸ hd

/-- Out of OFF the log is empty, with its counters at 0, until an evaluation point enters READY. -/
theorem restartCleared_log_off {s : State} (ho : s.run.state = .off) :
    (restartCleared s).log.ring = [] ∧ ∀ k : Fin 16, (restartCleared s).log.counters[k] = 0 := by
  rw [restartCleared_log]
  simpa [judgeAlert, restartRecord, ho] using ⟨restartLog_ring s, restartLog_counters s⟩

/-- Out of any other state the record of the RESTART is the oldest (R187). -/
theorem restartCleared_head {s : State} (ho : s.run.state ≠ .off) :
    (restartCleared s).log.ring.head? = some {
      kind := .driveState, source := .none, flags := 12, pace := s.link.paceCount
      data1 := BitVec.ofNat 32 s.run.state.code, data2 := 0 } := by
  have hk := sameLog_restartRecord ho (s := restartLog (restartRun s)) rfl
  have hr := driveStateRecord_ring (s := restartLog (restartRun s)) (restartLog_counters s _)
    (by simp [restartLog_ring, ringSize]) s.run.state.code 0 12
  rw [restartCleared_log]
  simp only [judgeAlert, EventLog.judge_frame, hk.log, hr, restartLog_ring]
  rfl

/-- The record of an evaluation point in OFF (R5). -/
theorem conditionsRecord_off {s : State} (h : s.run.state = .off) (x : Bool) :
    conditionsRecord x s = if x then driveStateRecord 0 1 0 s else s := by
  cases x <;> simp only [conditionsRecord, h] <;> rfl

/-- The evaluation point of a RESTART adds the record of READY, or nothing (R5, R187). -/
theorem restartAll_log (s : State) :
    (restartAll s).log =
      if readyConditions (restartCleared s) then (driveStateRecord 0 1 0 (restartCleared s)).log
      else (restartCleared s).log := by
  have h := (sameLog_evaluateReady (restartCleared s)).log
  have ho : (restartCleared s).run.state = .off := by simp [RunController.reset]
  rw [restartAll_eq, h, conditionsRecord_off ho]
  split <;> rfl

theorem sinceRestart_restartAll (s : State) :
    SinceRestart (eventTable s) s.link.paceCount s.log.eventMissed 2 (restartAll s).log := by
  have h := sinceRestart_restartCleared s
  have ht : eventTable (restartCleared s) = eventTable s := by simp [eventTable]
  have hp : (restartCleared s).link.paceCount = s.link.paceCount := by simp
  rw [restartAll_log]
  split
  · rw [← ht, ← hp] at h ⊢
    exact h.driveState (by decide) 0 1 (.inr rfl)
  · exact ⟨Nat.le_succ_of_le h.few, h.noMissed, h.others, h.own, h.records, h.flag⟩

theorem restartAll_head {s : State} (ho : s.run.state ≠ .off) :
    (restartAll s).log.ring.head? = some {
      kind := .driveState, source := .none, flags := 12, pace := s.link.paceCount
      data1 := BitVec.ofNat 32 s.run.state.code, data2 := 0 } := by
  have hh := restartCleared_head ho
  have hf := (sinceRestart_restartCleared s).few
  rw [restartAll_log]
  split
  · exact driveStateRecord_head hh (Nat.lt_of_le_of_lt hf (by decide)) 0 1 0
  · exact hh

theorem restartAll_ready (s : State) : readyConditions (restartAll s) = readyConditions (restartCleared s) :=
  readyConditions_congr (by simp [restartAll_eq]) (by simp [restartAll_eq])
    fun m => congrArg _ (State.reg_congr (by simp [restartAll_eq]) (by simp [restartAll_eq]) m)

theorem restartAll_run (s : State) :
    (restartAll s).run =
      { RunController.reset with state := if readyConditions (restartAll s) then .ready else .off } := by
  rw [restartAll_ready, restartAll_eq, evaluateReady_run]
  cases readyConditions (restartCleared s) <;> simp [RunController.reset]

theorem restartAll_lim (s : State) :
    (restartAll s).lim.missCount = 0 ∧ (restartAll s).lim.supLost = false
      ∧ (restartAll s).lim.tReq = s.lim.tReq ∧ (restartAll s).lim.supTime = s.lim.supTime
      ∧ (restartAll s).lim.spTimer = s.lim.spTimer := by
  obtain ⟨hq, hu, hm, ht, hs, -⟩ := evaluateReady_lim_kept (restartCleared s)
  simpa only [restartAll_eq, hq, hu, hm, ht, hs] using restartCleared_lim s

/-- Settles O26: an accepted RESTART by its blocks, its log from the emptied ring on, and the two refusals. -/
theorem restartReturnsToTheStart : Obligations.RestartReturnsToTheStart := by
  unfold Obligations.RestartReturnsToTheStart
  refine ⟨?_, ?_⟩
  · intro r s hs hr he hf hw
    let u := requestTaken r s
    have hexec : exec (.restart r) s = .next (serve 3 r (restart r.args) s) := rfl
    have hholds : s.recorder.state.holdsRestart = false := by
      cases hq : s.recorder.state <;> simp_all [RecorderState.holdsRestart]
    have howner : restart [] u = { state := restartAll u, answer := .ok, data := [] } := by
      simp [restart, u, energised, show s.run.state.energised = false from he, hholds]
    rw [hexec, serve_reply 3 r _ hs, hr, howner]
    obtain ⟨hmiss, hsup, htReq, hsupTime, hsp⟩ := restartAll_lim u
    have hlog := sinceRestart_restartAll u
    refine ⟨_, rfl, restartAll_run u, by simp [restartAll_eq, restartCleared_trip, u], by simp [restartAll_eq],
      hmiss, hsup, by simpa [u] using htReq, by simpa [u] using hsupTime, by simpa [u] using hsp, hlog.few,
      hlog.noMissed, hlog.others, fun hi => hlog.own (by simpa [u, eventTable] using hi), ?_, ?_, ?_, hlog.flag,
      by simp [restartAll_eq, u], ?_⟩
    · intro e hm
      simpa [u] using hlog.records e hm
    · intro ho hc
      obtain ⟨hring, hcount⟩ := restartCleared_log_off (s := u) (by simpa [u] using ho)
      have hl : (restartAll u).log = (restartCleared u).log := by
        rw [restartAll_log, if_neg (by rw [← restartAll_ready]; simpa using hc)]
      exact ⟨hl ▸ hring, hl ▸ hcount 10⟩
    · intro ho
      simpa [u] using restartAll_head (s := u) (by simpa [u] using ho)
    · apply State.ext_blocks <;> simp [restartAll_eq, u]
  · intro r s hs hr
    have hexec : exec (.restart r) s = .next (serve 3 r (restart r.args) s) := rfl
    have hu : energised (requestTaken r s) = energised s := energised_congr (by simp)
    rw [hexec, hr]
    refine ⟨fun he => ?_, fun he hf => ?_, fun he hw => ?_⟩
    · exact congrArg _ (serve_refused hs (by simp [restart, hu, he]))
    · exact congrArg _ (serve_refused hs (by
        simp [restart, hu, he, hf, RecorderState.holdsRestart, RecorderState.code, count8]))
    · exact congrArg _ (serve_refused hs (by
        simp [restart, hu, he, hw, RecorderState.holdsRestart, RecorderState.code, count8]))

end Sys2Proof.Machine

/-! O50, O51, O52: what a setpoint's mode and the run controller's and torque limiter's timers do to the drive. -/

namespace Sys2Proof.Machine

/-- No event reads the run controller. -/
theorem SameLog.withRun (s : State) (r : RunController) : SameLog { s with run := r } s :=
  .of_blocks rfl rfl rfl rfl rfl rfl

/-- No event reads the torque limiter. -/
theorem SameLog.withLim (s : State) (l : TorqueLimiter) : SameLog { s with lim := l } s :=
  .of_blocks rfl rfl rfl rfl rfl rfl

/-- The record of a change, from any state with the same log (R22). -/
theorem SameLog.changeDrive {s t : State} (h : SameLog s t) {old : DriveState} (hs : s.run.state = old)
    (d : DriveState) (x : DriveReason) :
    SameLog (changeDrive d x s) (Machine.driveStateRecord old.code d.code x.code t) :=
  hs ▸ (sameLog_changeDrive d x s).trans (h.driveStateRecord _ _ _)

/-! ### Attempts, stops and their records (R11, R15, R16) -/

theorem natCast_mag (x : Int) : (mag x : Int) = |x| := Int.natCast_natAbs x

theorem beginAttempt_run (n : Nat) (x : DriveReason) (o : AttemptOrigin) (s : State) :
    (beginAttempt n x o s).run =
      { s.run with state := .breakaway, attempts := n, brkTimer := .running (driveFieldsOf s).brkTime } := by
  simp [beginAttempt, RunController.entering]

/-- DRIVE_STATE, and BRK_START behind it, from any state with the same log and the same speed (R11, R22, R23). -/
theorem SameLog.beginAttempt {s t : State} (h : SameLog s t) (hv : paceSpeed s = paceSpeed t) {old : DriveState}
    (hs : s.run.state = old) (n : Nat) (x : DriveReason) (o : AttemptOrigin) :
    SameLog (beginAttempt n x o s)
      (Machine.brkStartRecord o.code n (Machine.driveStateRecord old.code 2 x.code t)) := by
  have hd : SameLog _ (Machine.driveStateRecord old.code 2 x.code t) :=
    ((SameLog.withRun s { s.run with
      attempts := n, brkTimer := .running (driveFieldsOf s).brkTime }).trans h).changeDrive hs .breakaway x
  have hk : paceSpeed (Machine.driveStateRecord old.code 2 x.code t) = paceSpeed t := rfl
  refine hd.brkStartRecord (Eq.trans ?_ (hv.trans hk.symm)) _ _
  exact paceSpeed_congr (by simp) fun m => congrArg _ (State.reg_congr (by simp) (by simp) m)

theorem enterStopping_run (s : State) :
    (enterStopping s).run = { s.run with
      state := .stopping, brkTimer := .stopped, restTimer := .stopped
      stopTimer := .running (driveFieldsOf s).stopTime } := by
  unfold enterStopping
  dsimp only
  split <;> simp [RunController.entering]

/-- DRIVE_STATE, and BRK_END ABANDONED behind it where a breakaway is cut off (R15, R16, R22). -/
theorem sameLog_enterStopping (s : State) :
    SameLog (enterStopping s)
      (if inBreakaway s.run.state then brkEndRecord 2 s.run.attempts (driveStateRecord s.run.state.code 5 6 s)
        else driveStateRecord s.run.state.code 5 6 s) := by
  have hd : SameLog _ (driveStateRecord s.run.state.code 5 6 s) :=
    (SameLog.withRun s { s.run with
      brkTimer := .stopped, restTimer := .stopped
      stopTimer := .running (driveFieldsOf s).stopTime }).changeDrive rfl .stopping .stopTaken
  unfold enterStopping
  dsimp only
  split
  · exact hd.brkEndRecord 2 _
  · exact hd

theorem atBrkSpeed_iff {s : State} {d : DriveTable} (h : activeDrive s = some d) :
    atBrkSpeed s = true ↔ (d.brkSpeed : Int) ≤ |paceSpeed s| := by
  rw [← natCast_mag, atBrkSpeed, driveFieldsOf_some h, decide_eq_true_iff, Int.ofNat_le]

/-! ### The mode of a setpoint (R7, R9, R16, R18) -/

/-- The state in which the mode of a setpoint without EXT_TRIP is acted on (R7). -/
def modeGiven (seq : Seq) (q : Word) (u : DWord) (s : State) : State :=
  actExtTrip false (setpointStored seq q u s)

@[simp] theorem modeGiven_frame (seq : Seq) (q : Word) (u : DWord) (s : State) :
    (modeGiven seq q u s).run = s.run ∧ (modeGiven seq q u s).regA = s.regA ∧ (modeGiven seq q u s).regB = s.regB
      ∧ (modeGiven seq q u s).tab = s.tab := by
  simp [modeGiven, actExtTrip]

/-- No event reads what a setpoint stores. -/
theorem sameLog_modeGiven (seq : Seq) (q : Word) (u : DWord) (s : State) :
    SameLog (modeGiven seq q u s) (acceptFrame .S 0 seq s) :=
  SameLog.trans (t := setpointStored seq q u s)
    (.of_blocks (by simp [modeGiven, actExtTrip]) (by simp) (by simp [modeGiven, actExtTrip, setCondition])
      (by simp [modeGiven]) (by simp [modeGiven]) (by simp [modeGiven, actExtTrip]))
    (sameLog_setpointStored seq q u s)

theorem paceSpeed_modeGiven (seq : Seq) (q : Word) (u : DWord) (s : State) :
    paceSpeed (modeGiven seq q u s) = paceSpeed s :=
  paceSpeed_congr (by simp) fun m => congrArg _ (State.reg_congr (by simp) (by simp) m)

theorem setpoint_stop {mode flags : Byte} (hm : mode ≠ 1) (hf : flags.getLsbD 0 = false) (seq : Seq) (q : Word)
    (u : DWord) (s : State) :
    exec (.setpoint seq mode flags q u) s = .next (compute (actStop (modeGiven seq q u s))) := by
  have hb : (mode == 1) = false := by simpa using hm
  rw [exec_setpoint, hf, hb]
  rfl

theorem setpoint_run {mode flags : Byte} (hm : mode = 1) (hf : flags.getLsbD 0 = false) (seq : Seq) (q : Word)
    (u : DWord) (s : State) :
    exec (.setpoint seq mode flags q u) s = .next (compute (actRun (modeGiven seq q u s))) := by
  rw [exec_setpoint, hf, hm]
  rfl

/-- RUN in READY, by the run edge and the speed (R9). -/
theorem actRun_ready {s : State} (h : s.run.state = .ready) :
    actRun s =
      if s.run.runEdge then
        if atBrkSpeed s then changeDrive .run .runTaken s else beginAttempt 1 .runTaken .fromReady s
      else raiseDriveState runRefusedCode DriveState.ready.code .runRefused s := by
  simp only [actRun, h, runInReady]

/-- RUN in STOPPING, by the speed (R18). -/
theorem actRun_stopping {s : State} (h : s.run.state = .stopping) :
    actRun s =
      if atBrkSpeed s then changeDrive .run .runInStop { s with run := { s.run with stopTimer := .stopped } }
      else beginAttempt 1 .runInStop .fromStopping { s with run := { s.run with stopTimer := .stopped } } := by
  simp only [actRun, h, runInStopping]
  rfl

/-- What a setpoint's computation records, behind the records of its mode (R35). -/
theorem SameLog.computed {x y : State} (h : SameLog x y) : SameLog (compute x) (Machine.tlimRecord (compute x).lim y) :=
  (sameLog_compute x).trans (h.tlimRecord _)

/-- A STOP that ends BREAKAWAY, RESTING or RUN (R16). -/
theorem stop_moves {s : State} {d : DriveTable} (hd : activeDrive s = some d) {a : State} (ha : SameLog s a)
    (hs : s.run.state = .breakaway ∨ s.run.state = .resting ∨ s.run.state = .run) :
    (compute (actStop s)).run = { s.run with
        state := .stopping, runEdge := true, brkTimer := .stopped, restTimer := .stopped
        stopTimer := .running d.stopTime }
      ∧ (compute (actStop s)).log =
        (if inBreakaway s.run.state then brkEndRecord 2 s.run.attempts (driveStateRecord s.run.state.code 5 6 a)
          else driveStateRecord s.run.state.code 5 6 a).log := by
  have he : SameLog ({ s with run := { s.run with runEdge := true } } : State) a :=
    (SameLog.withRun s _).trans ha
  have hd' : driveFieldsOf { s with run := { s.run with runEdge := true } } = d := driveFieldsOf_some hd
  rw [actStop_moving hs]
  refine ⟨?_, (SameLog.trans (sameLog_compute_still ?_) ((sameLog_enterStopping _).trans ?_)).log⟩
  · simp [enterStopping_run, hd']
  · simp [enterStopping_run, DriveState.follows]
  · dsimp only
    split
    · exact (he.driveStateRecord _ _ _).brkEndRecord _ _
    · exact he.driveStateRecord _ _ _

/-- A STOP in any other state sets the run edge alone (R8). -/
theorem stop_stays {s a : State} (ha : SameLog s a) (hb : s.run.state ≠ .breakaway) (hr : s.run.state ≠ .resting)
    (hn : s.run.state ≠ .run) :
    (compute (actStop s)).run = { s.run with runEdge := true } ∧ (compute (actStop s)).log = a.log := by
  have hstill : s.run.state.follows = false := by
    cases hs : s.run.state <;> first | rfl | contradiction
  have he : SameLog { s with run := { s.run with runEdge := true } } a := (SameLog.withRun s _).trans ha
  rw [actStop_still hb hr hn]
  exact ⟨by simp, (SameLog.trans (sameLog_compute_still (by exact hstill)) he).log⟩

/-- A RUN that moves nothing (R7). -/
theorem run_stays {s a : State} (ha : SameLog s a) (hr : s.run.state ≠ .ready) (hs : s.run.state ≠ .stopping) :
    (compute (actRun s)).run = s.run
      ∧ (compute (actRun s)).log = (tlimRecord (compute (actRun s)).lim a).log := by
  rw [actRun_still hr hs]
  exact ⟨by simp, (SameLog.computed ha).log⟩

/-- A RUN in READY without the run edge is refused (R9). -/
theorem run_refused {s a : State} (ha : SameLog s a) (hs : s.run.state = .ready) (he : s.run.runEdge = false) :
    (compute (actRun s)).run = s.run ∧ (compute (actRun s)).log = (driveStateRecord 15 1 2 a).log := by
  have hr : actRun s = driveStateRecord 15 1 2 s := by rw [actRun_ready hs, he]; rfl
  have hstill : (driveStateRecord 15 1 2 s).run.state.follows = false := by
    simp [driveStateRecord, hs, DriveState.follows]
  rw [hr]
  exact ⟨by simp [driveStateRecord], ((sameLog_compute_still hstill).trans (ha.driveStateRecord _ _ _)).log⟩

/-- A RUN taken in READY (R9). -/
theorem run_taken {s a : State} {d : DriveTable} (ha : SameLog s a) (hv : paceSpeed s = paceSpeed a)
    (hd : activeDrive s = some d) (hs : s.run.state = .ready) (he : s.run.runEdge = true) :
    let t := compute (actRun s)
    ((d.brkSpeed : Int) ≤ |paceSpeed s| →
        t.run = { s.run with state := .run } ∧ t.log = (tlimRecord t.lim (driveStateRecord 1 4 1 a)).log)
      ∧ (|paceSpeed s| < d.brkSpeed →
        t.run = { s.run with state := .breakaway, attempts := 1, brkTimer := .running d.brkTime }
        ∧ t.log = (tlimRecord t.lim (brkStartRecord 0 1 (driveStateRecord 1 2 1 a))).log) := by
  dsimp only
  rw [actRun_ready hs, if_pos he]
  refine ⟨fun hb => ?_, fun hb => ?_⟩
  · rw [if_pos ((atBrkSpeed_iff hd).mpr hb)]
    exact ⟨by simp [RunController.entering], (SameLog.computed (ha.changeDrive hs .run .runTaken)).log⟩
  · rw [if_neg (mt (atBrkSpeed_iff hd).mp (by omega))]
    exact ⟨by simp [beginAttempt_run, driveFieldsOf_some hd],
      (SameLog.computed (ha.beginAttempt hv hs 1 .runTaken .fromReady)).log⟩

/-- A RUN taken in STOPPING (R18). -/
theorem run_inStop {s a : State} {d : DriveTable} (ha : SameLog s a) (hv : paceSpeed s = paceSpeed a)
    (hd : activeDrive s = some d) (hs : s.run.state = .stopping) :
    let t := compute (actRun s)
    ((d.brkSpeed : Int) ≤ |paceSpeed s| →
        t.run = { s.run with state := .run, stopTimer := .stopped }
        ∧ t.log = (tlimRecord t.lim (driveStateRecord 5 4 7 a)).log)
      ∧ (|paceSpeed s| < d.brkSpeed →
        t.run = { s.run with
          state := .breakaway, attempts := 1, brkTimer := .running d.brkTime, stopTimer := .stopped }
        ∧ t.log = (tlimRecord t.lim (brkStartRecord 1 1 (driveStateRecord 5 2 7 a))).log) := by
  have hw : SameLog { s with run := { s.run with stopTimer := .stopped } } a := (SameLog.withRun s _).trans ha
  dsimp only
  rw [actRun_stopping hs]
  refine ⟨fun hb => ?_, fun hb => ?_⟩
  · rw [if_pos ((atBrkSpeed_iff hd).mpr hb)]
    exact ⟨by simp [RunController.entering], (SameLog.computed (hw.changeDrive hs .run .runInStop)).log⟩
  · rw [if_neg (mt (atBrkSpeed_iff hd).mp (by omega))]
    have hd' : driveFieldsOf { s with run := { s.run with stopTimer := .stopped } } = d := driveFieldsOf_some hd
    exact ⟨by simp [beginAttempt_run, hd'],
      (SameLog.computed (hw.beginAttempt hv hs 1 .runInStop .fromStopping)).log⟩

/-- Settles O50, mode by mode and drive state by drive state. -/
theorem modeMovesTheDrive : Obligations.ModeMovesTheDrive := by
  unfold Obligations.ModeMovesTheDrive
  intro seq mode flags q u s hf a
  let y := modeGiven seq q u s
  have ha : SameLog y a := sameLog_modeGiven seq q u s
  have hv : paceSpeed y = paceSpeed s := paceSpeed_modeGiven seq q u s
  have hva : paceSpeed y = paceSpeed a :=
    paceSpeed_congr (by simp [y, a]) fun m => congrArg _ (State.reg_congr (by simp [y, a]) (by simp [y, a]) m)
  have hrun : s.run = y.run := by simp [y]
  have hdrive : activeDrive y = activeDrive s := activeDrive_congr (by simp [y])
  rw [hrun, ← hv, ← hdrive]
  by_cases hm : mode = 1
  · refine ⟨_, setpoint_run hm hf seq q u s, (absurd hm ·), fun _ => run_refused ha, fun _ => run_stays ha,
      fun d hd => ⟨(absurd hm ·), (absurd hm ·), fun _ hs he => (run_taken ha hva hd hs he).1,
        fun _ hs he => (run_taken ha hva hd hs he).2, fun _ hs => (run_inStop ha hva hd hs).1,
        fun _ hs => (run_inStop ha hva hd hs).2⟩⟩
  · refine ⟨_, setpoint_stop hm hf seq q u s, fun _ => stop_stays ha, (absurd · hm), (absurd · hm),
      fun d hd =>
        ⟨fun _ hs => ?_, fun _ hs => ?_, (absurd · hm), (absurd · hm), (absurd · hm), (absurd · hm)⟩⟩
    · have hb : inBreakaway y.run.state = true := by simpa [inBreakaway] using hs
      simpa only [hb, if_true] using stop_moves hd ha (by tauto)
    · have hb : inBreakaway y.run.state = false := by simp [inBreakaway, hs]
      have hstop := stop_moves hd ha (.inr (.inr hs))
      rw [if_neg (by simp [hb]), hs] at hstop
      exact hstop

/-! ### The run controller's timers (R13, R14, R17) -/

theorem exec_brkTimeExpiry {s : State} {n : Nat} (h : s.run.brkTimer = .running n) :
    exec .brkTimeExpiry s = .next (if s.run.attempts < (driveFieldsOf s).brkRetries then
      attemptTimedOut { s with run := { s.run with brkTimer := .stopped } }
      else breakawayFailed { s with run := { s.run with brkTimer := .stopped } }) := by
  change execBrkTimeExpiry s = _
  simp only [execBrkTimeExpiry, h]
  rfl

theorem exec_brkRestExpiry {s : State} {n : Nat} (h : s.run.restTimer = .running n) :
    exec .brkRestExpiry s = .next (compute (beginAttempt (s.run.attempts + 1) .restEnd .afterRest
      { s with run := { s.run with restTimer := .stopped } })) := by
  change execBrkRestExpiry s = _
  simp only [execBrkRestExpiry, h]

theorem exec_stopTimeExpiry {s : State} {n : Nat} (h : s.run.stopTimer = .running n) :
    exec .stopTimeExpiry s = .next (endStop none .stopTimer s) := by
  change execStopTimeExpiry s = _
  simp only [execStopTimeExpiry, h]

/-- READY or OFF entered at the end of a stop, before the ports block (R17). -/
def stopEnded (x : DriveReason) (s : State) : State :=
  enterReadyOrOff x { s with run := { s.run with stopTimer := .stopped } }

theorem endStop_eq (own : Option Motor) (x : DriveReason) (s : State) :
    endStop own x s = compute (blockBoth own (stopEnded x s)) := rfl

theorem stopEnded_ready (s : State) :
    readyConditions { s with run := { s.run with stopTimer := .stopped } } = readyConditions s := rfl

theorem stopEnded_run (x : DriveReason) (s : State) :
    (stopEnded x s).run = { s.run with
      state := if readyConditions s then .ready else .off, stopTimer := .stopped, attempts := 0
      runEdge := if readyConditions s then false else s.run.runEdge } := by
  rw [stopEnded, enterReadyOrOff_run, stopEnded_ready]

theorem stopEnded_reg (x : DriveReason) (s : State) (m : Motor) : (stopEnded x s).reg m = s.reg m :=
  State.reg_congr (by simp [stopEnded]) (by simp [stopEnded]) m

theorem endStop_run (own : Option Motor) (x : DriveReason) (s : State) :
    (endStop own x s).run = { s.run with
      state := if readyConditions s then .ready else .off, stopTimer := .stopped, attempts := 0
      runEdge := if readyConditions s then false else s.run.runEdge } := by
  simp [endStop_eq, stopEnded_run]

/-- Both regulators block at the end of a stop (R3). -/
theorem endStop_reg (own : Option Motor) (x : DriveReason) (s : State) (m : Motor) :
    (endStop own x s).reg m = (s.reg m).blocked (blocksNow own m (s.reg m)) := by
  have hc : (endStop own x s).reg m = (blockBoth own (stopEnded x s)).reg m :=
    State.reg_congr (by simp [endStop_eq]) (by simp [endStop_eq]) m
  rw [hc, blockBoth_reg, stopEnded_reg]

theorem endStop_integrators (own : Option Motor) (x : DriveReason) (s : State) :
    (endStop own x s).regA.intD = 0 ∧ (endStop own x s).regA.intQ = 0
      ∧ (endStop own x s).regB.intD = 0 ∧ (endStop own x s).regB.intQ = 0 := by
  have hA := endStop_reg own x s .A
  have hB := endStop_reg own x s .B
  simp only [State.reg_A, State.reg_B] at hA hB
  simp [hA, hB]

theorem endStop_link (own : Option Motor) (x : DriveReason) (s : State) :
    (endStop own x s).link = (blockBoth own s).link := by
  have hb : (blockBoth own (stopEnded x s)).link = (blockBoth own s).link :=
    blockBoth_link_congr _ (by simp [stopEnded]) (by simp [stopEnded]) (by simp [stopEnded])
  simp [endStop_eq, hb]

/-- A stop that ends in READY or OFF commands nothing (R34). -/
theorem stopEnded_still (own : Option Motor) (x : DriveReason) (s : State) :
    (blockBoth own (stopEnded x s)).run.state.follows = false := by
  simpa [stopEnded] using enterReadyOrOff_still x { s with run := { s.run with stopTimer := .stopped } }

theorem endStop_tCmd (own : Option Motor) (x : DriveReason) (s : State) : (endStop own x s).lim.tCmd = 0 :=
  compute_tCmd_still (stopEnded_still own x s)

/-- The record of the end of a stop (R22). -/
theorem sameLog_endStop (own : Option Motor) (x : DriveReason) (s : State) :
    SameLog (endStop own x s)
      (driveStateRecord s.run.state.code (if readyConditions s then 1 else 0) x.code s) :=
  (sameLog_compute_still (stopEnded_still own x s)).trans ((sameLog_blockBoth own _).trans
    ((sameLog_enterReadyOrOff x _).trans ((SameLog.withRun s _).driveStateRecord _ _ _)))

/-- What an attempt's expiry with attempts remaining does (R13). -/
theorem attemptTimedOut_leaves (s : State) :
    let t := attemptTimedOut s
    t.run = { s.run with state := .resting, restTimer := .running (driveFieldsOf s).brkRest }
      ∧ SameLog t (driveStateRecord s.run.state.code 3 4 s)
      ∧ t.lim.tCmd = 0 := by
  refine ⟨by simp [attemptTimedOut, RunController.entering], ?_, ?_⟩
  · exact SameLog.trans (sameLog_compute_still (by simp [DriveState.follows]))
      ((SameLog.withRun s _).changeDrive rfl .resting .attemptTimeout)
  · exact compute_tCmd_still (by simp [DriveState.follows])

/-- A cause delivered outside a setpoint while the latch is clear: the drive is TRIPPED, with nothing commanded, the
cause is the one entry of the list, and its records stand behind those of any state with the same log (R102). -/
theorem delivered_trips {s a : State} (h : s.trip.latch = false) (ha : SameLog s a) (hr : s.run.state = a.run.state)
    (hk : s.run.attempts = a.run.attempts) (own : Option Motor) (c : CauseId) (v : DWord) :
    let t := deliverCause { own := own, inSetpoint := false } c v s
    t.run = s.run.tripped ∧ t.trip.latch = true ∧ t.lim.tCmd = 0 ∧ t.lim.stallTimer = .stopped
      ∧ t.trip.list = [{ id := c, pace := s.link.paceCount, value := v, supTime := s.lim.supTime }]
      ∧ SameLog t (latchRecords c v a) := by
  dsimp only
  rw [deliverCause_clear h]
  have hlim : (latchTrip { own := own, inSetpoint := false } c v s).lim = (compute (trippedFrom s)).lim := by
    simp [latchTrip_lim]
  refine ⟨latchTrip_run _ c v s, by simp [latchTrip_trip], ?_, ?_, by simp [latchTrip_trip, causeEntry],
    (sameLog_latchTrip _ c v s).trans (ha.latchRecords hr hk c v)⟩
  · rw [hlim]
    exact compute_tCmd_still rfl
  · rw [hlim]
    exact compute_stallTimer_stopped (by decide : DriveState.tripped ≠ .run)

/-- Settles O51: each timer's expiry by its blocks. -/
theorem runTimersExpire : Obligations.RunTimersExpire := by
  unfold Obligations.RunTimersExpire
  intro s n d hd
  have hdf : driveFieldsOf s = d := driveFieldsOf_some hd
  refine ⟨fun ht hlt => ?_, fun ht hle hl => ?_, fun ht => ?_, fun ht hk => ?_⟩
  · obtain ⟨hrun, hlog, hcmd⟩ := attemptTimedOut_leaves { s with run := { s.run with brkTimer := .stopped } }
    have hrest : driveFieldsOf { s with run := { s.run with brkTimer := .stopped } } = d := hdf
    rw [exec_brkTimeExpiry ht, if_pos (hdf ▸ hlt)]
    refine ⟨_, rfl, by simp [hrun, hrest],
      (hlog.trans ((SameLog.withRun s _).driveStateRecord _ _ _)).log, hcmd, ?_⟩
    apply State.ext_blocks <;> simp
  · have hw : SameLog (brkEndRecord 1 s.run.attempts { s with run := { s.run with brkTimer := .stopped } })
        (brkEndRecord 1 s.run.attempts s) := (SameLog.withRun s _).brkEndRecord _ _
    obtain ⟨hrun, hlatch, hcmd, -, hlist, hlog⟩ := delivered_trips (by exact hl) hw rfl rfl none
      ⟨.breakawayFail, .none⟩ (BitVec.ofNat 32 (paceSpeed s).natAbs)
    rw [exec_brkTimeExpiry ht, if_neg (by rw [hdf]; omega)]
    exact ⟨_, rfl, hrun, hlatch, hcmd, hlist, hlog.log, rfl, by simp, by simp, by simp, by simp, by simp⟩
  · have hw := (SameLog.withRun s { s.run with restTimer := .stopped }).beginAttempt rfl rfl (s.run.attempts + 1)
      .restEnd .afterRest
    have hbrk : driveFieldsOf { s with run := { s.run with restTimer := .stopped } } = d := hdf
    rw [exec_brkRestExpiry ht]
    refine ⟨_, rfl, by simp [beginAttempt_run, hbrk], (SameLog.computed hw).log, ?_⟩
    apply State.ext_blocks <;> simp
  · have hsent (m : Motor) := blockBoth_vcmds none s hk m
    obtain ⟨hAD, hAQ, hBD, hBQ⟩ := endStop_integrators none .stopTimer s
    rw [exec_stopTimeExpiry ht]
    refine ⟨_, rfl, endStop_run none .stopTimer s, endStop_tCmd none .stopTimer s,
      (sameLog_endStop none .stopTimer s).log, hAD, hAQ, hBD, hBQ, fun m => ?_, ?_⟩
    · simpa [endStop_link, blocksNow, blockingCommand] using hsent m
    · apply State.ext_blocks <;> simp

/-! ### The torque limiter's timers (R42 to R44) -/

theorem exec_stallTimerExpiry {s : State} {n : Nat} (h : s.lim.stallTimer = .running n) :
    exec .stallTimerExpiry s = .next (deliverCause { own := none, inSetpoint := false } ⟨.stall, .none⟩
      (count32 (mag (paceSpeed s))) { s with lim := { s.lim with stallTimer := .stopped } }) := by
  change execStallTimerExpiry s = _
  simp only [execStallTimerExpiry, h]

theorem exec_setpointTimerExpiry {s : State} {n : Nat} (h : s.lim.spTimer = .running n) :
    exec .setpointTimerExpiry s = .next (checkSupLost (countSetpointMiss s)) := by
  change execSetpointTimerExpiry s = _
  simp only [execSetpointTimerExpiry, h]

theorem spTimerStart_some {s : State} {d : DriveTable} (h : activeDrive s = some d) :
    spTimerStart s = .running d.spTimeout := by
  simp only [spTimerStart, h]

/-- The miss of a setpoint period touches the torque limiter and the log alone (R43). -/
theorem countSetpointMiss_eq {s : State} {d : DriveTable} (h : activeDrive s = some d) :
    countSetpointMiss s = { s with
      lim := { s.lim with missCount := riseBy s.lim.missCount 1, spTimer := .running d.spTimeout }
      log :=
        (raise .spMiss .none 0 (BitVec.ofNat 32 (riseBy s.lim.missCount 1)) (BitVec.ofInt 32 s.lim.tReq) s).log } := by
  have hd (x : State) (hx : x.tab = s.tab) : spTimerStart x = .running d.spTimeout :=
    spTimerStart_some ((activeDrive_congr hx).trans h)
  apply State.ext_blocks <;> simp [countSetpointMiss, hd]
  exact raise_log_congr _ _ _ _ _ rfl rfl rfl rfl

/-- A condition that becomes active joins the set, and no other does (R101). -/
theorem mem_addCondition {c e : CauseId} (set : List CauseId) (he : e ∈ conditionOrder) :
    e ∈ addCondition c set ↔ e ∈ set ∨ e = c := by
  simp only [addCondition, List.mem_filter, he, true_and]
  simp [or_comm]

/-- A delivery does not touch the conditions (R101). -/
@[simp] theorem deliverCause_conditions (d : Delivery) (c : CauseId) (v : DWord) (s : State) :
    (deliverCause d c v s).trip.active = s.trip.active ∧ (deliverCause d c v s).trip.extTrip = s.trip.extTrip := by
  cases hl : s.trip.latch
  · rw [deliverCause_clear hl, latchTrip_trip]
    exact ⟨rfl, rfl⟩
  · rw [deliverCause_latched hl]
    obtain ⟨-, he⟩ | ⟨-, -, he⟩ | ⟨-, -, -, he⟩ | ⟨-, -, -, he⟩ := appendCause_cases c v s <;> simp [he]

/-- What a delivery keeps of the torque limiter. -/
@[simp] theorem deliverCause_lim_kept (d : Delivery) (c : CauseId) (v : DWord) (s : State) :
    (deliverCause d c v s).lim.tReq = s.lim.tReq ∧ (deliverCause d c v s).lim.supTime = s.lim.supTime
      ∧ (deliverCause d c v s).lim.missCount = s.lim.missCount ∧ (deliverCause d c v s).lim.spTimer = s.lim.spTimer
      ∧ (deliverCause d c v s).lim.supLost = s.lim.supLost
      ∧ (deliverCause d c v s).lim.stack.vibDerate = s.lim.stack.vibDerate
      ∧ (deliverCause d c v s).lim.stack.thermA = s.lim.stack.thermA
      ∧ (deliverCause d c v s).lim.stack.thermB = s.lim.stack.thermB := by
  cases hl : s.trip.latch
  · rw [deliverCause_clear hl, latchTrip_lim]
    cases d.inSetpoint <;> simp [compute_lim_kept, trippedFrom]
  · simp [deliverCause_latched hl]

/-- The state in which SUP_LOST is delivered: the miss counted and recorded, the condition active (R43, R44). -/
def supervisorLost (d : DriveTable) (s : State) : State :=
  let count := riseBy s.lim.missCount 1
  { s with
    lim := { s.lim with missCount := count, spTimer := .running d.spTimeout, supLost := true }
    trip := { s.trip with active := addCondition ⟨.supLost, .none⟩ s.trip.active }
    log := (raise .spMiss .none 0 (BitVec.ofNat 32 count) (BitVec.ofInt 32 s.lim.tReq) s).log }

/-- The expiry delivers SUP_LOST where the count has come to SP_LOSS_LIMIT in an energised state (R44). -/
theorem setpointTimerExpired {s : State} {d : DriveTable} (h : activeDrive s = some d) :
    checkSupLost (countSetpointMiss s) =
      if energised s ∧ riseBy s.lim.missCount 1 = d.spLossLimit then
        deliverCause { own := none, inSetpoint := false } ⟨.supLost, .none⟩
          (BitVec.ofNat 32 (riseBy s.lim.missCount 1)) (supervisorLost d s)
      else countSetpointMiss s := by
  rw [countSetpointMiss_eq h]
  have hdf : driveFieldsOf s = d := driveFieldsOf_some h
  simp only [checkSupLost]
  rw [← hdf]
  rfl

/-- Settles O52: a stall is one delivery, and a missed setpoint is counted and at the limit delivered. -/
theorem torqueTimersExpire : Obligations.TorqueTimersExpire := by
  unfold Obligations.TorqueTimersExpire
  intro s n d hd
  refine ⟨fun ht hl => ?_, fun ht => ?_⟩
  · obtain ⟨hrun, hlatch, hcmd, hstall, hlist, hlog⟩ := delivered_trips (by exact hl)
      (SameLog.withLim s { s.lim with stallTimer := .stopped }) rfl rfl none ⟨.stall, .none⟩
      (BitVec.ofNat 32 (paceSpeed s).natAbs)
    exact ⟨_, exec_stallTimerExpiry ht, hstall, hlatch, hcmd, hrun, hlist, hlog.log, rfl, by simp, by simp, by simp,
      by simp, by simp⟩
  · rw [exec_setpointTimerExpiry ht, setpointTimerExpired hd]
    by_cases hlost : energised s = true ∧ riseBy s.lim.missCount 1 = d.spLossLimit
    · obtain ⟨he, hc⟩ := hlost
      have hmiss (v : DWord) : (deliverCause { own := none, inSetpoint := false } ⟨.supLost, .none⟩ v
          (supervisorLost d s)).lim.missCount = riseBy s.lim.missCount 1 := by simp [supervisorLost]
      have hactive (v : DWord) : (deliverCause { own := none, inSetpoint := false } ⟨.supLost, .none⟩ v
          (supervisorLost d s)).trip.active = addCondition ⟨.supLost, .none⟩ s.trip.active := by
        simp [supervisorLost]
      rw [if_pos ⟨he, hc⟩]
      refine ⟨_, rfl, hmiss _, by simp [supervisorLost], by simp [supervisorLost], ?_, fun _ _ => ?_⟩
      · rintro (h | h)
        · exact absurd he (by simp [h])
        · exact absurd hc (hmiss _ ▸ h)
      · rw [hmiss, hactive]
        refine ⟨by simp [supervisorLost], ?_, deliverCause_latch .., fun c hm => mem_addCondition _ hm, rfl,
          fun hl => ?_⟩
        · exact (mem_addCondition _ (by decide)).mpr (.inr rfl)
        · obtain ⟨hrun, -, -, -, hlist, hlog⟩ := delivered_trips (s := supervisorLost d s) (by exact hl)
            (a := raise .spMiss .none 0 (BitVec.ofNat 32 (riseBy s.lim.missCount 1)) (BitVec.ofInt 32 s.lim.tReq) s)
            (.of_blocks rfl rfl rfl rfl rfl rfl) rfl rfl none ⟨.supLost, .none⟩
            (BitVec.ofNat 32 (riseBy s.lim.missCount 1))
          exact ⟨hrun, hlog.log, hlist⟩
    · rw [if_neg hlost, countSetpointMiss_eq hd]
      exact ⟨_, rfl, rfl, rfl, rfl, fun _ => ⟨rfl, rfl⟩, fun he hc => absurd ⟨he, hc⟩ hlost⟩

end Sys2Proof.Machine

/-! O57: the expiry of a feedback timer, with the blocking command, FB_LOST and the evaluation point it brings. -/

namespace Sys2Proof.Machine

/-! ### Regulators and ports after a delivery (R3, R102, R103) -/

/-- A delivery blocks the ports where it latches out of an energised state, and leaves the regulators else. -/
theorem deliverCause_reg (d : Delivery) (c : CauseId) (v : DWord) (s : State) (m : Motor) :
    (deliverCause d c v s).reg m =
      if s.trip.latch = false ∧ energised s = true then (s.reg m).blocked (blocksNow d.own m (s.reg m))
      else s.reg m := by
  cases hl : s.trip.latch
  · simp [deliverCause_clear hl, latchTrip_reg]
  · rw [deliverCause_latched hl, if_neg (by simp)]
    exact State.reg_congr (by simp) (by simp) m

theorem deliverCause_link (d : Delivery) (c : CauseId) (v : DWord) (s : State) :
    (deliverCause d c v s).link =
      if s.trip.latch = false ∧ energised s = true then (blockBoth d.own s).link else s.link := by
  cases hl : s.trip.latch
  · simp [deliverCause_clear hl, latchTrip_link]
  · simp [deliverCause_latched hl]

/-- After a delivery the drive is TRIPPED where the latch was clear, and else where it was (R19, R103). -/
theorem deliverCause_run (d : Delivery) (c : CauseId) (v : DWord) (s : State) :
    (deliverCause d c v s).run = if s.trip.latch = false then s.run.tripped else s.run := by
  cases hl : s.trip.latch
  · simp [deliverCause_clear hl, latchTrip_run]
  · simp [deliverCause_latched hl]

/-- Outside OFF and READY an evaluation point does nothing (R5). -/
theorem evaluateReady_stays {s : State} (ho : s.run.state ≠ .off) (hr : s.run.state ≠ .ready) :
    evaluateReady s = s := by
  obtain ⟨hs, -, -⟩ | ⟨hs, -, -⟩ | ⟨-, -, he⟩ := evaluateReady_cases s
  · exact absurd hs ho
  · exact absurd hs hr
  · exact he

/-! ### The miss (R65) -/

/-- A regulator after a missed period: the count, the timer again, and where it blocks the cleared integrators and
voltages (R65). -/
def Regulator.missed (r : Regulator) (timer : Timer) (blocks : Bool) : Regulator :=
  let x := { r with missCount := riseBy r.missCount 1, fbTimer := timer }
  if blocks then { x with intD := 0, intQ := 0, vdLast := 0, vqLast := 0 } else x

@[simp] theorem Regulator.missed_kept (r : Regulator) (timer : Timer) (blocks : Bool) :
    (r.missed timer blocks).missCount = riseBy r.missCount 1 ∧ (r.missed timer blocks).fbTimer = timer
      ∧ (r.missed timer blocks).lastSeq = r.lastSeq ∧ (r.missed timer blocks).iqMeas = r.iqMeas
      ∧ (r.missed timer blocks).fbLost = r.fbLost := by
  cases blocks <;> simp [Regulator.missed]

theorem fbTimerStart_congr {s t : State} (h : s.tab = t.tab) : fbTimerStart s = fbTimerStart t := by
  simp only [fbTimerStart, activeDrive_congr h]

theorem State.setReg_reg (s : State) (m k : Motor) (r : Regulator) :
    (s.setReg m r).reg k = if k = m then r else s.reg k := by
  cases m <;> cases k <;> rfl

theorem raise_reg (k : EventKind) (o : Source) (f : Word) (a b : DWord) (s : State) (m : Motor) :
    (raise k o f a b s).reg m = s.reg m :=
  State.reg_congr (by simp) (by simp) m

theorem countFeedbackMiss_reg (m k : Motor) (s : State) :
    (countFeedbackMiss m s).reg k =
      if k = m then (s.reg m).missed (fbTimerStart s) (driven s m) else s.reg k := by
  have hf (x : State) (hx : x.tab = s.tab) : fbTimerStart x = fbTimerStart s := fbTimerStart_congr hx
  unfold countFeedbackMiss
  by_cases hk : k = m
  · subst hk
    cases hd : driven s k <;>
      simp [raise_reg, sendBlocking_reg, Regulator.missed, hf]
  · cases hd : driven s m <;> simp [State.setReg_reg, raise_reg, sendBlocking_reg, hk]

/-- One blocking command goes out where the motor is driven (R65). -/
theorem countFeedbackMiss_link (m : Motor) (s : State) :
    (countFeedbackMiss m s).link =
      if driven s m then s.link.sendVcmd m (blockingCommand (s.reg m)) else s.link := by
  unfold countFeedbackMiss
  cases hd : driven s m <;> simp [sendBlocking_link, raise_reg, blockingCommand]

@[simp] theorem countFeedbackMiss_pace (m : Motor) (s : State) :
    (countFeedbackMiss m s).link.paceCount = s.link.paceCount := by
  rw [countFeedbackMiss_link]
  split
  · rw [Link.sendVcmd_frame]
  · rfl

/-- FB_MISS is the one record of a miss (R65). -/
theorem countFeedbackMiss_log (m : Motor) (s : State) :
    (countFeedbackMiss m s).log =
      (raise .fbMiss (.motor m) (if driven s m then 1 else 0) (BitVec.ofNat 32 (riseBy (s.reg m).missCount 1))
        ((s.reg m).lastSeq.setWidth 32) s).log := by
  have hset (r : Regulator) : SameLog (s.setReg m r) s :=
    .of_blocks (by simp) (by simp) (by simp) (by simp) (by simp) (by simp)
  have hbit (x : Bool) : count16 (bit x 0) = if x then 1 else 0 := by cases x <;> rfl
  have hr (r : Regulator) := ((hset r).raise .fbMiss (.motor m) (if driven s m then 1 else 0)
    (BitVec.ofNat 32 (riseBy (s.reg m).missCount 1)) ((s.reg m).lastSeq.setWidth 32)).log
  unfold countFeedbackMiss
  cases hd : driven s m <;> simpa [hd, hbit, count32] using hr _

/-! ### FB_LOST (R66) -/

/-- The state in which FB_LOST is delivered: the miss taken, the condition active (R65, R66). -/
def feedbackLost (m : Motor) (s : State) : State := setFbLost m true (countFeedbackMiss m s)

@[simp] theorem feedbackLost_frame (m : Motor) (s : State) :
    (feedbackLost m s).run = s.run ∧ (feedbackLost m s).lim = s.lim ∧ (feedbackLost m s).vib = s.vib
      ∧ (feedbackLost m s).load = s.load ∧ (feedbackLost m s).recorder = s.recorder
      ∧ (feedbackLost m s).store = s.store ∧ (feedbackLost m s).tab = s.tab
      ∧ (feedbackLost m s).pending = s.pending ∧ (feedbackLost m s).link = (countFeedbackMiss m s).link
      ∧ (feedbackLost m s).log = (countFeedbackMiss m s).log := by
  simp [feedbackLost]

theorem feedbackLost_trip (m : Motor) (s : State) :
    (feedbackLost m s).trip =
      { s.trip with active := addCondition ⟨.fbLost, .motor m⟩ s.trip.active } := by
  simp [feedbackLost, setFbLost, setCondition]

theorem setCondition_reg (c : CauseId) (on : Bool) (s : State) (m : Motor) : (setCondition c on s).reg m = s.reg m :=
  State.reg_congr rfl rfl m

theorem feedbackLost_reg (m k : Motor) (s : State) :
    (feedbackLost m s).reg k =
      if k = m then { (s.reg m).missed (fbTimerStart s) (driven s m) with fbLost := true } else s.reg k := by
  by_cases hk : k = m
  · subst hk
    simp [feedbackLost, setFbLost, setCondition_reg, countFeedbackMiss_reg]
  · simp [feedbackLost, setFbLost, setCondition_reg, State.setReg_reg, countFeedbackMiss_reg, hk]

/-- A timer's expiry that finds it running (R65, R66, R5). -/
theorem exec_feedbackTimerExpiry {m : Motor} {s : State} {n : Nat} (h : (s.reg m).fbTimer = .running n) :
    exec (.feedbackTimerExpiry m) s = .next (if (motorSet s).has m
      then evaluateReady (checkFbLost m (countFeedbackMiss m s)) else checkFbLost m (countFeedbackMiss m s)) := by
  have hs : motorSet (checkFbLost m (countFeedbackMiss m s)) = motorSet s := motorSet_congr (by simp)
  change execFeedbackTimerExpiry m s = _
  simp only [execFeedbackTimerExpiry, h, hs]

theorem driven_countFeedbackMiss (m : Motor) (s : State) : driven (countFeedbackMiss m s) m = driven s m := by
  rw [driven, driven, energised_congr (t := s) (by simp), inDriveSet_congr (t := s) (by simp)]

theorem countFeedbackMiss_missCount (m : Motor) (s : State) :
    ((countFeedbackMiss m s).reg m).missCount = riseBy (s.reg m).missCount 1 := by
  simp [countFeedbackMiss_reg]

/-- The count decides whether FB_LOST is delivered (R66). -/
theorem checkFbLost_eq (m : Motor) (s : State) :
    checkFbLost m (countFeedbackMiss m s) =
      if driven s m = true ∧ riseBy (s.reg m).missCount 1 = (driveFieldsOf s).fbLossLimit then
        deliverCause (ownDelivery m) ⟨.fbLost, .motor m⟩ (BitVec.ofNat 32 (riseBy (s.reg m).missCount 1))
          (feedbackLost m s)
      else countFeedbackMiss m s := by
  have hdf : driveFieldsOf (countFeedbackMiss m s) = driveFieldsOf s := driveFieldsOf_congr (by simp)
  rw [checkFbLost, driven_countFeedbackMiss, countFeedbackMiss_missCount, hdf]
  rfl

/-- FB_LOST delivered is no evaluation point: the drive was energised, and stays or is TRIPPED (R5, R66). -/
theorem evaluateReady_feedbackLost {m : Motor} {s : State} (h : driven s m = true) (v : DWord) :
    evaluateReady (deliverCause (ownDelivery m) ⟨.fbLost, .motor m⟩ v (feedbackLost m s))
      = deliverCause (ownDelivery m) ⟨.fbLost, .motor m⟩ v (feedbackLost m s) := by
  have he : s.run.state.energised = true := by
    simp only [driven, Bool.and_eq_true] at h
    exact h.1
  have hne (d : DriveState) (hd : d.energised = false) (ht : d ≠ .tripped) :
      (deliverCause (ownDelivery m) ⟨.fbLost, .motor m⟩ v (feedbackLost m s)).run.state ≠ d := by
    rw [deliverCause_run]
    split
    · exact ht.symm
    · intro hs
      rw [← hs, feedbackLost_frame m s |>.1, he] at hd
      exact absurd hd (by decide)
  exact evaluateReady_stays (hne .off rfl (by decide)) (hne .ready rfl (by decide))

/-- An expiry at which the count comes to the limit, the motor driven (R66). -/
theorem feedbackTimer_lost {m : Motor} {s : State} {n : Nat} {d : DriveTable} (ht : (s.reg m).fbTimer = .running n)
    (hd : activeDrive s = some d) (h : driven s m = true) (hc : riseBy (s.reg m).missCount 1 = d.fbLossLimit) :
    exec (.feedbackTimerExpiry m) s = .next (deliverCause (ownDelivery m) ⟨.fbLost, .motor m⟩
      (BitVec.ofNat 32 (riseBy (s.reg m).missCount 1)) (feedbackLost m s)) := by
  rw [exec_feedbackTimerExpiry ht, checkFbLost_eq, driveFieldsOf_some hd,
    if_pos (c := driven s m = true ∧ _) ⟨h, hc⟩, evaluateReady_feedbackLost h, ite_self]

/-- Any other expiry: an evaluation point for a motor of the set (R5, R65). -/
theorem feedbackTimer_missed {m : Motor} {s : State} {n : Nat} {d : DriveTable} (ht : (s.reg m).fbTimer = .running n)
    (hd : activeDrive s = some d) (h : ¬(driven s m = true ∧ riseBy (s.reg m).missCount 1 = d.fbLossLimit)) :
    exec (.feedbackTimerExpiry m) s = .next (if d.motorSet.has m then evaluateReady (countFeedbackMiss m s)
      else countFeedbackMiss m s) := by
  rw [exec_feedbackTimerExpiry ht, checkFbLost_eq, driveFieldsOf_some hd, if_neg h, motorSet_some hd]

/-- A motor of the set with a miss counted fails the READY conditions (R4). -/
theorem readyConditions_missed {s : State} {m : Motor} (hm : (motorSet s).has m = true)
    (hc : (s.reg m).missCount ≠ 0) : readyConditions s = false := by
  have hr : (s.reg m).readyOk = false := by simp [Regulator.readyOk, hc]
  cases m <;> simp_all [readyConditions]

/-- The state after a miss that delivers nothing: the evaluation point takes READY to OFF for a motor of the set, and
moves no other state (R5, R65). -/
def missEvaluated (d : DriveTable) (m : Motor) (s : State) : State :=
  if s.run.state = .ready ∧ d.motorSet.has m = true then
    compute (changeDrive .off .conditions (countFeedbackMiss m s))
  else countFeedbackMiss m s

@[simp] theorem missEvaluated_frame (d : DriveTable) (m : Motor) (s : State) :
    (missEvaluated d m s).regA = (countFeedbackMiss m s).regA
      ∧ (missEvaluated d m s).regB = (countFeedbackMiss m s).regB ∧ (missEvaluated d m s).vib = s.vib
      ∧ (missEvaluated d m s).load = s.load ∧ (missEvaluated d m s).trip = s.trip
      ∧ (missEvaluated d m s).recorder = s.recorder ∧ (missEvaluated d m s).store = s.store
      ∧ (missEvaluated d m s).tab = s.tab ∧ (missEvaluated d m s).link = (countFeedbackMiss m s).link
      ∧ (missEvaluated d m s).pending = s.pending := by
  unfold missEvaluated
  split <;> simp

theorem missEvaluated_reg (d : DriveTable) (m k : Motor) (s : State) :
    (missEvaluated d m s).reg k = (countFeedbackMiss m s).reg k :=
  State.reg_congr (by simp) (by simp) k

theorem evaluateReady_missed {m : Motor} {s : State} {d : DriveTable} (hd : activeDrive s = some d) :
    (if d.motorSet.has m then evaluateReady (countFeedbackMiss m s) else countFeedbackMiss m s) =
      missEvaluated d m s := by
  unfold missEvaluated
  cases hm : d.motorSet.has m
  · simp
  · have hset : (motorSet (countFeedbackMiss m s)).has m = true := by
      rw [motorSet_some ((activeDrive_congr (by simp)).trans hd), hm]
    have hf : readyConditions (countFeedbackMiss m s) = false := by
      refine readyConditions_missed hset ?_
      rw [countFeedbackMiss_missCount, riseBy]
      omega
    obtain ⟨-, hc, -⟩ | ⟨hs, -, he⟩ | ⟨-, hn, he⟩ := evaluateReady_cases (countFeedbackMiss m s)
    · exact absurd (hc.symm.trans hf) (by decide)
    · rw [if_pos rfl, if_pos ⟨by simpa using hs, rfl⟩, he]
    · rw [if_pos rfl, if_neg (fun h => hn ⟨by simpa using h.1, hf⟩), he]

/-- What a delivery of FB_LOST leaves in its own regulator (R65, R66). -/
theorem feedbackLost_delivered_reg {m : Motor} {s : State} (h : driven s m = true) (v : DWord) :
    (deliverCause (ownDelivery m) ⟨.fbLost, .motor m⟩ v (feedbackLost m s)).reg m
      = { (s.reg m).missed (fbTimerStart s) true with fbLost := true } := by
  rw [deliverCause_reg, feedbackLost_reg, if_pos rfl, h]
  split <;> simp [Regulator.blocked, blocksNow, ownDelivery, Regulator.missed]

theorem LinkLaw.countFeedbackMiss {m : Motor} {s : State} (h : LinkLaw s.link) :
    LinkLaw (countFeedbackMiss m s).link := by
  rw [countFeedbackMiss_link]
  split
  · exact h.sendVcmd _ _
  · exact h

/-- The commands a miss sends (R65). -/
theorem countFeedbackMiss_vcmds {m : Motor} {s : State} (h : LinkLaw s.link) (hd : driven s m = true) (k : Motor) :
    (countFeedbackMiss m s).link.vcmds k =
      s.link.vcmds k ++ if k = m then [blockingCommand (s.reg m)] else [] := by
  rw [countFeedbackMiss_link, if_pos hd]
  exact Link.vcmds_sendVcmd _ _ _ _ h

/-- The commands on the ports after a delivery of FB_LOST: its own port has the one of the miss, the other blocks
where the latch was clear (R3, R66). -/
theorem feedbackLost_delivered_vcmds {m : Motor} {s : State} (h : LinkLaw s.link) (hd : driven s m = true)
    (v : DWord) (k : Motor) :
    (deliverCause (ownDelivery m) ⟨.fbLost, .motor m⟩ v (feedbackLost m s)).link.vcmds k =
      s.link.vcmds k ++
        if k = m then [blockingCommand (s.reg m)]
        else if s.trip.latch = false ∧ (s.reg k).seen = true then [blockingCommand (s.reg k)] else [] := by
  have hlink : LinkLaw (feedbackLost m s).link := by simpa using h.countFeedbackMiss
  have he : energised (feedbackLost m s) = true := by
    simp only [driven, Bool.and_eq_true] at hd
    simpa [energised] using hd.1
  have hb := blockBoth_vcmds (some m) (feedbackLost m s) hlink k
  have hu := countFeedbackMiss_vcmds h hd k
  rw [deliverCause_link, feedbackLost_trip]
  by_cases hk : k = m
  · subst hk
    cases hl : s.trip.latch <;> simp_all [blocksNow, ownDelivery]
  · have hr : (feedbackLost m s).reg k = s.reg k := by rw [feedbackLost_reg, if_neg hk]
    cases hl : s.trip.latch <;> simp_all [blocksNow, ownDelivery, Ne.symm hk]

theorem energised_feedbackLost {m : Motor} {s : State} (h : driven s m = true) :
    energised (feedbackLost m s) = true := by
  simp only [driven, Bool.and_eq_true] at h
  simpa [energised] using h.1

/-- Where FB_LOST latches, the other regulator clears its integrators (R3). -/
theorem feedbackLost_delivered_other {m k : Motor} {s : State} (h : driven s m = true) (hl : s.trip.latch = false)
    (v : DWord) :
    ((deliverCause (ownDelivery m) ⟨.fbLost, .motor m⟩ v (feedbackLost m s)).reg k).intD = 0
      ∧ ((deliverCause (ownDelivery m) ⟨.fbLost, .motor m⟩ v (feedbackLost m s)).reg k).intQ = 0 := by
  have hf : (feedbackLost m s).trip.latch = false := by rwa [feedbackLost_trip]
  rw [deliverCause_reg, if_pos ⟨hf, energised_feedbackLost h⟩]
  exact ⟨rfl, rfl⟩

/-- Settles O57: the miss, then FB_LOST or the evaluation point. -/
theorem feedbackTimerExpires : Obligations.FeedbackTimerExpires := by
  unfold Obligations.FeedbackTimerExpires
  intro m s n d hd hk ht driving count lost falls missed
  have hdrive : driven s m = driving := by rw [driven, inDriveSet_some hd]
  have hstart : fbTimerStart s = .running d.fbTimeout := by simp only [fbTimerStart, hd]
  have hlimit : (driveFieldsOf s).fbLossLimit = d.fbLossLimit := by rw [driveFieldsOf_some hd]
  have hmissed : (countFeedbackMiss m s).log = missed.log := by rw [countFeedbackMiss_log, hdrive]; rfl
  have hmem : (⟨.fbLost, .motor m⟩ : CauseId) ∈ conditionOrder := by cases m <;> decide
  by_cases hlost : lost
  · obtain ⟨hdriven, hcount⟩ := hlost
    have hsd : driven s m = true := hdrive.trans hdriven
    have hsent := feedbackLost_delivered_vcmds hk hsd (BitVec.ofNat 32 (riseBy (s.reg m).missCount 1))
    have hreg := feedbackLost_delivered_reg hsd (BitVec.ofNat 32 (riseBy (s.reg m).missCount 1))
    have hactive := (deliverCause_conditions (ownDelivery m) ⟨.fbLost, .motor m⟩
      (BitVec.ofNat 32 (riseBy (s.reg m).missCount 1)) (feedbackLost m s)).1
    rw [feedbackLost_trip] at hactive
    have hready : s.run.state ≠ .ready := by
      intro hs
      simp [driving, energised, hs, DriveState.energised] at hdriven
    refine ⟨_, feedbackTimer_lost ht hd hsd hcount, by rw [hreg]; rfl, by rw [hreg, hstart]; rfl, by rw [hreg]; rfl,
      by rw [hreg]; rfl,
      fun _ => ⟨by rw [hreg]; rfl, by rw [hreg]; rfl, by rw [hreg]; rfl, by rw [hreg]; rfl, ?_⟩,
      fun h => absurd hdriven (by simp [h]), fun _ => ⟨by rw [hreg], ?_, deliverCause_latch .., fun hl => ?_⟩,
      fun _ => ⟨feedbackLost m s, rfl, ?_, fun c hc => ?_, fun k => ?_, fun k => ?_, ?_, fun hl k hkm => ?_⟩,
      fun h => absurd ⟨hdriven, hcount⟩ h, fun h => absurd ⟨hdriven, hcount⟩ h, fun h => absurd h.1 hready,
      by simp, by simp, by simp, by simp, by simp⟩
    · simpa [blockingCommand] using hsent m
    · rw [hactive]
      exact (mem_addCondition _ hmem).mpr (.inr rfl)
    · obtain ⟨hrun, -, -, -, hlist, hlog⟩ := delivered_trips (s := feedbackLost m s) (a := missed)
        (by rwa [feedbackLost_trip])
        (.of_blocks (by simp [hmissed]) (by simp [missed]) (by simp [feedbackLost_trip, missed]) (by simp [missed])
          (by simp [missed]) (by simp [missed]))
        (by simp [missed]) (by simp [missed]) (some m) ⟨.fbLost, .motor m⟩
        (BitVec.ofNat 32 (riseBy (s.reg m).missCount 1))
      exact ⟨by simpa [RunController.tripped, ownDelivery] using hrun, hlist.trans (by simp [count, riseBy]),
        hlog.log⟩
    · apply State.ext_blocks <;> simp [feedbackLost_trip, hmissed]
    · rw [hactive]
      exact mem_addCondition _ hc
    · rw [feedbackLost_reg, hstart, hsd]
      rfl
    · simpa using countFeedbackMiss_vcmds hk hsd k
    · rw [feedbackLost_frame m s |>.2.2.2.2.2.2.2.2.1, countFeedbackMiss_link, if_pos hsd]
      exact Link.sendVcmd_frame _ _ _
    · exact ⟨by simpa [hkm, hl] using hsent k, feedbackLost_delivered_other hsd hl _⟩
  · have hreg := countFeedbackMiss_reg m m s
    rw [if_pos rfl, hstart, hdrive] at hreg
    have hother (k : Motor) (hk : k ≠ m) : (countFeedbackMiss m s).reg k = s.reg k := by
      rw [countFeedbackMiss_reg, if_neg hk]
    have hlink := countFeedbackMiss_link m s
    rw [hdrive] at hlink
    have hsent (h : driving = true) := countFeedbackMiss_vcmds (k := m) hk (hdrive.trans h)
    rw [feedbackTimer_missed ht hd (by rwa [hdrive]), evaluateReady_missed hd]
    refine ⟨_, rfl, by simp [missEvaluated_reg, hreg, riseBy, count], by simp [missEvaluated_reg, hreg],
      by simp [missEvaluated_reg, hreg], by simp [missEvaluated_reg, hreg], fun h => ?_,
      fun h => by simp [hlink, h], (absurd · hlost), (absurd · hlost),
      fun _ => ⟨by simp [missEvaluated_reg, hreg], fun k hkm => by simp [missEvaluated_reg, hother k hkm], ?_⟩,
      fun _ hf => ?_, fun hf => ?_, by simp, by simp, by simp, by simp, by simp⟩
    · refine ⟨?_, ?_, ?_, ?_, by simpa [blockingCommand] using hsent h⟩ <;>
        simp [missEvaluated_reg, hreg, h, Regulator.missed]
    · apply State.ext_blocks <;> simp
    · rw [missEvaluated, if_neg hf]
      exact ⟨by simp, by simp, hmissed⟩
    · have hlog : SameLog (countFeedbackMiss m s) missed :=
        .of_blocks (by simp [hmissed]) (by simp [missed]) (by simp [missed]) (by simp [missed]) (by simp [missed])
          (by simp [missed])
      have hoff : (changeDrive .off .conditions (countFeedbackMiss m s)).run.state.follows = false := by
        simp [DriveState.follows]
      rw [missEvaluated, if_pos hf]
      exact ⟨by simp [RunController.entering], compute_tCmd_still hoff, by simp [compute_lim_kept],
        ((sameLog_compute_still hoff).trans
          (hlog.changeDrive (old := .ready) (by simpa using hf.1) .off .conditions)).log⟩

end Sys2Proof.Machine

/-! O34: an accepted TABLE_COMMIT and what it brings to the owners of each table. -/

namespace Sys2Proof.Machine

/-! ### The commit taken (R169 to R171) -/

theorem bufferOfByte_number (n : Bool) : bufferOfByte (if n then 1 else 0) = some n := by cases n <;> rfl

theorem firstUnwritten_full {b : Staging} (h : ∀ i < b.length, Cells.read b.cells i ≠ none) :
    b.firstUnwritten = none :=
  List.find?_eq_none.mpr fun i hi => by simpa [← Option.isNone_iff_eq_none] using h i (List.mem_range.mp hi)

/-- A buffer that passes the checks is committed (R169, R170, R171). -/
theorem tableCommit_accepted {n : Bool} {b : Staging} {fields : List Int} {k : Nat} {s : State}
    (hb : s.tab.buffer n = some b) (hfull : ∀ i < b.length, Cells.read b.cells i ≠ none)
    (hlock : ¬(s.tab.locks[b.table.index] = true ∧ s.tab.lockLine = true))
    (hrun : ¬(b.table = .drive ∧ energised s = true)) (hv : validate b.table b.length b.image = .good fields k) :
    tableCommit [if n then 1 else 0] s =
      { state := acceptCommit n b fields k s
        answer := if k = 0 then .ok else .adjusted
        data := if k = 0 then [] else bytes16 (count16 k) } := by
  have hl : lockedNow s b.table = false := by simpa [lockedNow] using hlock
  simp only [tableCommit, fillingBuffer, bufferOfByte_number, hb, Option.map_some, commitBuffer,
    firstUnwritten_full hfull, hl, if_neg hrun, hv]
  rfl

theorem raiseTable_eq (t : TableId) (v : Word) (k : Nat) (s : State) :
    raiseTable t v k s =
      raise .table (.table t) (if 0 < k then 1 else 0) (v.setWidth 32) (BitVec.ofNat 32 k) s := by
  have hb : count16 (bit (decide (0 < k)) 0) = if 0 < k then 1 else 0 := by
    by_cases h : 0 < k <;> simp [h, bit, count16]
  rw [raiseTable, hb]
  rfl

theorem raise_ready (k : EventKind) (o : Source) (f : Word) (a b : DWord) (s : State) :
    readyConditions (raise k o f a b s) = readyConditions s := rfl

theorem evaluateReady_ready (s : State) : readyConditions (evaluateReady s) = readyConditions s :=
  readyConditions_congr (by simp) (by simp) fun m => congrArg _ (State.reg_congr (by simp) (by simp) m)

/-! ### A DRIVE commit (R21, R56, R182) -/

/-- A regulator whose motor the set leaves out (R56). -/
def Regulator.released (r : Regulator) : Regulator := { r with overtemp := false, modFault := false, fbLost := false }

theorem releaseMotor_reg (m k : Motor) (s : State) :
    (releaseMotor m s).reg k = if k = m ∧ inDriveSet s m = false then (s.reg m).released else s.reg k := by
  unfold releaseMotor
  by_cases hk : k = m
  · subst hk
    cases hd : inDriveSet s k <;>
      simp [setFbLost, setModFault, setOvertemp, setCondition_reg, Regulator.released]
  · cases hd : inDriveSet s m <;>
      simp [setFbLost, setModFault, setOvertemp, setCondition_reg, State.setReg_reg, hk]

theorem mem_removeCondition {c e : CauseId} (set : List CauseId) :
    e ∈ removeCondition c set ↔ e ∈ set ∧ e ≠ c := by
  simp [removeCondition]

/-- The conditions of one regulator. -/
def conditionsOf (m : Motor) (c : CauseId) : Prop :=
  c = ⟨.overtemp, .motor m⟩ ∨ c = ⟨.modFault, .motor m⟩ ∨ c = ⟨.fbLost, .motor m⟩

theorem releaseMotor_trip (m : Motor) (s : State) :
    (releaseMotor m s).trip = { s.trip with active := (releaseMotor m s).trip.active } := by
  unfold releaseMotor
  split
  · rfl
  · simp [setFbLost, setModFault, setOvertemp, setCondition]

theorem releaseMotor_active (m : Motor) (s : State) (c : CauseId) :
    c ∈ (releaseMotor m s).trip.active ↔ c ∈ s.trip.active ∧ ¬(inDriveSet s m = false ∧ conditionsOf m c) := by
  unfold releaseMotor
  cases hd : inDriveSet s m
  · simp only [Bool.false_eq_true, if_false, setFbLost, setModFault, setOvertemp, setCondition, State.setReg_frame,
      mem_removeCondition, conditionsOf]
    tauto
  · simp

/-- The state a DRIVE commit evaluates (R21, R56, R182). -/
def driveReleased (s : State) : State :=
  lowerAttempts (restartPattern (releaseMotor .B (releaseMotor .A s)))

theorem driveCommit_eq (s : State) : driveCommit s = evaluateReady (driveReleased s) := rfl

@[simp] theorem driveReleased_frame (s : State) :
    (driveReleased s).lim = s.lim ∧ (driveReleased s).vib = s.vib ∧ (driveReleased s).load = s.load
      ∧ (driveReleased s).recorder = s.recorder ∧ (driveReleased s).store = s.store
      ∧ (driveReleased s).log = s.log ∧ (driveReleased s).tab = s.tab ∧ (driveReleased s).pending = s.pending := by
  simp [driveReleased]

theorem driveReleased_run {s : State} {d : DriveTable} (hd : activeDrive s = some d) :
    (driveReleased s).run = { s.run with attempts := min s.run.attempts d.brkRetries } := by
  have hf (x : State) (hx : x.tab = s.tab) : driveFieldsOf x = d :=
    (driveFieldsOf_congr hx).trans (driveFieldsOf_some hd)
  simp [driveReleased, lowerAttempts, hf]

theorem driveReleased_link {s : State} {d : DriveTable} (hd : activeDrive s = some d) :
    (driveReleased s).link = { s.link with reportPhase := .pass, remaining := d.reportPass } := by
  have hp (x : State) (hx : x.tab = s.tab) : reportPattern x = (d.reportPass, d.reportMask) := by
    simp [reportPattern, (activeDrive_congr hx).trans hd]
  simp [driveReleased, restartPattern, hp]

theorem driveReleased_reg {s : State} {d : DriveTable} (hd : activeDrive s = some d) (m : Motor) :
    (driveReleased s).reg m = if d.motorSet.has m then s.reg m else (s.reg m).released := by
  have hk : (driveReleased s).reg m = (releaseMotor .B (releaseMotor .A s)).reg m :=
    State.reg_congr (by simp [driveReleased]) (by simp [driveReleased]) m
  have hs : inDriveSet (releaseMotor .A s) .B = inDriveSet s .B := inDriveSet_congr (by simp) _
  rw [hk, releaseMotor_reg, releaseMotor_reg, releaseMotor_reg, hs, inDriveSet_some hd, inDriveSet_some hd]
  cases m
  · cases d.motorSet.has .A <;> simp
  · cases d.motorSet.has .B <;> simp

theorem driveReleased_trip (s : State) :
    (driveReleased s).trip = { s.trip with active := (driveReleased s).trip.active } := by
  have hk : (driveReleased s).trip = (releaseMotor .B (releaseMotor .A s)).trip := by simp [driveReleased]
  rw [hk, releaseMotor_trip .B, releaseMotor_trip .A]

theorem driveReleased_active {s : State} {d : DriveTable} (hd : activeDrive s = some d) (c : CauseId) :
    c ∈ (driveReleased s).trip.active
      ↔ c ∈ s.trip.active ∧ ¬∃ m, d.motorSet.has m = false ∧ conditionsOf m c := by
  have hs : inDriveSet (releaseMotor .A s) .B = inDriveSet s .B := inDriveSet_congr (by simp) _
  have hk : (driveReleased s).trip = (releaseMotor .B (releaseMotor .A s)).trip := by simp [driveReleased]
  have hm : (∃ m, d.motorSet.has m = false ∧ conditionsOf m c)
      ↔ (d.motorSet.has .A = false ∧ conditionsOf .A c) ∨ (d.motorSet.has .B = false ∧ conditionsOf .B c) :=
    ⟨fun ⟨m, h⟩ => by cases m; exacts [.inl h, .inr h], fun h => h.elim (⟨_, ·⟩) (⟨_, ·⟩)⟩
  rw [hk, releaseMotor_active, releaseMotor_active, hs, inDriveSet_some hd, inDriveSet_some hd, hm]
  tauto

theorem sameLog_driveReleased {s : State} {d : DriveTable} (hd : activeDrive s = some d) :
    SameLog (driveReleased s) s :=
  .of_blocks (by simp) (by simp) (by rw [driveReleased_trip]) (by simp) (by simp) (by rw [driveReleased_link hd])

/-! ### An EVENT commit (R158 to R161) -/

/-- The log after an EVENT commit, by the mode before and the new one (R161). -/
def EventLog.committed (old : AlertMode) (t : EventTable) (inputs : Bool) (l : EventLog) : EventLog :=
  (({ l with counters := Vector.replicate 16 0 } : EventLog).changeMode old t.alertMode).judgeCommit old t inputs

theorem eventCommit_eq (old : AlertMode) (s : State) :
    eventCommit old s = { s with log := s.log.committed old (eventTable s) (alertInputs s) } := rfl

theorem EventLog.changeMode_frame (old new : AlertMode) (l : EventLog) :
    (l.changeMode old new).counters = l.counters ∧ (l.changeMode old new).ring = l.ring
      ∧ (l.changeMode old new).missed = l.missed ∧ (l.changeMode old new).eventMissed = l.eventMissed
      ∧ (l.changeMode old new).alertCond = l.alertCond := by
  cases old <;> cases new <;> simp [EventLog.changeMode]

theorem EventLog.judgeCommit_frame (old : AlertMode) (t : EventTable) (x : Bool) (l : EventLog) :
    (l.judgeCommit old t x).counters = l.counters ∧ (l.judgeCommit old t x).ring = l.ring
      ∧ (l.judgeCommit old t x).missed = l.missed ∧ (l.judgeCommit old t x).eventMissed = l.eventMissed
      ∧ (l.judgeCommit old t x).alertCond = l.condition t x := by
  unfold EventLog.judgeCommit
  split <;> simp

/-- Counters cleared, the ring and what it missed kept, the condition judged under the new table (R161). -/
theorem EventLog.committed_frame (old : AlertMode) (t : EventTable) (x : Bool) (l : EventLog) :
    (∀ i : Fin 16, (l.committed old t x).counters[i] = 0) ∧ (l.committed old t x).ring = l.ring
      ∧ (l.committed old t x).missed = l.missed ∧ (l.committed old t x).eventMissed = l.eventMissed
      ∧ (l.committed old t x).alertCond = (x || decide (t.fillThreshold ≤ l.ring.length)) := by
  simp [EventLog.committed, EventLog.judgeCommit_frame, EventLog.changeMode_frame, EventLog.condition]

/-- The line and the pulse timer after an EVENT commit (R159 to R161). -/
theorem EventLog.committed_line (old : AlertMode) (t : EventTable) (x : Bool) (l : EventLog) :
    let holds := x || decide (t.fillThreshold ≤ l.ring.length)
    (t.alertMode = .level → (l.committed old t x).alertLine = holds
        ∧ (l.committed old t x).pulseTimer = if old = .pulse then .stopped else l.pulseTimer)
      ∧ (t.alertMode = .pulse → old = .level → (l.committed old t x).alertLine = false
        ∧ (l.committed old t x).pulseTimer = .stopped)
      ∧ (t.alertMode = .pulse → old = .pulse →
          if holds = true ∧ l.alertCond = false then
            (l.committed old t x).alertLine = true ∧ (l.committed old t x).pulseTimer = .running t.pulseWidth
          else (l.committed old t x).alertLine = l.alertLine
            ∧ (l.committed old t x).pulseTimer = l.pulseTimer) := by
  refine ⟨fun hm => ?_, fun hm ho => ?_, fun hm ho => ?_⟩
  · cases old <;>
      simp [EventLog.committed, EventLog.changeMode, EventLog.judgeCommit, EventLog.judge, EventLog.condition, hm]
  · simp [EventLog.committed, EventLog.changeMode, EventLog.judgeCommit, hm, ho]
  · simp only [EventLog.committed, EventLog.changeMode, EventLog.judgeCommit, EventLog.judge, EventLog.condition,
      hm, ho]
    cases x || decide (t.fillThreshold ≤ l.ring.length) <;> cases l.alertCond <;> simp

/-! ### The owners (R171) -/

theorem vibCommit_tReq (s : State) : (vibCommit s).lim.tReq = s.lim.tReq := by
  simp [vibCommit, deliverVibDerate, allChannels]

/-- What every owner keeps of the trip, the request and the measurements. -/
theorem informOwners_kept {t : TableId} {s : State} (hd : t = .drive → ∃ d, activeDrive s = some d)
    (old : AlertMode) :
    (informOwners t old s).trip.latch = s.trip.latch ∧ (informOwners t old s).trip.list = s.trip.list
      ∧ (informOwners t old s).lim.tReq = s.lim.tReq
      ∧ (informOwners t old s).regA.iqMeas = s.regA.iqMeas ∧ (informOwners t old s).regB.iqMeas = s.regB.iqMeas := by
  cases t with
  | gain => simp [informOwners, evaluateReady_lim_kept]
  | limit => simp [informOwners, evaluateReady_lim_kept]
  | vib =>
    have h := (sameDrive_vibCommit s).toSameRun
    exact ⟨by simp [informOwners, h.latch], by simp [informOwners, h.list], by simp [informOwners, vibCommit_tReq],
      by simp [informOwners], by simp [informOwners]⟩
  | event => simp [informOwners]
  | drive =>
    obtain ⟨d, hd⟩ := hd rfl
    have hreg (m : Motor) : ((driveReleased s).reg m).iqMeas = (s.reg m).iqMeas := by
      rw [driveReleased_reg hd]
      split <;> rfl
    have hA := hreg .A
    have hB := hreg .B
    simp only [State.reg_A, State.reg_B] at hA hB
    have ht : (informOwners .drive old s).trip = (driveReleased s).trip := by simp [informOwners, driveCommit_eq]
    exact ⟨by rw [ht, driveReleased_trip], by rw [ht, driveReleased_trip],
      by simp [informOwners, driveCommit_eq, evaluateReady_lim_kept], by simp [informOwners, driveCommit_eq, hA],
      by simp [informOwners, driveCommit_eq, hB]⟩

/-- Only a DRIVE commit reaches the regulators. -/
theorem informOwners_regs {t : TableId} (ht : t ≠ .drive) (old : AlertMode) (s : State) :
    (informOwners t old s).regA = s.regA ∧ (informOwners t old s).regB = s.regB := by
  cases t <;> first | exact absurd rfl ht | simp [informOwners]

/-- Only a VIB commit reaches the channels, the load profile and the derate. -/
theorem informOwners_vib {t : TableId} (ht : t ≠ .vib) (old : AlertMode) (s : State) :
    (informOwners t old s).vib = s.vib ∧ (informOwners t old s).load = s.load
      ∧ (informOwners t old s).lim.stack.vibDerate = s.lim.stack.vibDerate := by
  cases t <;> first | exact absurd rfl ht | simp [informOwners, driveCommit_eq, evaluateReady_lim_kept]

/-- A VIB or EVENT commit is no evaluation point. -/
theorem informOwners_run {t : TableId} (ht : t = .vib ∨ t = .event) (old : AlertMode) (s : State) :
    (informOwners t old s).run = s.run := by
  obtain rfl | rfl := ht <;> simp [informOwners]

/-- The evaluation point of a GAIN, LIMIT or DRIVE commit leaves its record alone (R5, R21). -/
theorem sameLog_informOwners {t : TableId} {s : State} (ht : t = .gain ∨ t = .limit ∨ t = .drive)
    (hd : t = .drive → ∃ d, activeDrive s = some d) (old : AlertMode) :
    SameLog (informOwners t old s) (conditionsRecord (readyConditions (informOwners t old s)) s) := by
  have he (x : State) : SameLog (evaluateReady x) (conditionsRecord (readyConditions (evaluateReady x)) x) := by
    rw [evaluateReady_ready]
    exact sameLog_evaluateReady x
  obtain rfl | rfl | rfl := ht
  · exact he s
  · exact he s
  · obtain ⟨d, hd⟩ := hd rfl
    exact (he (driveReleased s)).trans ((sameLog_driveReleased hd).conditionsRecord (by rw [driveReleased_run hd]) _)

/-- What the run controller does at the evaluation point of a commit, by the conditions after it (R5, R10). -/
theorem evaluateReady_run_after (s : State) :
    (evaluateReady s).run =
      if s.run.state = .off ∧ readyConditions (evaluateReady s) = true then
        { s.run with state := .ready, runEdge := false, attempts := 0 }
      else if s.run.state = .ready ∧ readyConditions (evaluateReady s) = false then
        { s.run with state := .off, attempts := 0 }
      else s.run := by
  rw [evaluateReady_ready]
  exact evaluateReady_run s

/-- A DRIVE commit, block by block (R21, R56, R182). -/
theorem driveCommit_leaves {s : State} {d : DriveTable} (hd : activeDrive s = some d) :
    let t := driveCommit s
    t.link = { s.link with reportPhase := .pass, remaining := d.reportPass }
      ∧ (∀ m, t.reg m = if d.motorSet.has m then s.reg m else (s.reg m).released)
      ∧ (∀ c, c ∈ t.trip.active ↔ c ∈ s.trip.active ∧ ¬∃ m, d.motorSet.has m = false ∧ conditionsOf m c)
      ∧ t.run =
        if s.run.state = .off ∧ readyConditions t = true then
          { s.run with state := .ready, runEdge := false, attempts := 0 }
        else if s.run.state = .ready ∧ readyConditions t = false then { s.run with state := .off, attempts := 0 }
        else { s.run with attempts := min s.run.attempts d.brkRetries } := by
  dsimp only
  have hreg (m : Motor) : (driveCommit s).reg m = (driveReleased s).reg m :=
    State.reg_congr (by simp [driveCommit_eq]) (by simp [driveCommit_eq]) m
  have htrip : (driveCommit s).trip = (driveReleased s).trip := by simp [driveCommit_eq]
  refine ⟨?_, fun m => (hreg m).trans (driveReleased_reg hd m), fun c => htrip ▸ driveReleased_active hd c, ?_⟩
  · rw [← driveReleased_link hd]
    simp [driveCommit_eq]
  · have h := evaluateReady_run_after (driveReleased s)
    rw [← driveCommit_eq, driveReleased_run hd] at h
    exact h

/-- The state in which the owners of a table are told of its commit (R171, step 3). -/
def imageActive (r : Request) (n : Bool) (b : Staging) (fields : List Int) (s : State) : State :=
  { requestTaken r s with tab := (s.tab.activate b.table b.version fields).setBuffer n none }

@[simp] theorem imageActive_frame (r : Request) (n : Bool) (b : Staging) (fields : List Int) (s : State) :
    (imageActive r n b fields s).run = s.run ∧ (imageActive r n b fields s).lim = s.lim
      ∧ (imageActive r n b fields s).regA = s.regA ∧ (imageActive r n b fields s).regB = s.regB
      ∧ (imageActive r n b fields s).vib = s.vib ∧ (imageActive r n b fields s).load = s.load
      ∧ (imageActive r n b fields s).trip = s.trip ∧ (imageActive r n b fields s).recorder = s.recorder
      ∧ (imageActive r n b fields s).store = s.store ∧ (imageActive r n b fields s).pending = s.pending
      ∧ (imageActive r n b fields s).tab = (s.tab.activate b.table b.version fields).setBuffer n none := by
  simp [imageActive]

theorem imageActive_drive {b : Staging} (hb : b.table = .drive) (r : Request) (n : Bool) (fields : List Int)
    (s : State) : activeDrive (imageActive r n b fields s) = some (DriveTable.ofFields fields) := by
  simp [activeDrive, hb, TableManager.activate]

theorem imageActive_event {b : Staging} (hb : b.table = .event) (r : Request) (n : Bool) (fields : List Int)
    (s : State) : eventTable (imageActive r n b fields s) = EventTable.ofFields fields := by
  simp [eventTable, hb, TableManager.activate]

/-- An answer placed keeps the report pattern. -/
theorem Link.placeAnswer_pattern (l : Link) (a : Answer) :
    (l.placeAnswer a).reportPhase = l.reportPhase ∧ (l.placeAnswer a).remaining = l.remaining := by
  unfold Link.placeAnswer
  split <;> simp

/-- Settles O34, owner by owner. -/
theorem tableCommitReplacesTheImage : Obligations.TableCommitReplacesTheImage := by
  unfold Obligations.TableCommitReplacesTheImage
  intro r s n b fields k hs hr hb hfull hlock hrun hv image reported
  let old := (eventTable s).alertMode
  let x := informOwners b.table old image
  have hreported (x : State) : raiseTable b.table b.version k x = reported x := raiseTable_eq _ _ _ _
  have hexec : exec (.tableCommit r) s = .next (answerPlaced 6 r (if k = 0 then .ok else .adjusted)
      (if k = 0 then [] else bytes16 (BitVec.ofNat 16 k)) (reported x)) := by
    have howner := tableCommit_accepted (s := requestTaken r s) (by simpa using hb) hfull (by simpa using hlock)
      (by simpa [energised] using hrun) hv
    have haccept : acceptCommit n b fields k (requestTaken r s) = reported x := by
      simp [acceptCommit, hreported, x, image, old, eventTable]
    change Host.Outcome.next (serve 6 r (tableCommit r.args) s) = _
    rw [serve_reply 6 r _ hs, hr, howner, haccept]
    rfl
  have hdrive : b.table = .drive → ∃ d, activeDrive image = some d := fun h => ⟨_, imageActive_drive h r n fields s⟩
  obtain ⟨hlatch, hlist, htReq, hiqA, hiqB⟩ := informOwners_kept hdrive old
  refine ⟨_, hexec, rfl, fun ht => ?_, ?_, ?_, fun ht => ?_, fun ht => ?_, fun ht => ?_, ?_, ?_, ?_, ?_, ?_, ?_, ?_, ?_,
    fun ht => ?_, fun ht => ?_, fun ht => ?_⟩
  · exact ((sameLog_informOwners ht hdrive old).raise _ _ _ _ _).log
  · simp [reported, x, image]
  · simp [Link.placeAnswer_slot]
  · simpa [reported, x, image] using informOwners_regs ht old image
  · simpa [reported, x, image] using informOwners_vib ht old image
  · simpa [reported, x, image] using informOwners_run ht old image
  · simpa [reported, x, image] using hiqA
  · simpa [reported, x, image] using hiqB
  · simpa [reported, x, image] using htReq
  · simpa [reported, x, image] using hlatch
  · simpa [reported, x, image] using hlist
  · simp [reported, x, image]
  · simp [reported, x, image]
  · simp [reported, x, image]
  · have hx : x = evaluateReady image := by
      obtain h | h := ht <;> simp only [x, h] <;> rfl
    have hmove := evaluateReady_run_after image
    rw [← hx] at hmove
    simpa [reported, image, raise_ready] using hmove
  · intro d released
    have hx : x = driveCommit image := by simp only [x, ht]; rfl
    obtain ⟨hlink, hreg, hactive, hmove⟩ := driveCommit_leaves (s := image) (imageActive_drive ht r n fields s)
    rw [← hx] at hlink hreg hactive hmove
    refine ⟨?_, ?_, fun m => ?_, fun c => ?_, ?_⟩
    · simp [reported, Link.placeAnswer_pattern, hlink]
    · simp [reported, Link.placeAnswer_pattern, hlink, d]
    · have hm : (answerPlaced 6 r (if k = 0 then .ok else .adjusted)
          (if k = 0 then [] else bytes16 (BitVec.ofNat 16 k)) (reported x)).reg m = x.reg m :=
        State.reg_congr (by simp [reported]) (by simp [reported]) m
      have hi : image.reg m = s.reg m := State.reg_congr (by simp [image]) (by simp [image]) m
      rw [hm, hreg, hi]
      rfl
    · simpa [reported, image, conditionsOf, released, d] using hactive c
    · simpa [reported, image, raise_ready] using hmove
  · intro e u was holds
    have hx : x = eventCommit old image := by simp only [x, ht]; rfl
    have hevent : eventTable image = e := imageActive_event ht r n fields s
    have hinputs : alertInputs image = alertInputs s := by simp [alertInputs, image]
    rw [eventCommit_eq, hevent, hinputs] at hx
    obtain ⟨hcounters, hring, hmissed, hflag, hcond⟩ := EventLog.committed_frame old e (alertInputs s) u.log
    obtain ⟨hlevel, hpulse, hrise⟩ := EventLog.committed_line old e (alertInputs s) u.log
    refine ⟨u.log.committed old e (alertInputs s), ?_, hcounters, hring, hmissed, hflag, hcond, hlevel, hpulse, hrise⟩
    simp only [reported, hx, ht]
    rfl

end Sys2Proof.Machine

/-! What a FEEDBACK arrival keeps from its intake to its end, step by step (R51, R52): the measurements, what the
torque limiter holds of other blocks, the latch, the pace count. -/

namespace Sys2Proof.Machine

/-! ### What stands of an arrival -/

/-- A regulator without what its answer and a blocking command write: the measurements, the counts, the timer and the
conditions (R50). -/
def Regulator.core (r : Regulator) : Regulator := { r with intD := 0, intQ := 0, band := 0, vdLast := 0, vqLast := 0 }

@[simp] theorem Regulator.core_blocked (r : Regulator) (x : Bool) : (r.blocked x).core = r.core := rfl

/-- What the steps behind the causes of an arrival keep (R52). -/
structure ArrivalKeeps (s t : State) : Prop where
  core : ∀ m, (t.reg m).core = (s.reg m).core
  tReq : t.lim.tReq = s.lim.tReq
  supTime : t.lim.supTime = s.lim.supTime
  missCount : t.lim.missCount = s.lim.missCount
  spTimer : t.lim.spTimer = s.lim.spTimer
  vibDerate : t.lim.stack.vibDerate = s.lim.stack.vibDerate
  thermA : t.lim.stack.thermA = s.lim.stack.thermA
  thermB : t.lim.stack.thermB = s.lim.stack.thermB
  latch : s.trip.latch = true → t.trip.latch = true
  pace : t.link.paceCount = s.link.paceCount
  slot : t.link.slot = s.link.slot
  vib : t.vib = s.vib
  tab : t.tab = s.tab
  pending : t.pending = s.pending

namespace ArrivalKeeps

variable {s t u : State}

theorem refl (s : State) : ArrivalKeeps s s :=
  ⟨fun _ => rfl, rfl, rfl, rfl, rfl, rfl, rfl, rfl, id, rfl, rfl, rfl, rfl, rfl⟩

theorem trans (h : ArrivalKeeps s t) (k : ArrivalKeeps t u) : ArrivalKeeps s u where
  core m := (k.core m).trans (h.core m)
  tReq := k.tReq.trans h.tReq
  supTime := k.supTime.trans h.supTime
  missCount := k.missCount.trans h.missCount
  spTimer := k.spTimer.trans h.spTimer
  vibDerate := k.vibDerate.trans h.vibDerate
  thermA := k.thermA.trans h.thermA
  thermB := k.thermB.trans h.thermB
  latch hs := k.latch (h.latch hs)
  pace := k.pace.trans h.pace
  slot := k.slot.trans h.slot
  vib := k.vib.trans h.vib
  tab := k.tab.trans h.tab
  pending := k.pending.trans h.pending

/-- Two arrivals' ends read the same READY conditions where their latches agree (R4). -/
theorem ready (h : ArrivalKeeps s t) (hl : t.trip.latch = s.trip.latch) : readyConditions t = readyConditions s :=
  readyConditions_congr h.tab hl fun m =>
    show (t.reg m).core.readyOk = (s.reg m).core.readyOk by rw [h.core m]

end ArrivalKeeps

theorem Link.sendVcmd_kept (l : Link) (m : Motor) (v : Vcmd) :
    (l.sendVcmd m v).paceCount = l.paceCount ∧ (l.sendVcmd m v).slot = l.slot := by
  rw [Link.sendVcmd_frame]
  exact ⟨rfl, rfl⟩

theorem blockBoth_slot (own : Option Motor) (s : State) : (blockBoth own s).link.slot = s.link.slot := by
  rw [blockBoth_link_frame]

theorem arrivalKeeps_compute (s : State) : ArrivalKeeps s (compute s) := by
  obtain ⟨hq, hs, -, -, hm, ht, -, hv, hA, hB⟩ := compute_lim_kept s
  have hc (m : Motor) : (compute s).reg m = s.reg m := State.reg_congr (by simp) (by simp) m
  exact ⟨fun m => by rw [hc], hq, hs, hm, ht, hv, hA, hB, by simp, by simp, by simp, by simp, by simp, by simp⟩

theorem arrivalKeeps_changeDrive (d : DriveState) (x : DriveReason) (s : State) :
    ArrivalKeeps s (changeDrive d x s) := by
  have hc (m : Motor) : (changeDrive d x s).reg m = s.reg m := State.reg_congr (by simp) (by simp) m
  refine ⟨fun m => by rw [hc], ?_, ?_, ?_, ?_, ?_, ?_, ?_, ?_, ?_, ?_, ?_, ?_, ?_⟩ <;> simp

theorem arrivalKeeps_withRun (s : State) (r : RunController) : ArrivalKeeps s { s with run := r } :=
  ⟨fun m => by cases m <;> rfl, rfl, rfl, rfl, rfl, rfl, rfl, rfl, id, rfl, rfl, rfl, rfl, rfl⟩

theorem arrivalKeeps_blockBoth (own : Option Motor) (s : State) : ArrivalKeeps s (blockBoth own s) := by
  refine ⟨fun m => by rw [blockBoth_reg, Regulator.core_blocked], ?_, ?_, ?_, ?_, ?_, ?_, ?_, ?_, ?_, ?_, ?_, ?_, ?_⟩
  all_goals simp [blockBoth_slot]

theorem arrivalKeeps_raise (k : EventKind) (o : Source) (f : Word) (a b : DWord) (s : State) :
    ArrivalKeeps s (raise k o f a b s) :=
  ⟨fun m => by cases m <;> rfl, rfl, rfl, rfl, rfl, rfl, rfl, rfl, id, rfl, rfl, rfl, rfl, rfl⟩

theorem arrivalKeeps_evaluateReady (s : State) : ArrivalKeeps s (evaluateReady s) := by
  obtain ⟨-, -, he⟩ | ⟨-, -, he⟩ | ⟨-, -, he⟩ := evaluateReady_cases s <;> rw [he]
  · exact (arrivalKeeps_changeDrive _ _ s).trans (arrivalKeeps_compute _)
  · exact (arrivalKeeps_changeDrive _ _ s).trans (arrivalKeeps_compute _)
  · exact .refl s

theorem arrivalKeeps_speedReached (s : State) : ArrivalKeeps s (speedReached s) :=
  (((arrivalKeeps_withRun s _).trans (arrivalKeeps_changeDrive _ _ _)).trans
    (arrivalKeeps_raise _ _ _ _ _ _)).trans (arrivalKeeps_compute _)

theorem arrivalKeeps_endStop (own : Option Motor) (x : DriveReason) (s : State) : ArrivalKeeps s (endStop own x s) :=
  (((arrivalKeeps_withRun s _).trans (arrivalKeeps_changeDrive _ x _)).trans
    (arrivalKeeps_blockBoth own _)).trans (arrivalKeeps_compute _)

theorem arrivalKeeps_runAtArrival (m : Motor) (s : State) : ArrivalKeeps s (runAtArrival m s) := by
  unfold runAtArrival
  (repeat' split)
  · exact arrivalKeeps_evaluateReady s
  · exact .refl s
  · exact arrivalKeeps_evaluateReady s
  · exact .refl s
  · exact arrivalKeeps_speedReached s
  · exact .refl s
  · exact arrivalKeeps_endStop _ _ s
  all_goals exact .refl s

theorem arrivalKeeps_deliverCause (d : Delivery) (c : CauseId) (v : DWord) (s : State) :
    ArrivalKeeps s (deliverCause d c v s) := by
  have hcore (m : Motor) : ((deliverCause d c v s).reg m).core = (s.reg m).core := by
    rw [deliverCause_reg]
    split <;> rfl
  have hlink : (deliverCause d c v s).link.paceCount = s.link.paceCount
      ∧ (deliverCause d c v s).link.slot = s.link.slot := by
    rw [deliverCause_link]
    split <;> simp [blockBoth_slot]
  refine ⟨hcore, ?_, ?_, ?_, ?_, ?_, ?_, ?_, fun _ => deliverCause_latch _ _ _ _, hlink.1, hlink.2, ?_, ?_, ?_⟩ <;> simp

theorem arrivalKeeps_torqueFormed (n : Nat) (s : State) : ArrivalKeeps s (torqueFormed n s) :=
  ⟨fun m => by cases m <;> rfl, rfl, rfl, rfl, rfl, rfl, rfl, rfl, id, rfl, rfl, rfl, rfl, rfl⟩

theorem arrivalKeeps_torqueAtArrival (m : Motor) (s : State) : ArrivalKeeps s (torqueAtArrival m s) := by
  obtain ⟨n, ht | ht⟩ := torqueAtArrival_cases m s <;> rw [ht]
  · exact arrivalKeeps_torqueFormed n s
  · exact (arrivalKeeps_torqueFormed n s).trans (arrivalKeeps_deliverCause _ _ _ _)

theorem arrivalKeeps_sendBlocking (m : Motor) (s : State) : ArrivalKeeps s (sendBlocking m s) := by
  have hcore (k : Motor) : ((sendBlocking m s).reg k).core = (s.reg k).core := by
    rw [sendBlocking_reg]
    split
    · next h => rw [h]; rfl
    · rfl
  refine ⟨hcore, ?_, ?_, ?_, ?_, ?_, ?_, ?_, ?_, ?_, ?_, ?_, ?_, ?_⟩ <;> simp [sendBlocking_link, Link.sendVcmd_kept]

theorem arrivalKeeps_answerWorking (m : Motor) (s : State) : ArrivalKeeps s (answerWorking m s) := by
  have hcore (k : Motor) : ((answerWorking m s).reg k).core = (s.reg k).core := by
    cases m <;> cases k <;> simp [answerWorking, sendVcmd, Regulator.core]
  refine ⟨hcore, ?_, ?_, ?_, ?_, ?_, ?_, ?_, ?_, ?_, ?_, ?_, ?_, ?_⟩ <;>
    simp [answerWorking, sendVcmd, Link.sendVcmd_kept]

theorem arrivalKeeps_answerFrame (m : Motor) (s : State) : ArrivalKeeps s (answerFrame m s) := by
  unfold answerFrame
  split
  · exact arrivalKeeps_answerWorking m s
  · exact arrivalKeeps_sendBlocking m s

/-! ### The pace work (R52, step 5) -/

/-- What the report of a pace arrival keeps of the link (R182). -/
theorem reportAtArrival_kept (s : State) :
    (reportAtArrival s).link.paceCount = s.link.paceCount ∧ (reportAtArrival s).link.slot = s.link.slot
      ∧ ∀ m, (reportAtArrival s).link.vcmds m = s.link.vcmds m := by
  have hpattern (l : Link) (a b : Nat) : (l.advancePattern a b).paceCount = l.paceCount
      ∧ (l.advancePattern a b).slot = l.slot ∧ ∀ m, (l.advancePattern a b).vcmds m = l.vcmds m := by
    unfold Link.advancePattern
    (repeat' split) <;> simp [Link.vcmds]
  have hsend : (sendReport s).link.paceCount = s.link.paceCount ∧ (sendReport s).link.slot = s.link.slot
      ∧ ∀ m, (sendReport s).link.vcmds m = s.link.vcmds m := by
    unfold sendReport
    split <;> simp_all [Link.vcmds]
  unfold reportAtArrival
  dsimp only
  split <;> simp [hpattern, hsend]

theorem paceWork_link_kept (formed : Bool) (s : State) :
    (paceWork formed s).link.paceCount = s.link.paceCount ∧ (paceWork formed s).link.slot = s.link.slot
      ∧ ∀ m, (paceWork formed s).link.vcmds m = s.link.vcmds m := by
  have h := reportAtArrival_kept (takeSnapshot (if formed then gatherTorque s else s))
  have hl : (takeSnapshot (if formed then gatherTorque s else s)).link = s.link := by
    cases formed <;> simp
  rwa [hl] at h

theorem paceWork_reg (formed : Bool) (s : State) (m : Motor) : (paceWork formed s).reg m = s.reg m :=
  State.reg_congr (by simp) (by simp) m

theorem arrivalKeeps_paceWork (formed : Bool) (s : State) : ArrivalKeeps s (paceWork formed s) := by
  obtain ⟨hp, hs, -⟩ := paceWork_link_kept formed s
  refine ⟨fun m => by rw [paceWork_reg], ?_, ?_, ?_, ?_, ?_, ?_, ?_, ?_, hp, hs, ?_, ?_, ?_⟩ <;> simp

/-- An offer taken or waiting leaves the trigger copy (R133). -/
theorem takeOffer_trigger (s : State) : (takeOffer s).recorder.trigger = s.recorder.trigger := by
  unfold takeOffer
  (repeat' split) <;> simp [missNew, missRetry, acceptNew, recorderDone, Recorder.numbered]

/-- A snapshot, and the freeze it may bring, leave the trigger copy (R115, R117). -/
theorem takeSnapshot_trigger (s : State) : (takeSnapshot s).recorder.trigger = s.recorder.trigger := by
  have hfreeze (x : State) : (freeze .target x).recorder.trigger = x.recorder.trigger := by
    unfold freeze offerRecord
    dsimp only
    split <;> simp [takeOffer_trigger]
  unfold takeSnapshot
  dsimp only
  split
  · rfl
  · split
    · exact hfreeze _
    · rfl
  all_goals rfl

theorem paceWork_trigger (formed : Bool) (s : State) :
    (paceWork formed s).recorder.trigger = s.recorder.trigger := by
  have h := takeSnapshot_trigger (if formed then gatherTorque s else s)
  have hr : (paceWork formed s).recorder = (takeSnapshot (if formed then gatherTorque s else s)).recorder := by
    simp [paceWork]
  rw [hr, h]
  cases formed <;> simp

end Sys2Proof.Machine

/-! The intake of a FEEDBACK arrival and the causes it delivers (R51 to R56): the conditions it leaves, the trip and
the records, and the two ways it can end, with a latch and without. -/

namespace Sys2Proof.Machine

/-! ### Acceptance and intake (R51, R53, R179, R181) -/

/-- The pace count rises before the sequence is judged (R181). -/
theorem acceptFeedback_eq (m : Motor) (q : Seq) (s : State) :
    acceptFeedback m q s = acceptFrame (portOf m) 0 q { s with link := { s.link with
      paceCount := if m = paceMotor s then s.link.paceCount + 1 else s.link.paceCount } } := by
  by_cases h : m = paceMotor s <;> simp [acceptFeedback, isPace, h]

theorem acceptFeedback_link (m : Motor) (q : Seq) (s : State) :
    (acceptFeedback m q s).link.paceCount = (if m = paceMotor s then s.link.paceCount + 1 else s.link.paceCount)
      ∧ (acceptFeedback m q s).link.slot = s.link.slot
      ∧ ∀ k, (acceptFeedback m q s).link.vcmds k = s.link.vcmds k := by
  rw [acceptFeedback_eq]
  refine ⟨by simp, by simp, fun k => ?_⟩
  cases k <;> simp [Link.vcmds]

theorem LinkLaw.acceptFeedback {s : State} (h : LinkLaw s.link) (m : Motor) (q : Seq) :
    LinkLaw (acceptFeedback m q s).link := by
  rw [acceptFeedback_eq]
  exact LinkLaw.acceptFrame (s := { s with link := { s.link with
      paceCount := if m = paceMotor s then s.link.paceCount + 1 else s.link.paceCount } })
    ⟨h.sending, h.waiting, h.m0, h.m1, h.errors, h.gaps, h.skipped⟩ _ _ _

theorem deliverTherm_reg (m k : Motor) (x : Int) (s : State) : (deliverTherm m x s).reg k = s.reg k :=
  State.reg_congr (by simp) (by simp) k

/-- The intake writes the motor's own regulator (R51). -/
theorem intake_reg (m k : Motor) (f : FeedbackFrame) (s : State) :
    (intake m f s).reg k =
      if k = m then (s.reg m).takeIn f (fbTimerStart s) (thermOf s (clamp (-40) 150 f.temp.toInt)) else s.reg k := by
  simp [intake, deliverTherm_reg, setCondition_reg, State.setReg_reg]

/-- The derate goes to the torque limiter under the motor's name (R27, R53). -/
theorem intake_lim (m : Motor) (f : FeedbackFrame) (s : State) :
    (intake m f s).lim = { s.lim with stack := { s.lim.stack with
      thermA := if m = .A then thermOf s (clamp (-40) 150 f.temp.toInt) else s.lim.stack.thermA
      thermB := if m = .B then thermOf s (clamp (-40) 150 f.temp.toInt) else s.lim.stack.thermB } } := by
  cases m <;> simp [intake, deliverTherm]

theorem intake_trip (m : Motor) (f : FeedbackFrame) (s : State) :
    (intake m f s).trip = { s.trip with active := (intake m f s).trip.active } := by
  simp [intake, setCondition]

/-! ### The conditions of temperature and modulator (R54 to R56) -/

/-- OVERTEMP after an arrival (R54). -/
def overtempAfter (m : Motor) (s : State) : Bool :=
  match activeDrive s with
  | none => (s.reg m).overtemp
  | some d =>
    if d.thermEnd ≤ (s.reg m).temp then d.motorSet.has m || (s.reg m).overtemp
    else !decide ((s.reg m).temp ≤ d.thermStart) && (s.reg m).overtemp

theorem overtempAfter_none {m : Motor} {s : State} (h : activeDrive s = none) :
    overtempAfter m s = (s.reg m).overtemp := by
  simp only [overtempAfter, h]

theorem overtempAfter_some {m : Motor} {s : State} {d : DriveTable} (h : activeDrive s = some d) :
    overtempAfter m s =
      if d.thermEnd ≤ (s.reg m).temp then d.motorSet.has m || (s.reg m).overtemp
      else !decide ((s.reg m).temp ≤ d.thermStart) && (s.reg m).overtemp := by
  simp only [overtempAfter, h]

/-- MOD_FAULT after an arrival (R55). -/
def modFaultAfter (m : Motor) (s : State) : Bool :=
  decide ((s.reg m).modState = .fault) && (inDriveSet s m || (s.reg m).modFault)

/-- An arrival at THERM_END or above in a motor of the set delivers OVERTEMP (R54, R56). -/
theorem judgeOvertemp_hot {m : Motor} {s : State} (hi : inDriveSet s m = true)
    (ht : (driveFieldsOf s).thermEnd ≤ (s.reg m).temp) :
    judgeOvertemp m s =
      deliverCause (ownDelivery m) ⟨.overtemp, .motor m⟩ (data32 (s.reg m).temp) (setOvertemp m true s) := by
  cases hd : activeDrive s with
  | none => simp [inDriveSet, hd] at hi
  | some d =>
    rw [driveFieldsOf_some hd] at ht
    rw [inDriveSet_some hd] at hi
    simp only [judgeOvertemp, hd, if_pos ht, hi, if_true]

/-- Any other arrival delivers none, and may make the condition inactive (R54, R56). -/
theorem judgeOvertemp_cool {m : Motor} {s : State}
    (h : ¬(inDriveSet s m = true ∧ (driveFieldsOf s).thermEnd ≤ (s.reg m).temp)) :
    judgeOvertemp m s = s ∨ judgeOvertemp m s = setOvertemp m false s := by
  cases hd : activeDrive s with
  | none => exact .inl (by simp only [judgeOvertemp, hd])
  | some d =>
    rw [driveFieldsOf_some hd, inDriveSet_some hd] at h
    simp only [judgeOvertemp, hd]
    (repeat' split) <;> simp_all

/-- A FAULT in a motor of the set delivers MOD_FAULT (R55, R56). -/
theorem judgeModFault_fault {m : Motor} {s : State} (hi : inDriveSet s m = true) (hf : (s.reg m).modState = .fault) :
    judgeModFault m s =
      deliverCause (ownDelivery m) ⟨.modFault, .motor m⟩ ((s.reg m).faultCode.setWidth 32) (setModFault m true s) := by
  simp only [judgeModFault, hf, hi, if_true]

theorem judgeModFault_sound {m : Motor} {s : State} (h : ¬(inDriveSet s m = true ∧ (s.reg m).modState = .fault)) :
    judgeModFault m s = s ∨ judgeModFault m s = setModFault m false s := by
  unfold judgeModFault
  (repeat' split) <;> simp_all

theorem setOvertemp_reg (m k : Motor) (on : Bool) (s : State) :
    (setOvertemp m on s).reg k = if k = m then { s.reg m with overtemp := on } else s.reg k := by
  simp [setOvertemp, setCondition_reg, State.setReg_reg]

theorem setModFault_reg (m k : Motor) (on : Bool) (s : State) :
    (setModFault m on s).reg k = if k = m then { s.reg m with modFault := on } else s.reg k := by
  simp [setModFault, setCondition_reg, State.setReg_reg]

theorem judgeOvertemp_core (m k : Motor) (s : State) :
    ((judgeOvertemp m s).reg k).core =
      if k = m then { (s.reg m).core with overtemp := overtempAfter m s } else (s.reg k).core := by
  have hset (on : Bool) : ((setOvertemp m on s).reg k).core =
      if k = m then { (s.reg m).core with overtemp := on } else (s.reg k).core := by
    rw [setOvertemp_reg]
    split <;> rfl
  have hsame : (s.reg k).core =
      if k = m then { (s.reg m).core with overtemp := (s.reg m).overtemp } else (s.reg k).core := by
    split
    · next h => rw [h]; rfl
    · rfl
  cases hd : activeDrive s with
  | none => simpa only [judgeOvertemp, hd, overtempAfter_none hd] using hsame
  | some d =>
    rw [overtempAfter_some hd]
    simp only [judgeOvertemp, hd]
    split
    · split
      · next hm => rw [(arrivalKeeps_deliverCause _ _ _ _).core, hset, hm, Bool.true_or]
      · next hm => simpa [hm] using hsame
    · split
      · next ht => rw [hset]; simp [ht]
      · next ht => simpa [ht] using hsame

theorem judgeModFault_core (m k : Motor) (s : State) :
    ((judgeModFault m s).reg k).core =
      if k = m then { (s.reg m).core with modFault := modFaultAfter m s } else (s.reg k).core := by
  have hset (on : Bool) : ((setModFault m on s).reg k).core =
      if k = m then { (s.reg m).core with modFault := on } else (s.reg k).core := by
    rw [setModFault_reg]
    split <;> rfl
  have hsame : (s.reg k).core =
      if k = m then { (s.reg m).core with modFault := (s.reg m).modFault } else (s.reg k).core := by
    split
    · next h => rw [h]; rfl
    · rfl
  unfold judgeModFault modFaultAfter
  split
  · next hf =>
    split
    · next hm => rw [(arrivalKeeps_deliverCause _ _ _ _).core, hset]; simp [hf, hm]
    · next hm => simpa [hf, hm] using hsame
  · next hf => rw [hset]; simp [hf]

/-! ### Trip and records of the causes delivered (R99 to R105) -/

/-- Two states in which a cause finds, and leaves, the same trip and the same records. -/
structure SameDelivery (s t : State) : Prop where
  log : SameLog s t
  run : s.run = t.run
  latch : s.trip.latch = t.trip.latch
  list : s.trip.list = t.trip.list
  overflowSet : s.trip.overflowSet = t.trip.overflowSet
  overflowCount : s.trip.overflowCount = t.trip.overflowCount
  supTime : s.lim.supTime = t.lim.supTime

namespace SameDelivery

variable {s t u : State}

theorem trans (h : SameDelivery s t) (k : SameDelivery t u) : SameDelivery s u :=
  ⟨h.log.trans k.log, h.run.trans k.run, h.latch.trans k.latch, h.list.trans k.list,
    h.overflowSet.trans k.overflowSet, h.overflowCount.trans k.overflowCount, h.supTime.trans k.supTime⟩

theorem causeEntry (h : SameDelivery s t) (c : CauseId) (v : DWord) : causeEntry c v s = causeEntry c v t := by
  simp [Machine.causeEntry, h.log.pace, h.supTime]

theorem latchTrip (h : SameDelivery s t) (d : Delivery) (c : CauseId) (v : DWord) :
    SameDelivery (latchTrip d c v s) (latchTrip d c v t) where
  log := (sameLog_latchTrip d c v s).trans
    ((h.log.latchRecords (by rw [h.run]) (by rw [h.run]) c v).trans (sameLog_latchTrip d c v t).symm)
  run := by rw [latchTrip_run, latchTrip_run, h.run]
  latch := by simp [latchTrip_trip]
  list := by simp [latchTrip_trip, h.causeEntry]
  overflowSet := by simp [latchTrip_trip, h.overflowSet]
  overflowCount := by simp [latchTrip_trip, h.overflowCount]
  supTime := by
    rw [latchTrip_lim, latchTrip_lim]
    split <;> simp [compute_lim_kept, trippedFrom, h.supTime]

/-- What a later cause does to the trip, with its TRIP record (R103, R105). -/
theorem recorded (h : SameDelivery s t) {a b : TripController} (ha : a.latch = true) (hb : b.latch = true)
    (list : a.list = b.list) (set : a.overflowSet = b.overflowSet) (count : a.overflowCount = b.overflowCount)
    (n : Nat) (c : CauseId) (v : DWord) :
    SameDelivery (raiseTrip n c v { s with trip := a }) (raiseTrip n c v { t with trip := b }) :=
  ⟨(h.log.latched ha hb).raise _ _ _ _ _, h.run, ha.trans hb.symm, list, set, count, h.supTime⟩

theorem appendCause (h : SameDelivery s t) (hl : s.trip.latch = true) (c : CauseId) (v : DWord) :
    SameDelivery (appendCause c v s) (appendCause c v t) := by
  have hl' : t.trip.latch = true := h.latch ▸ hl
  unfold Machine.appendCause
  rw [← h.list, ← h.overflowSet, ← h.causeEntry]
  split
  · exact h
  · split
    · exact h.recorded (by exact hl) (by exact hl') (by rfl) (by exact h.overflowSet) (by exact h.overflowCount) 1 c v
    · split
      · exact h
      · exact h.recorded (by exact hl) (by exact hl') (by exact h.list) (by rfl) (by simp [h.overflowCount]) 2 c v

theorem deliverCause (h : SameDelivery s t) (d : Delivery) (c : CauseId) (v : DWord) :
    SameDelivery (deliverCause d c v s) (deliverCause d c v t) := by
  cases hl : s.trip.latch
  · rw [deliverCause_clear hl, deliverCause_clear (h.latch ▸ hl)]
    exact h.latchTrip d c v
  · rw [deliverCause_latched hl, deliverCause_latched (h.latch ▸ hl)]
    exact h.appendCause hl c v

end SameDelivery

/-- The intake and the changes of a condition raise nothing and leave the trip but for its conditions. -/
theorem sameDelivery_intake (m : Motor) (f : FeedbackFrame) (s : State) : SameDelivery (intake m f s) s where
  log := .of_blocks (by simp) (by simp) (by rw [intake_trip]) (by simp) (by simp) (by simp)
  run := by simp
  latch := by rw [intake_trip]
  list := by rw [intake_trip]
  overflowSet := by rw [intake_trip]
  overflowCount := by rw [intake_trip]
  supTime := by rw [intake_lim]

theorem setOvertemp_trip (m : Motor) (on : Bool) (s : State) :
    (setOvertemp m on s).trip = { s.trip with active := (setOvertemp m on s).trip.active } := by
  simp [setOvertemp, setCondition]

theorem setModFault_trip (m : Motor) (on : Bool) (s : State) :
    (setModFault m on s).trip = { s.trip with active := (setModFault m on s).trip.active } := by
  simp [setModFault, setCondition]

theorem sameDelivery_setOvertemp (m : Motor) (on : Bool) (s : State) : SameDelivery (setOvertemp m on s) s where
  log := .of_blocks (by simp) (by simp) (by rw [setOvertemp_trip]) (by simp) (by simp) (by simp)
  run := by simp
  latch := by rw [setOvertemp_trip]
  list := by rw [setOvertemp_trip]
  overflowSet := by rw [setOvertemp_trip]
  overflowCount := by rw [setOvertemp_trip]
  supTime := by simp

theorem sameDelivery_setModFault (m : Motor) (on : Bool) (s : State) : SameDelivery (setModFault m on s) s where
  log := .of_blocks (by simp) (by simp) (by rw [setModFault_trip]) (by simp) (by simp) (by simp)
  run := by simp
  latch := by rw [setModFault_trip]
  list := by rw [setModFault_trip]
  overflowSet := by rw [setModFault_trip]
  overflowCount := by rw [setModFault_trip]
  supTime := by simp

/-- OVERTEMP leaves the trip and the records that the same delivery leaves in any state with the same ones (R54). -/
theorem SameDelivery.judgeOvertemp {s t : State} (h : SameDelivery s t) (m : Motor) :
    SameDelivery (judgeOvertemp m s)
      (if inDriveSet s m = true ∧ (driveFieldsOf s).thermEnd ≤ (s.reg m).temp then
        Machine.deliverCause (ownDelivery m) ⟨.overtemp, .motor m⟩ (data32 (s.reg m).temp) t
      else t) := by
  split
  · next hh =>
    rw [judgeOvertemp_hot hh.1 hh.2]
    exact ((sameDelivery_setOvertemp m true s).trans h).deliverCause _ _ _
  · next hc =>
    obtain he | he := judgeOvertemp_cool hc <;> rw [he]
    · exact h
    · exact (sameDelivery_setOvertemp m false s).trans h

/-- The same of MOD_FAULT (R55). -/
theorem SameDelivery.judgeModFault {s t : State} (h : SameDelivery s t) (m : Motor) :
    SameDelivery (judgeModFault m s)
      (if inDriveSet s m = true ∧ (s.reg m).modState = .fault then
        Machine.deliverCause (ownDelivery m) ⟨.modFault, .motor m⟩ ((s.reg m).faultCode.setWidth 32) t
      else t) := by
  split
  · next hh =>
    rw [judgeModFault_fault hh.1 hh.2]
    exact ((sameDelivery_setModFault m true s).trans h).deliverCause _ _ _
  · next hc =>
    obtain he | he := judgeModFault_sound hc <;> rw [he]
    · exact h
    · exact (sameDelivery_setModFault m false s).trans h

/-- OVERTEMP leaves what the judgement of MOD_FAULT reads. -/
theorem judgeOvertemp_kept (m : Motor) (s : State) :
    inDriveSet (judgeOvertemp m s) m = inDriveSet s m
      ∧ ((judgeOvertemp m s).reg m).modState = (s.reg m).modState
      ∧ ((judgeOvertemp m s).reg m).faultCode = (s.reg m).faultCode := by
  have hcore := judgeOvertemp_core m m s
  rw [if_pos rfl] at hcore
  exact ⟨inDriveSet_congr (by simp) m, (congrArg Regulator.modState hcore :),
    (congrArg Regulator.faultCode hcore :)⟩

/-! ### The two ends of the causes (R56, R102) -/

/-- Only the motor's own regulator, the trip's entries and the log are touched. -/
structure Quiet (m : Motor) (s t : State) : Prop where
  run : t.run = s.run
  lim : t.lim = s.lim
  link : t.link = s.link
  recorder : t.recorder = s.recorder
  tab : t.tab = s.tab
  latch : t.trip.latch = s.trip.latch
  other : ∀ k, k ≠ m → t.reg k = s.reg k
  dcLink : (t.reg m).dcLink = (s.reg m).dcLink
  temp : (t.reg m).temp = (s.reg m).temp

namespace Quiet

variable {m : Motor} {s t u : State}

theorem refl (s : State) : Quiet m s s := ⟨rfl, rfl, rfl, rfl, rfl, rfl, fun _ _ => rfl, rfl, rfl⟩

theorem trans (h : Quiet m s t) (k : Quiet m t u) : Quiet m s u :=
  ⟨k.run.trans h.run, k.lim.trans h.lim, k.link.trans h.link, k.recorder.trans h.recorder, k.tab.trans h.tab,
    k.latch.trans h.latch, fun x hx => (k.other x hx).trans (h.other x hx), k.dcLink.trans h.dcLink,
    k.temp.trans h.temp⟩

end Quiet

theorem quiet_setOvertemp (m : Motor) (on : Bool) (s : State) : Quiet m s (setOvertemp m on s) :=
  ⟨by simp, by simp, by simp, by simp, by simp, by rw [setOvertemp_trip],
    fun k hk => by rw [setOvertemp_reg, if_neg hk], by rw [setOvertemp_reg, if_pos rfl],
    by rw [setOvertemp_reg, if_pos rfl]⟩

theorem quiet_setModFault (m : Motor) (on : Bool) (s : State) : Quiet m s (setModFault m on s) :=
  ⟨by simp, by simp, by simp, by simp, by simp, by rw [setModFault_trip],
    fun k hk => by rw [setModFault_reg, if_neg hk], by rw [setModFault_reg, if_pos rfl],
    by rw [setModFault_reg, if_pos rfl]⟩

/-- A cause that finds the latch set touches the trip's entries and the log alone (R103). -/
theorem quiet_deliverCause {s : State} (h : s.trip.latch = true) (m : Motor) (d : Delivery) (c : CauseId) (v : DWord) :
    Quiet m s (deliverCause d c v s) := by
  have hr (k : Motor) : (appendCause c v s).reg k = s.reg k := State.reg_congr (by simp) (by simp) k
  rw [deliverCause_latched h]
  exact ⟨by simp, by simp, by simp, by simp, by simp, (appendCause_latch h c v).trans h.symm,
    fun k _ => hr k, by rw [hr], by rw [hr]⟩

/-- A cause of an arrival is due: the motor in the set, its temperature at THERM_END or above or its modulator in
FAULT (R54 to R56). -/
def causeDue (m : Motor) (s : State) : Prop :=
  inDriveSet s m = true ∧ ((driveFieldsOf s).thermEnd ≤ (s.reg m).temp ∨ (s.reg m).modState = .fault)

/-- Where no cause latches, the causes of an arrival are quiet. -/
theorem quiet_judged {m : Motor} {s : State} (h : ¬(s.trip.latch = false ∧ causeDue m s)) :
    Quiet m s (judgeModFault m (judgeOvertemp m s)) := by
  obtain ⟨hset, hmod, -⟩ := judgeOvertemp_kept m s
  have hhot : Quiet m s (judgeOvertemp m s) := by
    by_cases hh : inDriveSet s m = true ∧ (driveFieldsOf s).thermEnd ≤ (s.reg m).temp
    · have hl : (setOvertemp m true s).trip.latch = true := by
        have : ¬s.trip.latch = false := fun hl => h ⟨hl, hh.1, .inl hh.2⟩
        rw [setOvertemp_trip]
        simpa using this
      rw [judgeOvertemp_hot hh.1 hh.2]
      exact (quiet_setOvertemp m true s).trans (quiet_deliverCause hl m _ _ _)
    · obtain he | he := judgeOvertemp_cool hh <;> rw [he]
      · exact .refl s
      · exact quiet_setOvertemp m false s
  by_cases hf : inDriveSet s m = true ∧ (s.reg m).modState = .fault
  · have hl : (setModFault m true (judgeOvertemp m s)).trip.latch = true := by
      have : ¬s.trip.latch = false := fun hl => h ⟨hl, hf.1, .inr hf.2⟩
      rw [setModFault_trip, hhot.latch]
      simpa using this
    rw [judgeModFault_fault (hset.trans hf.1) (hmod.trans hf.2)]
    exact hhot.trans ((quiet_setModFault m true _).trans (quiet_deliverCause hl m _ _ _))
  · obtain he | he := judgeModFault_sound (s := judgeOvertemp m s) (by rwa [hset, hmod]) <;> rw [he]
    · exact hhot
    · exact hhot.trans (quiet_setModFault m false _)

/-- Where a cause latches, the causes of an arrival are one latch, and quiet before and behind it (R102, R103). -/
theorem latched_judged {m : Motor} {s : State} (hl : s.trip.latch = false) (h : causeDue m s) :
    ∃ x c v, Quiet m s x
      ∧ Quiet m (latchTrip (ownDelivery m) c v x) (judgeModFault m (judgeOvertemp m s)) := by
  obtain ⟨hset, hmod, -⟩ := judgeOvertemp_kept m s
  obtain ⟨hi, hcause⟩ := h
  by_cases hh : (driveFieldsOf s).thermEnd ≤ (s.reg m).temp
  · have hx : (setOvertemp m true s).trip.latch = false := by rwa [setOvertemp_trip]
    refine ⟨setOvertemp m true s, ⟨.overtemp, .motor m⟩, data32 (s.reg m).temp, quiet_setOvertemp m true s, ?_⟩
    rw [judgeOvertemp_hot hi hh, deliverCause_clear hx]
    have hlatched : (latchTrip (ownDelivery m) ⟨.overtemp, .motor m⟩ (data32 (s.reg m).temp)
        (setOvertemp m true s)).trip.latch = true := by rw [latchTrip_trip]
    by_cases hf : (s.reg m).modState = .fault
    · rw [judgeOvertemp_hot hi hh, deliverCause_clear hx] at hset hmod
      rw [judgeModFault_fault (hset.trans hi) (hmod.trans hf)]
      exact (quiet_setModFault m true _).trans (quiet_deliverCause (by rwa [setModFault_trip]) m _ _ _)
    · rw [judgeOvertemp_hot hi hh, deliverCause_clear hx] at hset hmod
      obtain he | he := judgeModFault_sound (fun h => hf (hmod.symm.trans h.2)) <;> rw [he]
      · exact .refl _
      · exact quiet_setModFault m false _
  · have hf := hcause.resolve_left hh
    have hcool : Quiet m s (judgeOvertemp m s) := by
      obtain he | he := judgeOvertemp_cool (m := m) (s := s) (fun h => hh h.2) <;> rw [he]
      · exact .refl s
      · exact quiet_setOvertemp m false s
    have hx : (setModFault m true (judgeOvertemp m s)).trip.latch = false := by
      rw [setModFault_trip, hcool.latch, hl]
    refine ⟨_, ⟨.modFault, .motor m⟩, ((judgeOvertemp m s).reg m).faultCode.setWidth 32,
      hcool.trans (quiet_setModFault m true _), ?_⟩
    rw [judgeModFault_fault (hset.trans hi) (hmod.trans hf), deliverCause_clear hx]
    exact .refl _

/-! ### What the whole arrival keeps -/

/-- What no step behind the intake changes: the torque limiter's inputs, the pace count, the slot, and three blocks. -/
def heldOf (s : State) :=
  (s.lim.tReq, s.lim.supTime, s.lim.missCount, s.lim.spTimer, s.lim.stack.vibDerate, s.lim.stack.thermA,
    s.lim.stack.thermB, s.link.paceCount, s.link.slot, s.vib, s.tab, s.pending)

theorem ArrivalKeeps.held {s t : State} (h : ArrivalKeeps s t) : heldOf t = heldOf s := by
  simp only [heldOf, h.tReq, h.supTime, h.missCount, h.spTimer, h.vibDerate, h.thermA, h.thermB, h.pace, h.slot, h.vib,
    h.tab, h.pending]

theorem held_judged (m : Motor) (s : State) : heldOf (judgeModFault m (judgeOvertemp m s)) = heldOf s := by
  have hdeliver (d : Delivery) (c : CauseId) (v : DWord) (x : State) : heldOf (deliverCause d c v x) = heldOf x :=
    (arrivalKeeps_deliverCause d c v x).held
  have hot (on : Bool) (x : State) : heldOf (setOvertemp m on x) = heldOf x := by simp [heldOf]
  have hmod (on : Bool) (x : State) : heldOf (setModFault m on x) = heldOf x := by simp [heldOf]
  have hfault (x : State) : heldOf (judgeModFault m x) = heldOf x := by
    unfold judgeModFault
    (repeat' split) <;> simp only [hdeliver, hmod]
  rw [hfault]
  unfold judgeOvertemp
  dsimp only
  (repeat' split) <;> simp only [hdeliver, hot]

/-- Where a cause of the arrival is due the latch is set behind it (R102, R103). -/
theorem judged_latch {m : Motor} {s : State} (h : causeDue m s) :
    (judgeModFault m (judgeOvertemp m s)).trip.latch = true := by
  cases hl : s.trip.latch
  · obtain ⟨x, c, v, -, hg⟩ := latched_judged hl h
    rw [hg.latch, latchTrip_trip]
  · rw [(quiet_judged (fun hn => absurd hl (by simp [hn.1]))).latch, hl]

end Sys2Proof.Machine

/-! O53: FEEDBACK is taken in, and the run controller takes its step. -/

namespace Sys2Proof.Machine

/-! ### The arrival, step by step (R52) -/

/-- The state after the intake of a frame (R52, step 1). -/
def arrivalTaken (m : Motor) (f : FeedbackFrame) (s : State) : State := intake m f (acceptFeedback m f.seq s)

@[simp] theorem arrivalTaken_frame (m : Motor) (f : FeedbackFrame) (s : State) :
    (arrivalTaken m f s).run = s.run ∧ (arrivalTaken m f s).vib = s.vib ∧ (arrivalTaken m f s).load = s.load
      ∧ (arrivalTaken m f s).recorder = s.recorder ∧ (arrivalTaken m f s).store = s.store
      ∧ (arrivalTaken m f s).tab = s.tab ∧ (arrivalTaken m f s).pending = s.pending
      ∧ (arrivalTaken m f s).link = (acceptFeedback m f.seq s).link
      ∧ (arrivalTaken m f s).log = (acceptFeedback m f.seq s).log := by
  simp [arrivalTaken]

/-- The state after the causes of an arrival, at which the run controller takes its step (R52, step 2). -/
def arrivalCauses (m : Motor) (f : FeedbackFrame) (s : State) : State :=
  judgeModFault m (judgeOvertemp m (arrivalTaken m f s))

theorem arrivalStart_eq (m : Motor) (f : FeedbackFrame) (s : State) :
    arrivalStart m f s = runAtArrival m (arrivalCauses m f s) := rfl

/-- The state after the torque limiter's work (R52, step 3). -/
def arrivalTorque (m : Motor) (f : FeedbackFrame) (s : State) : State :=
  if isPace m s && energised (arrivalStart m f s) then torqueAtArrival m (arrivalStart m f s) else arrivalStart m f s

/-- The state at the end of an arrival (R52). -/
def arrivalEnd (m : Motor) (f : FeedbackFrame) (s : State) : State :=
  if isPace m s then
    paceWork (isPace m s && energised (arrivalStart m f s)) (answerFrame m (arrivalTorque m f s))
  else answerFrame m (arrivalTorque m f s)

theorem exec_feedback (m : Motor) (f : FeedbackFrame) (s : State) :
    exec (.feedback m f) s = .next (arrivalEnd m f s) :=
  execFeedback_eq m f s

theorem arrivalKeeps_torque (m : Motor) (f : FeedbackFrame) (s : State) :
    ArrivalKeeps (arrivalStart m f s) (arrivalTorque m f s) := by
  unfold arrivalTorque
  split
  · exact arrivalKeeps_torqueAtArrival m _
  · exact .refl _

theorem arrivalKeeps_end (m : Motor) (f : FeedbackFrame) (s : State) :
    ArrivalKeeps (arrivalCauses m f s) (arrivalEnd m f s) := by
  have hanswer := ((arrivalKeeps_runAtArrival m (arrivalCauses m f s)).trans (arrivalKeeps_torque m f s)).trans
    (arrivalKeeps_answerFrame m _)
  unfold arrivalEnd
  split
  · exact hanswer.trans (arrivalKeeps_paceWork _ _)
  · exact hanswer

/-- What the answer and the pace work leave of the arrival. -/
theorem arrivalEnd_frame (m : Motor) (f : FeedbackFrame) (s : State) :
    (arrivalEnd m f s).run = (arrivalTorque m f s).run ∧ (arrivalEnd m f s).lim = (arrivalTorque m f s).lim
      ∧ (arrivalEnd m f s).trip = (arrivalTorque m f s).trip
      ∧ (arrivalEnd m f s).recorder.trigger = (arrivalTorque m f s).recorder.trigger := by
  unfold arrivalEnd
  split <;> simp [paceWork_trigger]

/-- In a drive that is not energised no torque is formed. -/
theorem arrivalTorque_still {m : Motor} {f : FeedbackFrame} {s : State}
    (h : energised (arrivalStart m f s) = false) : arrivalTorque m f s = arrivalStart m f s := by
  simp [arrivalTorque, h]

/-- A VCMD on a motor's port leaves the other port alone. -/
theorem Link.vcmds_sendVcmd_other (l : Link) {m k : Motor} (h : k ≠ m) (v : Vcmd) :
    (l.sendVcmd m v).vcmds k = l.vcmds k := by
  cases m <;> cases k <;> first | exact absurd rfl h | rfl

/-- In a drive that is not energised the arrival is answered by a blocking command, and the other motor's regulator
and port stand as the run controller left them (R57, R58). -/
theorem arrivalEnd_still {m : Motor} {f : FeedbackFrame} {s : State} (h : energised (arrivalStart m f s) = false) :
    (arrivalEnd m f s).run = (arrivalStart m f s).run ∧ (arrivalEnd m f s).lim = (arrivalStart m f s).lim
      ∧ (arrivalEnd m f s).trip = (arrivalStart m f s).trip
      ∧ (arrivalEnd m f s).recorder.trigger = (arrivalStart m f s).recorder.trigger
      ∧ ((arrivalEnd m f s).reg m).intD = 0 ∧ ((arrivalEnd m f s).reg m).intQ = 0
      ∧ ∀ k, k ≠ m → (arrivalEnd m f s).reg k = (arrivalStart m f s).reg k
        ∧ (arrivalEnd m f s).link.vcmds k = (arrivalStart m f s).link.vcmds k := by
  obtain ⟨hrun, hlim, htrip, htrigger⟩ := arrivalEnd_frame m f s
  have hanswer : answerFrame m (arrivalTorque m f s) = sendBlocking m (arrivalStart m f s) := by
    rw [arrivalTorque_still h]
    simp [answerFrame, h]
  have hreg (k : Motor) : (arrivalEnd m f s).reg k = (sendBlocking m (arrivalStart m f s)).reg k := by
    unfold arrivalEnd
    rw [hanswer]
    split
    · exact paceWork_reg _ _ k
    · rfl
  have hlink (k : Motor) :
      (arrivalEnd m f s).link.vcmds k = (sendBlocking m (arrivalStart m f s)).link.vcmds k := by
    unfold arrivalEnd
    rw [hanswer]
    split
    · exact (paceWork_link_kept _ _).2.2 k
    · rfl
  rw [arrivalTorque_still h] at hrun hlim htrip htrigger
  refine ⟨hrun, hlim, htrip, htrigger, by rw [hreg, sendBlocking_reg, if_pos rfl],
    by rw [hreg, sendBlocking_reg, if_pos rfl], fun k hk => ⟨?_, ?_⟩⟩
  · rw [hreg, sendBlocking_reg, if_neg hk]
  · rw [hlink, sendBlocking_link, Link.vcmds_sendVcmd_other _ hk]

/-! ### What the frame leaves in the regulators -/

theorem clamp_temp (x : Int) : clamp (-40) 150 x = max (-40) (min 150 x) := by
  unfold clamp
  split
  · omega
  · split <;> omega

theorem modState_ofByte (b : Byte) :
    ModState.ofByte b = if b = 1 then .ready else if b = 2 then .running else if b = 3 then .fault else .notReady := by
  have hb (n : Nat) (hn : n < 256) : b = BitVec.ofNat 8 n ↔ b.toNat = n := by
    rw [← BitVec.toNat_inj, BitVec.toNat_ofNat, Nat.mod_eq_of_lt hn]
  have h1 : (b = 1) = (b.toNat = 1) := propext (hb 1 (by decide))
  have h2 : (b = 2) = (b.toNat = 2) := propext (hb 2 (by decide))
  have h3 : (b = 3) = (b.toNat = 3) := propext (hb 3 (by decide))
  simp only [h1, h2, h3, ModState.ofByte]
  split <;> simp_all

theorem modState_fault_iff (b : Byte) : ModState.ofByte b = .fault ↔ b = 3 := by
  rw [modState_ofByte]
  (repeat' split) <;> simp_all

/-- A regulator after the intake of a frame (R51, R53). -/
def tookIn (m : Motor) (f : FeedbackFrame) (s : State) : Regulator :=
  (s.reg m).takeIn f (fbTimerStart s) (thermOf s (clamp (-40) 150 f.temp.toInt))

theorem acceptFeedback_reg (m k : Motor) (q : Seq) (s : State) : (acceptFeedback m q s).reg k = s.reg k :=
  State.reg_congr (by simp) (by simp) k

theorem thermOf_congr {s t : State} (h : s.tab = t.tab) (x : Int) : thermOf s x = thermOf t x := by
  simp only [thermOf, activeDrive_congr h]

theorem arrivalTaken_reg (m k : Motor) (f : FeedbackFrame) (s : State) :
    (arrivalTaken m f s).reg k = if k = m then tookIn m f s else s.reg k := by
  have ht : (acceptFeedback m f.seq s).tab = s.tab := by simp
  rw [arrivalTaken, intake_reg, acceptFeedback_reg, acceptFeedback_reg, fbTimerStart_congr ht, thermOf_congr ht]
  rfl

/-- The motor's own regulator at the end of the arrival, but for what its answer writes. -/
theorem arrivalEnd_core_own (m : Motor) (f : FeedbackFrame) (s : State) :
    ((arrivalEnd m f s).reg m).core = { (tookIn m f s).core with
      overtemp := overtempAfter m (arrivalTaken m f s)
      modFault := modFaultAfter m (judgeOvertemp m (arrivalTaken m f s)) } := by
  rw [(arrivalKeeps_end m f s).core, arrivalCauses, judgeModFault_core, if_pos rfl, judgeOvertemp_core, if_pos rfl,
    arrivalTaken_reg, if_pos rfl]

theorem arrivalEnd_core_other {m k : Motor} (h : k ≠ m) (f : FeedbackFrame) (s : State) :
    ((arrivalEnd m f s).reg k).core = (s.reg k).core := by
  rw [(arrivalKeeps_end m f s).core, arrivalCauses, judgeModFault_core, if_neg h, judgeOvertemp_core, if_neg h,
    arrivalTaken_reg, if_neg h]

/-- What the arrival holds of other blocks' values is what the intake left. -/
theorem arrivalEnd_held (m : Motor) (f : FeedbackFrame) (s : State) :
    heldOf (arrivalEnd m f s) = heldOf (arrivalTaken m f s) :=
  (arrivalKeeps_end m f s).held.trans (held_judged m _)

/-- The intake leaves what the conditions are judged by (R51, R54, R55). -/
theorem intake_judges (m : Motor) (f : FeedbackFrame) (s : State) :
    activeDrive (arrivalTaken m f s) = activeDrive s
      ∧ inDriveSet (arrivalTaken m f s) m = inDriveSet s m
      ∧ ((arrivalTaken m f s).reg m).temp = max (-40) (min 150 f.temp.toInt)
      ∧ (((arrivalTaken m f s).reg m).modState = .fault ↔ f.modState = 3) := by
  rw [arrivalTaken_reg, if_pos rfl]
  exact ⟨activeDrive_congr (by simp), inDriveSet_congr (by simp) m, clamp_temp _, modState_fault_iff f.modState⟩

/-- OVERTEMP at the end of an arrival (R54). -/
theorem arrivalEnd_overtemp {m : Motor} {s : State} {d : DriveTable} (hd : activeDrive s = some d)
    (f : FeedbackFrame) :
    ((arrivalEnd m f s).reg m).overtemp =
      if d.thermEnd ≤ max (-40) (min 150 f.temp.toInt) then d.motorSet.has m || (s.reg m).overtemp
      else !decide (max (-40) (min 150 f.temp.toInt) ≤ d.thermStart) && (s.reg m).overtemp := by
  obtain ⟨hdrive, -, htemp, -⟩ := intake_judges m f s
  have hcore : ((arrivalEnd m f s).reg m).overtemp = overtempAfter m (arrivalTaken m f s) :=
    (congrArg Regulator.overtemp (arrivalEnd_core_own m f s) :)
  have hold : ((arrivalTaken m f s).reg m).overtemp = (s.reg m).overtemp := by
    rw [arrivalTaken_reg, if_pos rfl]
    rfl
  rw [hcore, overtempAfter_some (hdrive.trans hd), htemp, hold]

/-- MOD_FAULT at the end of an arrival (R55). -/
theorem arrivalEnd_modFault (m : Motor) (f : FeedbackFrame) (s : State) :
    ((arrivalEnd m f s).reg m).modFault = (decide (f.modState = 3) && (inDriveSet s m || (s.reg m).modFault)) := by
  obtain ⟨-, hset, -, hfault⟩ := intake_judges m f s
  obtain ⟨hset', hmod, -⟩ := judgeOvertemp_kept m (arrivalTaken m f s)
  have hcore : ((arrivalEnd m f s).reg m).modFault
      = modFaultAfter m (judgeOvertemp m (arrivalTaken m f s)) :=
    (congrArg Regulator.modFault (arrivalEnd_core_own m f s) :)
  have hold : ((judgeOvertemp m (arrivalTaken m f s)).reg m).modFault = (s.reg m).modFault := by
    have h := judgeOvertemp_core m m (arrivalTaken m f s)
    rw [if_pos rfl, arrivalTaken_reg, if_pos rfl] at h
    exact (congrArg Regulator.modFault h :)
  rw [hcore, modFaultAfter, hset', hset, hmod, hold]
  simp only [hfault]

/-- A cause of the arrival is due, by the frame and the tables. -/
theorem causeDue_intake {m : Motor} {f : FeedbackFrame} {s : State} :
    causeDue m (arrivalTaken m f s) ↔
      inDriveSet s m = true ∧ ((driveFieldsOf s).thermEnd ≤ max (-40) (min 150 f.temp.toInt) ∨ f.modState = 3) := by
  obtain ⟨-, hset, htemp, hfault⟩ := intake_judges m f s
  have hd : driveFieldsOf (arrivalTaken m f s) = driveFieldsOf s := driveFieldsOf_congr (by simp)
  rw [causeDue, hset, htemp, hfault, hd]

/-- An arrival with a cause due ends latched. -/
theorem arrivalEnd_latched {m : Motor} {f : FeedbackFrame} {s : State}
    (h : causeDue m (arrivalTaken m f s)) : (arrivalEnd m f s).trip.latch = true :=
  (arrivalKeeps_end m f s).latch (judged_latch h)

/-- The frame taken in, in every state. -/
theorem feedback_takenIn (m : Motor) (f : FeedbackFrame) (s : State) :
    let t := arrivalEnd m f s
    (t.reg m).seen = true ∧ (t.reg m).lastSeq = f.seq ∧ (t.reg m).idMeas = f.id.toInt
    ∧ (t.reg m).iqMeas = f.iq.toInt ∧ (t.reg m).speed = f.speed.toInt ∧ (t.reg m).dcLink = f.dcLink.toInt
    ∧ (t.reg m).temp = max (-40) (min 150 f.temp.toInt)
    ∧ (t.reg m).modState = (if f.modState = 1 then .ready else if f.modState = 2 then .running
        else if f.modState = 3 then .fault else .notReady)
    ∧ (t.reg m).faultCode = f.fault ∧ (t.reg m).missCount = 0 ∧ (t.reg m).fbLost = false
    ∧ (t.reg m).fbTimer = fbTimerStart s
    ∧ (t.reg m).therm = thermOf s (max (-40) (min 150 f.temp.toInt)) := by
  have hcore := arrivalEnd_core_own m f s
  exact ⟨(congrArg Regulator.seen hcore :), (congrArg Regulator.lastSeq hcore :), (congrArg Regulator.idMeas hcore :),
    (congrArg Regulator.iqMeas hcore :), (congrArg Regulator.speed hcore :), (congrArg Regulator.dcLink hcore :),
    (congrArg Regulator.temp hcore :).trans (clamp_temp _),
    (congrArg Regulator.modState hcore :).trans (modState_ofByte _), (congrArg Regulator.faultCode hcore :),
    (congrArg Regulator.missCount hcore :), (congrArg Regulator.fbLost hcore :), (congrArg Regulator.fbTimer hcore :),
    (congrArg Regulator.therm hcore :).trans (by rw [← clamp_temp]; rfl)⟩

theorem arrivalEnd_speed (m : Motor) (f : FeedbackFrame) (s : State) :
    ((arrivalEnd m f s).reg m).speed = f.speed.toInt :=
  (congrArg Regulator.speed (arrivalEnd_core_own m f s) :)

/-- The derate formed goes to the torque limiter (R27, R53). -/
theorem arrivalTaken_lim (m : Motor) (f : FeedbackFrame) (s : State) :
    (arrivalTaken m f s).lim = { s.lim with stack := { s.lim.stack with
      thermA := if m = .A then thermOf s (max (-40) (min 150 f.temp.toInt)) else s.lim.stack.thermA
      thermB := if m = .B then thermOf s (max (-40) (min 150 f.temp.toInt)) else s.lim.stack.thermB } } := by
  have htherm := thermOf_congr (s := acceptFeedback m f.seq s) (t := s) (by simp) (max (-40) (min 150 f.temp.toInt))
  rw [arrivalTaken, intake_lim, clamp_temp, htherm]
  simp

/-- The torque limiter and the link hold what the intake left there (R27, R51, R181). -/
theorem arrivalEnd_holds (m : Motor) (f : FeedbackFrame) (s : State) :
    let t := arrivalEnd m f s
    let therm := thermOf s (max (-40) (min 150 f.temp.toInt))
    t.lim.tReq = s.lim.tReq ∧ t.lim.supTime = s.lim.supTime ∧ t.lim.missCount = s.lim.missCount
      ∧ t.lim.spTimer = s.lim.spTimer ∧ t.lim.stack.vibDerate = s.lim.stack.vibDerate
      ∧ t.lim.stack.thermA = (if m = .A then therm else s.lim.stack.thermA)
      ∧ t.lim.stack.thermB = (if m = .B then therm else s.lim.stack.thermB)
      ∧ t.link.paceCount = (if m = paceMotor s then s.link.paceCount + 1 else s.link.paceCount)
      ∧ t.link.slot = s.link.slot ∧ t.vib = s.vib ∧ t.tab = s.tab ∧ t.pending = s.pending := by
  have h := arrivalEnd_held m f s
  obtain ⟨hpace, hslot, -⟩ := acceptFeedback_link m f.seq s
  simpa [heldOf, arrivalTaken_lim, hpace, hslot] using h

/-! ### An arrival that latches (R56, R102) -/

/-- The latch of an arrival: the run controller has no step left, and what stands is the latch's (R19, R102). -/
theorem arrivalStart_latched {m : Motor} {f : FeedbackFrame} {s : State} (hl : s.trip.latch = false)
    (h : causeDue m (arrivalTaken m f s)) :
    (arrivalStart m f s).run = s.run.tripped ∧ arrivalStart m f s = arrivalCauses m f s
      ∧ ∃ x c v, Quiet m (arrivalTaken m f s) x
        ∧ Quiet m (latchTrip (ownDelivery m) c v x) (arrivalStart m f s) := by
  have hl' : (arrivalTaken m f s).trip.latch = false := by
    rw [arrivalTaken, intake_trip]
    simpa using hl
  obtain ⟨x, c, v, hx, hg⟩ := latched_judged hl' h
  have hrun : (arrivalCauses m f s).run = s.run.tripped := by
    rw [arrivalCauses, hg.run, latchTrip_run, hx.run]
    simp [arrivalTaken]
  have hstart : arrivalStart m f s = arrivalCauses m f s := by
    rw [arrivalStart_eq, runAtArrival, hrun]
    rfl
  exact ⟨by rw [hstart, hrun], hstart, x, c, v, hx, hstart ▸ hg⟩

theorem arrivalStart_latched_still {m : Motor} {f : FeedbackFrame} {s : State} (hl : s.trip.latch = false)
    (h : causeDue m (arrivalTaken m f s)) : energised (arrivalStart m f s) = false := by
  rw [energised, (arrivalStart_latched hl h).1]
  rfl

/-- The other port and regulator across an arrival that latches (R3, R58). -/
theorem arrivalEnd_latched_other {m k : Motor} {f : FeedbackFrame} {s : State} (hl : s.trip.latch = false)
    (h : causeDue m (arrivalTaken m f s)) (hlink : LinkLaw s.link) (hk : k ≠ m) :
    (arrivalEnd m f s).link.vcmds k = s.link.vcmds k ++
        (if energised s = true ∧ (s.reg k).seen = true then [blockingCommand (s.reg k)] else [])
      ∧ (energised s = true → ((arrivalEnd m f s).reg k).intD = 0 ∧ ((arrivalEnd m f s).reg k).intQ = 0) := by
  obtain ⟨-, -, x, c, v, hx, hu⟩ := arrivalStart_latched hl h
  obtain ⟨-, -, -, -, -, -, hother⟩ := arrivalEnd_still (arrivalStart_latched_still hl h)
  obtain ⟨hreg, hsent⟩ := hother k hk
  have hxe : energised x = energised s := energised_congr (by rw [hx.run]; simp [arrivalTaken])
  have hxl : x.link = (acceptFeedback m f.seq s).link := by rw [hx.link]; simp [arrivalTaken]
  have hxr : x.reg k = s.reg k := by rw [hx.other k hk, arrivalTaken_reg, if_neg hk]
  have hnow : blocksNow (ownDelivery m).own k (s.reg k) = (s.reg k).seen := by
    simp [blocksNow, ownDelivery, Ne.symm hk]
  have hxv : x.link.vcmds k = s.link.vcmds k := by rw [hxl, (acceptFeedback_link m f.seq s).2.2]
  have hboth := blockBoth_vcmds (ownDelivery m).own x (hxl ▸ hlink.acceptFeedback m f.seq) k
  rw [hxr, hnow, hxv] at hboth
  refine ⟨?_, fun he => ?_⟩
  · rw [hsent, hu.link, latchTrip_link, hxe]
    cases energised s
    · simpa using hxv
    · simpa using hboth
  · rw [hreg, hu.other k hk, latchTrip_reg, hxe, he, if_pos rfl]
    exact ⟨rfl, rfl⟩

/-- The recorder across an arrival that latches: an ARMED one is triggered, with the limits computed in TRIPPED and
the measurements taken in (R116). -/
theorem arrivalEnd_latched_recorder {m : Motor} {f : FeedbackFrame} {s : State} (hl : s.trip.latch = false)
    (h : causeDue m (arrivalTaken m f s)) (hr : s.recorder.state = .armed) :
    let u := arrivalStart m f s
    let t := arrivalEnd m f s
    u.recorder = { s.recorder with
        state := .post
        ring := s.recorder.ring.drop (s.recorder.ring.length - preCountAt s)
        preCount := min s.recorder.ring.length (preCountAt s)
        postCount := 0
        postTarget := 256 - preCountAt s
        postTimer := .running (postLimitAt s)
        trigger := {
          pace := t.link.paceCount, supTime := s.lim.supTime, lFwd := u.lim.stack.lFwd
          derate := leastDerate (motorSet s) s.lim.stack.vibDerate t.lim.stack.thermA t.lim.stack.thermB
          attempts := s.run.attempts, dcA := t.regA.dcLink, tempA := t.regA.temp, dcB := t.regB.dcLink
          tempB := t.regB.temp } }
      ∧ t.recorder.trigger = u.recorder.trigger := by
  obtain ⟨-, -, x, c, v, hx, hu⟩ := arrivalStart_latched hl h
  obtain ⟨-, -, -, htrigger, -⟩ := arrivalEnd_still (arrivalStart_latched_still hl h)
  obtain ⟨-, hsup, -, -, hvd, hA, hB, hpace, -, -, -, -⟩ := arrivalEnd_holds m f s
  have htab : x.tab = s.tab := by rw [hx.tab]; simp
  have hrec : x.recorder = s.recorder := by rw [hx.recorder]; simp
  have hmeas (k : Motor) : (x.reg k).dcLink = ((arrivalEnd m f s).reg k).dcLink
      ∧ (x.reg k).temp = ((arrivalEnd m f s).reg k).temp := by
    by_cases hk : k = m
    · subst hk
      have hcore := arrivalEnd_core_own k f s
      rw [hx.dcLink, hx.temp, arrivalTaken_reg, if_pos rfl]
      exact ⟨(congrArg Regulator.dcLink hcore.symm :), (congrArg Regulator.temp hcore.symm :)⟩
    · have hcore := arrivalEnd_core_other hk f s
      rw [hx.other k hk, arrivalTaken_reg, if_neg hk]
      exact ⟨(congrArg Regulator.dcLink hcore.symm :), (congrArg Regulator.temp hcore.symm :)⟩
  have hderate : (arrivalStart m f s).lim.stack.derate
      = leastDerate (motorSet s) s.lim.stack.vibDerate (arrivalEnd m f s).lim.stack.thermA
        (arrivalEnd m f s).lim.stack.thermB := by
    have hd := compute_derate (trippedFrom x)
    rw [hu.lim, latchTrip_lim, if_neg (by simp [ownDelivery]), hd, hA, hB, motorSet_congr (t := s) (by exact htab)]
    simp [trippedFrom, hx.lim, arrivalTaken_lim]
  have hx' := latchTrip_recorder (ownDelivery m) c v x
  have hpre : preCountAt x = preCountAt s := by simp only [preCountAt, activeDrive_congr htab]
  have hpost : postLimitAt x = postLimitAt s := by simp only [postLimitAt, activeDrive_congr htab]
  have hxp : x.link.paceCount = (arrivalEnd m f s).link.paceCount := by
    rw [hx.link, hpace, arrivalTaken_frame m f s |>.2.2.2.2.2.2.2.1]
    exact (acceptFeedback_link m f.seq s).1
  have hxs : x.lim.supTime = s.lim.supTime := by rw [hx.lim, arrivalTaken_lim]
  have hxa : x.run.attempts = s.run.attempts := by rw [hx.run]; simp
  refine ⟨?_, htrigger⟩
  obtain ⟨hdcA, htempA⟩ := hmeas .A
  obtain ⟨hdcB, htempB⟩ := hmeas .B
  simp only [State.reg_A, State.reg_B] at hdcA htempA hdcB htempB
  rw [hu.recorder, hx', hrec, if_pos hr, ← hu.lim, hderate, hpre, hpost, hxp, hxs, hxa, hdcA, htempA, hdcB, htempB,
    length_newest]
  rfl

/-! ### An arrival that latches nothing: the run controller's step (R5, R12, R17) -/

theorem isPace_congr {s t : State} (h : s.tab = t.tab) (m : Motor) : isPace m s = isPace m t := by
  rw [isPace, isPace, paceMotor_congr h]

theorem runAtArrival_judges {m : Motor} {s : State} (h : s.run.state = .off ∨ s.run.state = .ready) :
    runAtArrival m s = if (motorSet s).has m then evaluateReady s else s := by
  obtain h | h := h <;> simp only [runAtArrival, h]

theorem runAtArrival_breakaway {m : Motor} {s : State} (h : s.run.state = .breakaway) :
    runAtArrival m s =
      if isPace m s = true ∧ (driveFieldsOf s).brkSpeed ≤ mag (s.reg m).speed then speedReached s else s := by
  simp only [runAtArrival, h]

theorem runAtArrival_stopping {m : Motor} {s : State} (h : s.run.state = .stopping) :
    runAtArrival m s =
      if isPace m s = true ∧ mag (s.reg m).speed < (driveFieldsOf s).stopSpeed then endStop (some m) .stopSpeed s
      else s := by
  simp only [runAtArrival, h]

theorem runAtArrival_still {m : Motor} {s : State}
    (h : s.run.state = .resting ∨ s.run.state = .run ∨ s.run.state = .tripped) : runAtArrival m s = s := by
  obtain h | h | h := h <;> simp only [runAtArrival, h]

/-- A breakaway that reaches speed, block by block (R12, R34). -/
theorem speedReached_leaves {s j : State} (hs : s.run.state = .breakaway) (hj : SameLog s j) :
    let u := speedReached s
    u.run = { s.run with state := .run, brkTimer := .stopped }
      ∧ u.lim.tCmd = clamp (-u.lim.stack.lRev) u.lim.stack.lFwd s.lim.tReq
      ∧ u.log = (tlimRecord u.lim (brkEndRecord 0 s.run.attempts (driveStateRecord 2 4 3 j))).log := by
  have hd : SameLog _ (driveStateRecord 2 4 3 j) :=
    ((SameLog.withRun s { s.run with brkTimer := .stopped }).trans hj).changeDrive (old := .breakaway) hs .run
      .speedReached
  refine ⟨by simp [speedReached, RunController.entering], ?_, ?_⟩
  · have hstack (x : State) : (compute x).lim.stack.lRev = (stackOf x).lRev
        ∧ (compute x).lim.stack.lFwd = (stackOf x).lFwd := by
      rw [compute_lim]
      exact ⟨rfl, rfl⟩
    rw [speedReached, compute_tCmd, (hstack _).1, (hstack _).2]
    simp [torqueCommand, TorqueLimiter.entering, DriveState.energised]
  · exact (SameLog.computed (hd.brkEndRecord 0 s.run.attempts)).log

theorem endStop_otCount (own : Option Motor) (x : DriveReason) (s : State) : (endStop own x s).lim.otCount = 0 := by
  obtain ⟨-, -, -, hot, -⟩ := compute_lim_kept (blockBoth own (stopEnded x s))
  rw [endStop_eq, hot]
  simp [stopEnded, enterReadyOrOff_lim]

/-- The state the run controller finds where no cause latches. -/
theorem arrivalCauses_quiet {m : Motor} {f : FeedbackFrame} {s : State}
    (h : ¬(s.trip.latch = false ∧ causeDue m (arrivalTaken m f s))) :
    (arrivalCauses m f s).run = s.run ∧ (arrivalCauses m f s).trip.latch = s.trip.latch
      ∧ (arrivalCauses m f s).link = (acceptFeedback m f.seq s).link
      ∧ (arrivalCauses m f s).lim = (arrivalTaken m f s).lim
      ∧ ∀ k, k ≠ m → (arrivalCauses m f s).reg k = s.reg k := by
  have htaken : (arrivalTaken m f s).trip.latch = s.trip.latch := by
    rw [arrivalTaken, intake_trip]
    simp
  have hq : Quiet m (arrivalTaken m f s) (arrivalCauses m f s) := quiet_judged (by rwa [htaken])
  refine ⟨by rw [hq.run]; simp, hq.latch.trans htaken, by rw [hq.link]; simp, hq.lim, fun k hk => ?_⟩
  rw [hq.other k hk, arrivalTaken_reg, if_neg hk]

theorem arrivalCauses_speed (m : Motor) (f : FeedbackFrame) (s : State) :
    ((arrivalCauses m f s).reg m).speed = f.speed.toInt := by
  have h : ((arrivalCauses m f s).reg m).speed = ((arrivalEnd m f s).reg m).speed :=
    (congrArg Regulator.speed ((arrivalKeeps_end m f s).core m).symm :)
  rw [h, arrivalEnd_speed]

theorem arrivalCauses_tab (m : Motor) (f : FeedbackFrame) (s : State) : (arrivalCauses m f s).tab = s.tab := by
  simp [arrivalCauses]

/-- In a drive that is not energised the READY conditions at the end of the arrival are those its run controller's step
found (R4). -/
theorem arrivalEnd_ready {m : Motor} {f : FeedbackFrame} {s : State} (h : energised (arrivalStart m f s) = false) :
    readyConditions (arrivalEnd m f s) = readyConditions (arrivalCauses m f s) := by
  obtain ⟨-, -, htrip, -⟩ := arrivalEnd_still h
  exact (arrivalKeeps_end m f s).ready (by rw [htrip, arrivalStart_eq, runAtArrival_frame m _ |>.2.2.1])

/-- In OFF and READY a motor of the set is an evaluation point (R5). -/
theorem arrival_evaluates {m : Motor} {f : FeedbackFrame} {s j : State}
    (hn : ¬(s.trip.latch = false ∧ causeDue m (arrivalTaken m f s))) (hj : SameDelivery (arrivalCauses m f s) j)
    (hs : s.run.state = .off ∨ s.run.state = .ready) :
    let t := arrivalEnd m f s
    t.run = (if (motorSet s).has m = true then
        if s.run.state = .off ∧ readyConditions t = true then
          { s.run with state := .ready, runEdge := false, attempts := 0 }
        else if s.run.state = .ready ∧ readyConditions t = false then { s.run with state := .off, attempts := 0 }
        else s.run
      else s.run)
      ∧ (arrivalStart m f s).log =
        (if (motorSet s).has m = true then conditionsRecord (readyConditions t) j else j).log := by
  obtain ⟨hrun, -, -, -, -⟩ := arrivalCauses_quiet hn
  have hu := arrivalStart_eq m f s
  rw [runAtArrival_judges (by rwa [hrun]), motorSet_congr (arrivalCauses_tab m f s)] at hu
  have hmove := evaluateReady_run (arrivalCauses m f s)
  rw [hrun] at hmove
  have hstill : energised (arrivalStart m f s) = false := by
    rw [hu, energised]
    split
    · rw [hmove]
      (repeat' split) <;> first | rfl | (obtain hs | hs := hs <;> rw [hs] <;> rfl)
    · rw [hrun]
      obtain hs | hs := hs <;> rw [hs] <;> rfl
  dsimp only
  rw [(arrivalEnd_still hstill).1, arrivalEnd_ready hstill, hu]
  split
  · exact ⟨hmove, ((sameLog_evaluateReady _).trans (hj.log.conditionsRecord (by rw [hj.run]) _)).log⟩
  · exact ⟨hrun, hj.log.log⟩

/-- A pace arrival at BRK_SPEED or above takes BREAKAWAY to RUN (R12). -/
theorem arrival_reachesSpeed {m : Motor} {f : FeedbackFrame} {s j : State}
    (hn : ¬(s.trip.latch = false ∧ causeDue m (arrivalTaken m f s))) (hj : SameDelivery (arrivalCauses m f s) j)
    (hs : s.run.state = .breakaway) (hp : m = paceMotor s)
    (hv : ((driveFieldsOf s).brkSpeed : Int) ≤ |f.speed.toInt|) :
    let u := arrivalStart m f s
    u.run = { s.run with state := .run, brkTimer := .stopped }
      ∧ u.lim.tCmd = clamp (-u.lim.stack.lRev) u.lim.stack.lFwd s.lim.tReq
      ∧ u.log = (tlimRecord u.lim (brkEndRecord 0 s.run.attempts (driveStateRecord 2 4 3 j))).log := by
  obtain ⟨hrun, -, -, hlim, -⟩ := arrivalCauses_quiet hn
  have hdf : driveFieldsOf (arrivalCauses m f s) = driveFieldsOf s := driveFieldsOf_congr (arrivalCauses_tab m f s)
  have hpace : isPace m (arrivalCauses m f s) = true := by
    rw [isPace_congr (arrivalCauses_tab m f s), isPace, ← hp]
    simp
  have hspeed : (driveFieldsOf (arrivalCauses m f s)).brkSpeed ≤ mag ((arrivalCauses m f s).reg m).speed := by
    rw [hdf, arrivalCauses_speed, ← Int.ofNat_le, natCast_mag]
    exact hv
  have hu := arrivalStart_eq m f s
  rw [runAtArrival_breakaway (by rw [hrun, hs]), if_pos ⟨hpace, hspeed⟩] at hu
  obtain ⟨hmove, hcmd, hlog⟩ := speedReached_leaves (s := arrivalCauses m f s) (by rw [hrun, hs]) hj.log
  rw [hrun] at hmove hlog
  have htReq : (arrivalCauses m f s).lim.tReq = s.lim.tReq := by rw [hlim, arrivalTaken_lim]
  rw [htReq] at hcmd
  dsimp only
  rw [hu]
  exact ⟨hmove, hcmd, hlog⟩

/-- A pace arrival below STOP_SPEED ends STOPPING, the other port blocked (R3, R17). -/
theorem arrival_endsStop {m : Motor} {f : FeedbackFrame} {s j : State}
    (hn : ¬(s.trip.latch = false ∧ causeDue m (arrivalTaken m f s))) (hj : SameDelivery (arrivalCauses m f s) j)
    (hs : s.run.state = .stopping) (hp : m = paceMotor s)
    (hv : |f.speed.toInt| < (driveFieldsOf s).stopSpeed) :
    let t := arrivalEnd m f s
    t.run = { s.run with
        state := if readyConditions t then .ready else .off, stopTimer := .stopped, attempts := 0
        runEdge := if readyConditions t then false else s.run.runEdge }
      ∧ t.lim.tCmd = 0 ∧ t.lim.otCount = 0
      ∧ (arrivalStart m f s).log = (driveStateRecord 5 (if readyConditions t then 1 else 0) 8 j).log
      ∧ (∀ k, (t.reg k).intD = 0 ∧ (t.reg k).intQ = 0)
      ∧ (LinkLaw s.link → ∀ k, k ≠ m → t.link.vcmds k = s.link.vcmds k ++
        (if (s.reg k).seen then [{ seq := (s.reg k).lastSeq, vd := 0, vq := 0, block := true }] else [])) := by
  obtain ⟨hrun, -, hlink, -, hother⟩ := arrivalCauses_quiet hn
  have hdf : driveFieldsOf (arrivalCauses m f s) = driveFieldsOf s := driveFieldsOf_congr (arrivalCauses_tab m f s)
  have hpace : isPace m (arrivalCauses m f s) = true := by
    rw [isPace_congr (arrivalCauses_tab m f s), isPace, ← hp]
    simp
  have hspeed : mag ((arrivalCauses m f s).reg m).speed < (driveFieldsOf (arrivalCauses m f s)).stopSpeed := by
    rw [hdf, arrivalCauses_speed, ← Int.ofNat_lt, natCast_mag]
    exact hv
  have hu := arrivalStart_eq m f s
  rw [runAtArrival_stopping (by rw [hrun, hs]), if_pos ⟨hpace, hspeed⟩] at hu
  have hmove := endStop_run (some m) .stopSpeed (arrivalCauses m f s)
  have hstill : energised (arrivalStart m f s) = false := by
    rw [hu, energised, hmove]
    cases readyConditions (arrivalCauses m f s) <;> rfl
  obtain ⟨htrun, htlim, -, -, hD, hQ, htother⟩ := arrivalEnd_still hstill
  have hlog := (sameLog_endStop (some m) .stopSpeed (arrivalCauses m f s)).trans (hj.log.driveStateRecord _ _ _)
  dsimp only
  rw [arrivalEnd_ready hstill, htrun, htlim, hu]
  refine ⟨by rw [hmove, hrun], endStop_tCmd _ _ _, endStop_otCount _ _ _, ?_, fun k => ?_, fun hlaw k hk => ?_⟩
  · rw [hrun, hs] at hlog
    exact hlog.log
  · by_cases hk : k = m
    · subst hk
      exact ⟨hD, hQ⟩
    · rw [(htother k hk).1, hu, endStop_reg]
      exact ⟨rfl, rfl⟩
  · have hg : LinkLaw (arrivalCauses m f s).link := by
      rw [hlink]
      exact hlaw.acceptFeedback m f.seq
    have hboth := blockBoth_vcmds (some m) (arrivalCauses m f s) hg k
    rw [hlink, (acceptFeedback_link m f.seq s).2.2, hother k hk] at hboth
    rw [(htother k hk).2, hu, endStop_link, hboth]
    simp [blocksNow, Ne.symm hk, blockingCommand]

/-- Where the run controller takes no step. -/
theorem arrival_stays {m : Motor} {f : FeedbackFrame} {s j : State}
    (hn : ¬(s.trip.latch = false ∧ causeDue m (arrivalTaken m f s))) (hj : SameDelivery (arrivalCauses m f s) j)
    (h : arrivalStart m f s = arrivalCauses m f s) :
    (arrivalStart m f s).run = s.run ∧ (arrivalStart m f s).log = j.log := by
  rw [h]
  exact ⟨(arrivalCauses_quiet hn).1, hj.log.log⟩

/-! ### The causes of an arrival, delivered in the state before it (R54 to R56) -/

/-- The deliveries of an arrival on the accepted frame: OVERTEMP before MOD_FAULT (R54 to R56). -/
def arrivalDelivered (m : Motor) (f : FeedbackFrame) (s : State) : State :=
  let temp := max (-40) (min 150 f.temp.toInt)
  let accepted := acceptFrame (portOf m) 0 f.seq { s with link := { s.link with
    paceCount := if m = paceMotor s then s.link.paceCount + 1 else s.link.paceCount } }
  let heated := if inDriveSet s m = true ∧ (driveFieldsOf s).thermEnd ≤ temp then
      deliverCause (ownDelivery m) ⟨.overtemp, .motor m⟩ (data32 temp) accepted
    else accepted
  if inDriveSet s m = true ∧ f.modState = 3 then
    deliverCause (ownDelivery m) ⟨.modFault, .motor m⟩ (f.fault.setWidth 32) heated
  else heated

/-- The causes of an arrival leave the trip and the records of their deliveries on the accepted frame (R56). -/
theorem sameDelivery_arrival (m : Motor) (f : FeedbackFrame) (s : State) :
    SameDelivery (arrivalCauses m f s) (arrivalDelivered m f s) := by
  have h := ((sameDelivery_intake m f (acceptFeedback m f.seq s)).judgeOvertemp m).judgeModFault m
  obtain ⟨-, hset, htemp, hfault⟩ := intake_judges m f s
  obtain ⟨hset', hmod, hcode⟩ := judgeOvertemp_kept m (arrivalTaken m f s)
  have hd : driveFieldsOf (arrivalTaken m f s) = driveFieldsOf s := driveFieldsOf_congr (by simp)
  have hcode' : ((arrivalTaken m f s).reg m).faultCode = f.fault := by
    rw [arrivalTaken_reg, if_pos rfl]
    rfl
  change SameDelivery (arrivalCauses m f s) _ at h
  rw [← arrivalTaken] at h
  simp only [hset', hset, hmod, hcode, hcode', hfault, hd, htemp, acceptFeedback_eq] at h
  exact h

/-- The run controller is left where the run controller's own step left it, unless OVERTORQUE latches (R40). -/
theorem arrivalEnd_run {m : Motor} {f : FeedbackFrame} {s : State}
    (h : (arrivalEnd m f s).trip.latch = (arrivalStart m f s).trip.latch) :
    (arrivalEnd m f s).run = (arrivalStart m f s).run := by
  obtain ⟨hrun, -, htrip, -⟩ := arrivalEnd_frame m f s
  rw [htrip] at h
  rw [hrun]
  unfold arrivalTorque at h ⊢
  split at h
  · next he =>
    rw [if_pos he]
    obtain ⟨n, ht | ht⟩ := torqueAtArrival_cases m (arrivalStart m f s) <;> rw [ht] at h ⊢
    · rfl
    · rw [deliverCause_latch] at h
      rw [deliverCause_run, if_neg (by simp [torqueFormed, ← h])]
      rfl
  · next he => rw [if_neg he]

/-- Behind the run controller's step only a pace arrival works on the recorder (R52). -/
theorem arrivalEnd_recorder {m : Motor} {f : FeedbackFrame} {s : State} (h : m ≠ paceMotor s) :
    (arrivalEnd m f s).recorder = (arrivalStart m f s).recorder := by
  have hp : isPace m s = false := by simpa [isPace] using h
  simp [arrivalEnd, arrivalTorque, hp]

/-- Short of BRK_SPEED, or at the other motor's arrival, BREAKAWAY goes on (R12). -/
theorem arrival_breakawayGoesOn {m : Motor} {f : FeedbackFrame} {s : State}
    (hrun : (arrivalCauses m f s).run = s.run) (hs : s.run.state = .breakaway)
    (h : ¬(m = paceMotor s ∧ ((driveFieldsOf s).brkSpeed : Int) ≤ |f.speed.toInt|)) :
    arrivalStart m f s = arrivalCauses m f s := by
  rw [arrivalStart_eq, runAtArrival_breakaway (by rw [hrun, hs]), if_neg]
  rw [isPace_congr (arrivalCauses_tab m f s), driveFieldsOf_congr (arrivalCauses_tab m f s), arrivalCauses_speed,
    ← Int.ofNat_le, natCast_mag, isPace, beq_iff_eq]
  exact h

/-- At STOP_SPEED or above, or at the other motor's arrival, STOPPING goes on (R17). -/
theorem arrival_stoppingGoesOn {m : Motor} {f : FeedbackFrame} {s : State}
    (hrun : (arrivalCauses m f s).run = s.run) (hs : s.run.state = .stopping)
    (h : ¬(m = paceMotor s ∧ |f.speed.toInt| < (driveFieldsOf s).stopSpeed)) :
    arrivalStart m f s = arrivalCauses m f s := by
  rw [arrivalStart_eq, runAtArrival_stopping (by rw [hrun, hs]), if_neg]
  rw [isPace_congr (arrivalCauses_tab m f s), driveFieldsOf_congr (arrivalCauses_tab m f s), arrivalCauses_speed,
    ← Int.ofNat_lt, natCast_mag, isPace, beq_iff_eq]
  exact h

/-- Settles O53: the intake and the causes reach the end of the arrival unchanged but for its answer, and the run
controller's step is the one its state allows. -/
theorem feedbackIsTakenIn : Obligations.FeedbackIsTakenIn := by
  unfold Obligations.FeedbackIsTakenIn
  refine ⟨fun m f s => ⟨_, exec_feedback m f s, ?_⟩, fun m f s => ?_⟩
  · obtain ⟨hseen, hseq, hid, hiq, hspeed, hdc, htemp, hmod, hcode, hmiss, hlost, htimer, htherm⟩ :=
      feedback_takenIn m f s
    obtain ⟨htReq, hsup, hmissed, hsp, hvd, hA, hB, hpace, hslot, hvib, htab, hpending⟩ := arrivalEnd_holds m f s
    refine ⟨hseen, hseq, hid, hiq, hspeed, hdc, htemp, hmod, hcode, hmiss, hlost, htimer, fun hd => ?_, fun d hd => ?_,
      ?_, hpace, hvd, htReq, hsup, hmissed, hsp, hslot, hvib, htab, hpending⟩
    · simp [htherm, thermOf, hd]
    · have hover := arrivalEnd_overtemp (m := m) hd f
      have hfault := arrivalEnd_modFault m f s
      rw [← htemp] at hover
      rw [inDriveSet_some hd] at hfault
      refine ⟨?_, fun hend hset => ⟨?_, ?_⟩, fun hend hstart => ?_, fun hend hstart => ?_, fun h3 hset => ⟨?_, ?_⟩,
        fun h3 => ?_⟩
      · simp [htherm, htemp, thermOf, hd, thermalDerate]
      · simp [hover, hend, hset]
      · refine arrivalEnd_latched (causeDue_intake.mpr ⟨by rw [inDriveSet_some hd, hset], .inl ?_⟩)
        rw [driveFieldsOf_some hd, ← htemp]
        exact hend
      · rw [hover, if_neg (by omega)]
        simp [hstart]
      · rw [hover, if_neg (by omega)]
        simp [show ¬((arrivalEnd m f s).reg m).temp ≤ d.thermStart by omega]
      · simp [hfault, h3, hset]
      · exact arrivalEnd_latched (causeDue_intake.mpr ⟨by rw [inDriveSet_some hd, hset], .inr h3⟩)
      · rw [hfault, decide_eq_false h3, Bool.false_and]
    · have hother := fun k (hk : k ≠ m) => arrivalEnd_core_other hk f s
      cases m with
      | A =>
        have h := hother .B (by decide)
        exact ⟨by rw [hA, htherm]; rfl, by simpa using hB, (congrArg Regulator.iqMeas h :),
          (congrArg Regulator.speed h :), (congrArg Regulator.lastSeq h :)⟩
      | B =>
        have h := hother .A (by decide)
        exact ⟨by rw [hB, htherm]; rfl, by simpa using hA, (congrArg Regulator.iqMeas h :),
          (congrArg Regulator.speed h :), (congrArg Regulator.lastSeq h :)⟩
  · have hj := sameDelivery_arrival m f s
    have htrip : (arrivalStart m f s).trip = (arrivalCauses m f s).trip := (runAtArrival_frame m _).2.2.1
    refine ⟨_, exec_feedback m f s, arrivalEnd_run, htrip ▸ hj.list, htrip ▸ hj.overflowSet, htrip ▸ hj.overflowCount,
      fun ⟨hl, h⟩ => ?_, fun ⟨hl, h⟩ hlink k hk => ?_, fun ⟨hl, h⟩ hr => ?_, arrivalEnd_recorder, fun ⟨hl, h⟩ => ?_,
      fun hn => ?_⟩
    · rw [(arrivalStart_latched hl (causeDue_intake.mpr h)).2.1]
      exact hj.log.log
    · exact arrivalEnd_latched_other hl (causeDue_intake.mpr h) hlink hk
    · exact arrivalEnd_latched_recorder hl (causeDue_intake.mpr h) hr
    · have hdue := causeDue_intake.mpr h
      exact ⟨arrivalEnd_latched hdue, (arrivalEnd_still (arrivalStart_latched_still hl hdue)).1.trans
        (arrivalStart_latched hl hdue).1⟩
    · have hn' : ¬(s.trip.latch = false ∧ causeDue m (arrivalTaken m f s)) := by rwa [causeDue_intake]
      obtain ⟨hrun, hlatch, -⟩ := arrivalCauses_quiet hn'
      refine ⟨by rw [htrip, hlatch], fun hs => ?_, fun hs => ?_, fun hs => (arrival_evaluates hn' hj hs).2,
        fun hs hp hv => arrival_reachesSpeed hn' hj hs hp hv, fun hs hp hv => ?_,
        fun hs h => arrival_stays hn' hj (arrival_breakawayGoesOn hrun hs h),
        fun hs h => arrival_stays hn' hj (arrival_stoppingGoesOn hrun hs h),
        fun hs => arrival_stays hn' hj (runAtArrival_still (s := arrivalCauses m f s) (by rwa [hrun]))⟩
      · simpa [hs, ← ite_and] using (arrival_evaluates hn' hj (.inl hs)).1
      · simpa [hs, ← ite_and] using (arrival_evaluates hn' hj (.inr hs)).1
      · obtain ⟨hmove, hcmd, hot, hlog, hzero, hsent⟩ := arrival_endsStop hn' hj hs hp hv
        exact ⟨hmove, hcmd, hot, hlog, (hzero .A).1, (hzero .A).2, (hzero .B).1, (hzero .B).2, hsent⟩

end Sys2Proof.Machine

/-! The torque law (O4): nothing is commanded outside BREAKAWAY and RUN, and the shares sum to the command.  Every
computation establishes it, whatever stood before; an operation either ends in a computation or leaves alone what
the law reads. -/

namespace Sys2Proof.Machine

/-! ### States that agree for the torque law -/

/-- What the law reads of the torque limiter: the command, its shares and references, and whether it limits. -/
def TorqueLimiter.commanded (l : TorqueLimiter) : Int × Int × Int × Int × Int × Bool :=
  (l.tCmd, l.shareA, l.shareB, l.iqRefA, l.iqRefB, l.stack.limiting)

/-- The drive state, the command with its shares and the DRIVE table stand as they were. -/
structure SameTorque (s t : State) : Prop where
  state : t.run.state = s.run.state
  commanded : t.lim.commanded = s.lim.commanded
  drive : t.tab.drive = s.tab.drive

namespace SameTorque

variable {s t u : State}

/-- The blocks in which the states agree; the frame lemmas give them. -/
theorem of_blocks (run : t.run = s.run := by simp) (lim : t.lim = s.lim := by simp)
    (drive : t.tab.drive = s.tab.drive := by simp) : SameTorque s t :=
  ⟨by rw [run], by rw [lim], drive⟩

/-- States that agree for the drive, and in the torque limiter besides. -/
theorem of_drive (h : SameDrive s t) (lim : t.lim = s.lim := by simp) : SameTorque s t :=
  of_blocks h.run lim h.drive

theorem refl (s : State) : SameTorque s s := ⟨rfl, rfl, rfl⟩

theorem trans (h : SameTorque s t) (k : SameTorque t u) : SameTorque s u :=
  ⟨k.state.trans h.state, k.commanded.trans h.commanded, k.drive.trans h.drive⟩

end SameTorque

theorem TorqueLaw.of_same {s t : State} (h : TorqueLaw s) (k : SameTorque s t) : TorqueLaw t := by
  have hc := k.commanded
  simp only [TorqueLimiter.commanded, Prod.mk.injEq] at hc
  obtain ⟨hq, hA, hB, hiA, hiB, hl⟩ := hc
  have hd : activeDrive t = activeDrive s := by simp [activeDrive, k.drive]
  refine ⟨?_, ?_, ?_⟩
  · simpa only [k.state, hq, hA, hB, hiA, hiB, hl] using h.still
  · simpa only [k.drive, hq, hA, hB] using h.shared
  · simpa only [hd] using h.iqMax

/-! ### The computation (R34 to R37) -/

/-- The shares sum to the command (R36). -/
theorem sharesOf_sum (set : MotorSet) (a q : Int) : (sharesOf set a q).1 + (sharesOf set a q).2 = q := by
  cases set <;> simp [sharesOf]

theorem isSome_drive {s : State} (h : s.tab.drive.isSome = true) : ∃ d, activeDrive s = some d := by
  obtain ⟨a, ha⟩ := Option.isSome_iff_exists.mp h
  exact ⟨a.table, by simp [activeDrive, ha]⟩

/-- The shares of a computation under a DRIVE table (R36). -/
theorem compute_shares {s : State} {d : DriveTable} (h : activeDrive s = some d) :
    (compute s).lim.shareA = (sharesOf d.motorSet d.shareA (compute s).lim.tCmd).1
      ∧ (compute s).lim.shareB = (sharesOf d.motorSet d.shareA (compute s).lim.tCmd).2 := by
  rw [compute_lim]
  simp [limiterAfter, shares, h]

/-- IQMAX is not negative, nor is it without a DRIVE table. -/
theorem driveFieldsOf_iqMax {s : State} (h : ∀ d, activeDrive s = some d → 0 ≤ d.iqMax) :
    0 ≤ (driveFieldsOf s).iqMax := by
  cases hd : activeDrive s with
  | none => simp [driveFieldsOf, hd, DriveTable.absent, DriveTable.ofFields, fieldAt]
  | some d => simpa [driveFieldsOf, hd] using h d hd

/-- A computation establishes the law under a DRIVE table with an IQMAX that is not negative (R34 to R37). -/
theorem torqueLaw_compute {s : State} (h : ∀ d, activeDrive s = some d → 0 ≤ d.iqMax) :
    TorqueLaw (compute s) := by
  refine ⟨fun hs => ?_, fun hd => ?_, fun d hd => h d (by simpa [activeDrive] using hd)⟩
  · rw [compute_frame s |>.1] at hs
    obtain ⟨hA, hB⟩ := compute_iqRef_still hs (driveFieldsOf_iqMax h)
    have hshares : (compute s).lim.shareA = 0 ∧ (compute s).lim.shareB = 0 := by
      rw [compute_lim]
      simp [limiterAfter, torqueCommand_still hs, shares_zero]
    have hl : (compute s).lim.stack.limiting = false := by
      rw [compute_lim]
      exact isLimiting_still hs _ _
    exact ⟨compute_tCmd_still hs, hshares.1, hshares.2, hA, hB, hl⟩
  · obtain ⟨d, hd⟩ := isSome_drive (s := s) (by simpa using hd)
    obtain ⟨hA, hB⟩ := compute_shares hd
    rw [hA, hB, sharesOf_sum]

/-- A computation under the tables that stood. -/
theorem TorqueLaw.compute {s t : State} (h : TorqueLaw s) (ht : t.tab = s.tab := by simp) :
    TorqueLaw (Machine.compute t) :=
  torqueLaw_compute fun d hd => h.iqMax d ((activeDrive_congr ht).symm.trans hd)

/-! ### The operations of the drive -/

theorem TorqueLaw.evaluateReady {s : State} (h : TorqueLaw s) : TorqueLaw (evaluateReady s) := by
  obtain ⟨-, -, he⟩ | ⟨-, -, he⟩ | ⟨-, -, he⟩ := evaluateReady_cases s <;> rw [he]
  · exact h.compute
  · exact h.compute
  · exact h

/-- A later cause leaves the torque limiter alone, and a first one outside a setpoint computes (R28, R102, R103). -/
theorem TorqueLaw.deliverCause {s : State} (h : TorqueLaw s) {d : Delivery} (hd : d.inSetpoint = false) (c : CauseId)
    (v : DWord) : TorqueLaw (deliverCause d c v s) := by
  cases hl : s.trip.latch with
  | true =>
    rw [deliverCause_latched hl]
    exact h.of_same .of_blocks
  | false =>
    rw [deliverCause_clear hl]
    have hc : TorqueLaw (Machine.compute (trippedFrom s)) := h.compute (t := trippedFrom s) rfl
    exact hc.of_same (.of_blocks (by simp [latchTrip_run, trippedFrom]) (by simp [latchTrip_lim, hd])
      (by simp [trippedFrom]))

theorem TorqueLaw.judgeOvertemp {s : State} (h : TorqueLaw s) (m : Motor) : TorqueLaw (judgeOvertemp m s) := by
  have hset (on : Bool) : TorqueLaw (setOvertemp m on s) := h.of_same .of_blocks
  unfold Machine.judgeOvertemp
  dsimp only
  (repeat' split)
  · exact h
  · exact (hset true).deliverCause rfl _ _
  · exact h
  · exact hset false
  · exact h

theorem TorqueLaw.judgeModFault {s : State} (h : TorqueLaw s) (m : Motor) : TorqueLaw (judgeModFault m s) := by
  have hset (on : Bool) : TorqueLaw (setModFault m on s) := h.of_same .of_blocks
  unfold Machine.judgeModFault
  (repeat' split)
  · exact (hset true).deliverCause rfl _ _
  · exact h
  · exact hset false

theorem TorqueLaw.runAtArrival {s : State} (h : TorqueLaw s) (m : Motor) : TorqueLaw (runAtArrival m s) := by
  have hsplit : ∀ {p : Prop} [Decidable p] {u : State}, TorqueLaw u → TorqueLaw (if p then u else s) := by
    intro p _ u hu
    split
    · exact hu
    · exact h
  unfold Machine.runAtArrival
  split
  · exact hsplit h.evaluateReady
  · exact hsplit h.evaluateReady
  · exact hsplit h.compute
  · exact hsplit h.compute
  all_goals exact h

/-- The torque formed and counted is not the torque commanded (R38, R39). -/
theorem sameTorque_torqueFormed (n : Nat) (s : State) : SameTorque s (torqueFormed n s) := ⟨rfl, rfl, rfl⟩

theorem TorqueLaw.torqueAtArrival {s : State} (h : TorqueLaw s) (m : Motor) : TorqueLaw (torqueAtArrival m s) := by
  obtain ⟨n, ht | ht⟩ := torqueAtArrival_cases m s <;> rw [ht]
  · exact h.of_same (sameTorque_torqueFormed n s)
  · exact (h.of_same (sameTorque_torqueFormed n s)).deliverCause rfl _ _

/-- The intake delivers a derate, which the next computation reads (R53). -/
theorem sameTorque_intake (m : Motor) (f : FeedbackFrame) (s : State) : SameTorque s (intake m f s) :=
  ⟨by simp, by rw [intake_lim]; rfl, by simp⟩

theorem TorqueLaw.arrivalEnd {s : State} (h : TorqueLaw s) (m : Motor) (f : FeedbackFrame) :
    TorqueLaw (arrivalEnd m f s) := by
  have htaken : TorqueLaw (arrivalTaken m f s) := h.of_same (.trans .of_blocks (sameTorque_intake m f _))
  have hstart : TorqueLaw (arrivalStart m f s) := ((htaken.judgeOvertemp m).judgeModFault m).runAtArrival m
  have htorque : TorqueLaw (arrivalTorque m f s) := by
    unfold arrivalTorque
    split
    · exact hstart.torqueAtArrival m
    · exact hstart
  obtain ⟨hrun, hlim, -, -⟩ := arrivalEnd_frame m f s
  have htab : (Machine.arrivalEnd m f s).tab = (arrivalTorque m f s).tab :=
    (arrivalEnd_holds m f s).2.2.2.2.2.2.2.2.2.2.1.trans (by unfold arrivalTorque; split <;> simp)
  exact htorque.of_same (.of_blocks hrun hlim (by rw [htab]))

/-! ### Requests -/

/-- RESTART enters OFF; a drive that was not in OFF computes, and one in OFF already commanded nothing (R187). -/
theorem TorqueLaw.restartAll {s : State} (h : TorqueLaw s) : TorqueLaw (restartAll s) := by
  have hrecord : TorqueLaw (restartRecord s.run.state (restartLog (restartRun s))) := by
    unfold restartRecord
    split
    · next ho =>
      exact h.of_same ⟨by simp [restartRun, RunController.reset, ho],
        by simp [restartRun, TorqueLimiter.commanded], by simp⟩
    · exact h.compute
  refine TorqueLaw.evaluateReady (hrecord.of_same ⟨by simp, ?_, by simp⟩)
  simp [restartLimiter, TorqueLimiter.commanded]

/-- An accepted IQMAX has been clamped to a range above 0 (R45, R170). -/
theorem validate_drive_iqMax {len : Nat} {image : List Byte} {fields : List Int} {k : Nat}
    (h : validate .drive len image = .good fields k) : 0 ≤ (DriveTable.ofFields fields).iqMax := by
  have hclamp (x : Int) : 0 ≤ clamp 1024 24576 x := by
    unfold clamp
    (repeat' split) <;> omega
  have hforce (xs : List Int) : fieldAt (forceDrive xs) 4 = fieldAt xs 4 := by
    unfold forceDrive
    dsimp only
    (repeat' split) <;> simp [fieldAt, List.getD_eq_getElem?_getD]
  have hfields : fields = forceDrive (clampFields driveFields (parseFields driveFields (image.drop 6))) := by
    simp only [validate] at h
    split at h
    · exact absurd h (by simp)
    · exact (Validated.good.inj h).1.symm
  change 0 ≤ fieldAt fields 4
  rw [hfields, hforce]
  generalize parseFields driveFields (image.drop 6) = xs
  match xs with
  | [] | [_] | [_, _] | [_, _, _] | [_, _, _, _] => simp [clampFields, driveFields, fieldAt]
  | _ :: _ :: _ :: _ :: x :: _ => exact hclamp x

theorem sameTorque_raiseTable (t : TableId) (v : Word) (k : Nat) (s : State) : SameTorque s (raiseTable t v k s) :=
  .of_blocks

/-- A commit of another table leaves what the law reads, and its owners compute or leave it alone (R171). -/
theorem TorqueLaw.acceptCommit {s : State} (h : TorqueLaw s) {n : Bool} {b : Staging} {fields : List Int} {k : Nat}
    (hrun : ¬(b.table = .drive ∧ energised s = true))
    (hiq : b.table = .drive → 0 ≤ (DriveTable.ofFields fields).iqMax) :
    TorqueLaw (acceptCommit n b fields k s) := by
  have hact (t : TableId) (hne : t ≠ .drive) :
      TorqueLaw { s with tab := (s.tab.activate t b.version fields).setBuffer n none } :=
    h.of_same ⟨rfl, rfl, by cases t <;> simp_all [TableManager.activate]⟩
  unfold Machine.acceptCommit
  dsimp only
  refine TorqueLaw.of_same ?_ (sameTorque_raiseTable _ _ _ _)
  cases ht : b.table <;> rw [ht] at hrun hiq <;> dsimp only [informOwners]
  · exact (hact .gain nofun).evaluateReady
  · exact (hact .limit nofun).evaluateReady
  · have hv := hact .vib nofun
    exact hv.of_same ⟨by simp, by simp [vibCommit, deliverVibDerate, allChannels, TorqueLimiter.commanded], by simp⟩
  · exact (hact .event nofun).of_same .of_blocks
  · have hnew : TorqueLaw { s with tab := (s.tab.activate .drive b.version fields).setBuffer n none } := by
      have hstill : s.run.state.follows = false := by
        have he : s.run.state.energised = false := by simpa [energised] using hrun
        cases hs : s.run.state <;> simp_all [DriveState.energised, DriveState.follows]
      obtain ⟨hq, hA, hB, -⟩ := h.still hstill
      refine ⟨fun _ => h.still hstill, fun _ => ?_, fun d hd => ?_⟩
      · simp [hq, hA, hB]
      · obtain rfl : DriveTable.ofFields fields = d := by
          simpa [activeDrive, TableManager.activate] using hd
        exact hiq rfl
    exact TorqueLaw.evaluateReady (hnew.of_same ⟨by simp [lowerAttempts], by simp, by simp⟩)

theorem TorqueLaw.tableCommit {s : State} (h : TorqueLaw s) (args : List Byte) :
    TorqueLaw (tableCommit args s).state := by
  have hbuffer (n : Bool) (b : Staging) : TorqueLaw (commitBuffer n b s).state := by
    unfold commitBuffer
    split
    · exact h
    · split
      · exact h
      · split
        · exact h
        · next hrun =>
          split
          · exact h
          · next hv => exact h.acceptCommit hrun fun ht => validate_drive_iqMax (ht ▸ hv)
  unfold Machine.tableCommit
  split
  · split
    · exact hbuffer _ _
    · exact h
  · exact h

theorem TorqueLaw.restart {s : State} (h : TorqueLaw s) (args : List Byte) : TorqueLaw (restart args s).state := by
  simp only [Machine.restart, refuse]
  (repeat' split)
  · exact h
  · exact h
  · exact h.restartAll
  · exact h

theorem TorqueLaw.tripReset {s : State} (h : TorqueLaw s) (args : List Byte) :
    TorqueLaw (tripReset args s).state := by
  simp only [Machine.tripReset, refuse]
  (repeat' split)
  · exact h
  · exact h
  · exact h.compute
  · exact h
  · exact h

/-- The vibration watch delivers a derate, which the next computation reads (R82). -/
theorem sameTorque_deliverVibDerate (s : State) : SameTorque s (deliverVibDerate s) := ⟨rfl, rfl, rfl⟩

theorem sameTorque_vibRestart (args : List Byte) (s : State) : SameTorque s (vibRestart args s).state := by
  simp only [vibRestart, vibRestartChannel, refuse]
  (repeat' split)
  · exact .trans .of_blocks (sameTorque_deliverVibDerate _)
  · exact sameTorque_deliverVibDerate s
  · exact .refl s
  · exact .refl s

/-- Whatever request a code names, its owner keeps the law: all but RESTART, TABLE_COMMIT, TRIP_RESET and VIB_RESTART
leave the torque limiter alone (R184). -/
theorem TorqueLaw.requestOwner {s : State} (h : TorqueLaw s) (code : Byte) (args : List Byte) :
    TorqueLaw (requestOwner code args s).state := by
  show (fun f : State → Reply => TorqueLaw (f s).state) (Machine.requestOwner code args)
  unfold Machine.requestOwner
  split
  · exact h.of_same (.of_drive (sameDrive_identify args s) (by cases args <;> rfl))
  · exact h.of_same (.of_drive (sameDrive_statusClear args s) (by cases args <;> rfl))
  · exact h.restart args
  · refine h.of_same (.of_drive (sameDrive_tableOpen args s) ?_)
    simp only [tableOpen, openTable, refuse]
    (repeat' split) <;> simp
  · refine h.of_same (.of_drive (sameDrive_tableWrite args s) ?_)
    simp only [tableWrite, writeTable, refuse]
    (repeat' split) <;> simp
  · exact h.tableCommit args
  · refine h.of_same (.of_drive (sameDrive_tableAbort args s) ?_)
    simp only [tableAbort, refuse]
    (repeat' split) <;> simp
  · refine h.of_same (.of_drive (sameDrive_tableRead args s) ?_)
    simp only [tableRead, readTable, refuse]
    (repeat' split) <;> rfl
  · refine h.of_same (.of_drive (sameDrive_lockSet args s) ?_)
    simp only [lockSet, refuse]
    (repeat' split) <;> simp
  · refine h.of_same (.of_drive (sameDrive_lockClear args s) ?_)
    simp only [lockClear, refuse]
    (repeat' split) <;> simp
  · exact h.tripReset args
  · refine h.of_same (.of_drive (sameDrive_tripRead args s) ?_)
    simp only [tripRead, readRecord, refuse]
    (repeat' split) <;> rfl
  · refine h.of_same (.of_drive (sameDrive_storeTrim args s) ?_)
    simp only [storeTrim, trimBank, refuse]
    (repeat' split) <;> simp
  · refine h.of_same (.of_drive (sameDrive_storeEraseAll args s) ?_)
    simp only [storeEraseAll, eraseAllBanks, refuse]
    (repeat' split) <;> simp
  · refine h.of_same (.of_drive (sameDrive_storeBlankCheck args s) ?_)
    simp only [storeBlankCheck, checkBank, refuse]
    (repeat' split) <;> simp
  · refine h.of_same (.of_drive (sameDrive_storeStatus args s) ?_)
    simp only [storeStatus, refuse]
    (repeat' split) <;> rfl
  · refine h.of_same (.of_drive (sameDrive_eventRead args s) ?_)
    cases args
    · exact dropOldest_frame s |>.2.1
    · rfl
  · refine h.of_same (.of_drive (sameDrive_eventMark args s) ?_)
    simp only [eventMark, refuse]
    (repeat' split) <;> simp
  · exact h.of_same (sameTorque_vibRestart args s)
  · exact h

/-- The request cycle accepts the frame, asks the owner, and places the answer in the link (R183). -/
theorem TorqueLaw.serve {s : State} (h : TorqueLaw s) (code : Byte) (r : Request) :
    TorqueLaw (serve code r (Machine.requestOwner code r.args) s) := by
  have ha : TorqueLaw (acceptFrame .S 0 r.seq s) := h.of_same .of_blocks
  cases hslot : s.link.slot with
  | none =>
    rw [serve_answered _ _ _ _ hslot]
    exact (ha.requestOwner code r.args).of_same .of_blocks
  | some a =>
    rw [serve_overrun _ _ _ _ a hslot]
    exact ha.of_same .of_blocks

/-- Every request command is the request cycle with the owner its code names. -/
theorem exec_request {i : Instr} {code : Byte} {r : Request} (h : Laws.requestParts i = some (code, r)) (s : State) :
    exec i s = .next (serve code r (requestOwner code r.args) s) := by
  cases i <;> simp only [Laws.requestParts, Option.some.injEq, Prod.mk.injEq, reduceCtorEq] at h <;>
    (obtain ⟨rfl, rfl⟩ := h; rfl)

/-! ### Arrivals of the other ports -/

theorem sameTorque_setChannel (c : Fin 6) (x : Channel) (s : State) : SameTorque s (setChannel c x s) := .of_blocks

theorem sameTorque_setVibDanger (c : Fin 6) (on : Bool) (s : State) : SameTorque s (setVibDanger c on s) :=
  .of_blocks

theorem sameTorque_changeChannel (c : Fin 6) (new : ChannelState) (x : VibReason) (level : Nat) (s : State) :
    SameTorque s (deliverVibDerate (changeChannel c new x level s)) :=
  .trans .of_blocks (sameTorque_deliverVibDerate _)

/-- A window delivers VIB_DANGER where its channel enters DANGER, and a derate where its state changes (R75, R79). -/
theorem TorqueLaw.judgeWindow {s : State} (h : TorqueLaw s) (c : Fin 6) (cfg : ChannelConfig) :
    TorqueLaw (judgeWindow c cfg s) := by
  have hset (x : Channel) := h.of_same (sameTorque_setChannel c x s)
  unfold Machine.judgeWindow
  dsimp only
  split
  · exact hset _
  · have hchanged (new : ChannelState) (level : Nat) (x : Channel) :=
      (hset x).of_same (sameTorque_changeChannel c new .window level _)
    split
    · exact ((hchanged _ _ _).of_same (sameTorque_setVibDanger c true _)).deliverCause rfl _ _
    · exact hchanged _ _ _

theorem TorqueLaw.takeFrame {s : State} (h : TorqueLaw s) (c : Fin 6) (cfg : ChannelConfig) (x : Vector Word 8) :
    TorqueLaw (takeFrame c cfg x s) := by
  have hset (y : Channel) := h.of_same (sameTorque_setChannel c y s)
  unfold Machine.takeFrame
  dsimp only
  (repeat' split)
  · exact ((hset _).judgeWindow c cfg).of_same (sameTorque_setChannel c _ _)
  · exact hset _
  · exact hset _

theorem TorqueLaw.execVibSample {s t : State} (h : TorqueLaw s) {c : Fin 6} {seq : Seq} {x : Vector Word 8}
    (he : execVibSample c seq x s = .next t) : TorqueLaw t := by
  have ha (k : Fin 8) : TorqueLaw (acceptFrame .H k seq s) := h.of_same .of_blocks
  unfold Machine.execVibSample at he
  dsimp only at he
  split at he <;> obtain rfl := Host.Outcome.next.inj he
  · exact ha _
  · exact ha _
  · exact (ha _).takeFrame c _ x

theorem TorqueLaw.execPosition {s t : State} (h : TorqueLaw s) {seq : Seq} {a : Word}
    (he : execPosition seq a s = .next t) : TorqueLaw t := by
  refine h.of_same ?_
  unfold Machine.execPosition at he
  dsimp only at he
  split at he <;> obtain rfl := Host.Outcome.next.inj he <;> exact .of_blocks

/-- A setpoint ends in a computation (R28, R29). -/
theorem TorqueLaw.execSetpoint {s t : State} (h : TorqueLaw s) {seq : Seq} {mode flags : Byte} {q : Word} {u : DWord}
    (he : execSetpoint seq mode flags q u s = .next t) : TorqueLaw t := by
  obtain rfl := Host.Outcome.next.inj he
  exact h.compute

theorem TorqueLaw.execFeedback {s t : State} (h : TorqueLaw s) {m : Motor} {f : FeedbackFrame}
    (he : execFeedback m f s = .next t) : TorqueLaw t := by
  obtain rfl := Host.Outcome.next.inj ((exec_feedback m f s).symm.trans he)
  exact h.arrivalEnd m f

/-- A refused frame is counted; one that passes the checks is taken as the arrival it is (R178). -/
theorem TorqueLaw.execRefusedFrame {s t : State} (h : TorqueLaw s) {p : Port} {bytes : List Byte}
    (he : execRefusedFrame p bytes s = .next t) : TorqueLaw t := by
  unfold Machine.execRefusedFrame at he
  split at he
  · obtain rfl := Host.Outcome.next.inj he
    exact h.of_same .of_blocks
  · next a _ _ =>
    cases a with
    | setpoint seq mode flags q u => exact h.execSetpoint he
    | request code r =>
      obtain rfl := Host.Outcome.next.inj he
      exact h.serve code r
    | feedback m f => exact h.execFeedback he
    | vibSample c seq x => exact h.execVibSample he
    | position seq a => exact h.execPosition he
  · obtain rfl := Host.Outcome.next.inj he
    exact h

/-! ### Timers and the ends of work -/

theorem TorqueLaw.execBrkTimeExpiry {s t : State} (h : TorqueLaw s) (he : execBrkTimeExpiry s = .next t) :
    TorqueLaw t := by
  unfold Machine.execBrkTimeExpiry at he
  split at he <;> obtain rfl := Host.Outcome.next.inj he
  · exact h
  · dsimp only
    split
    · exact h.compute
    · have hstop : TorqueLaw (raiseBrkEnd .fail { s with run := { s.run with brkTimer := .stopped } }) :=
        h.of_same ⟨by simp, by simp, by simp⟩
      exact hstop.deliverCause rfl _ _

theorem TorqueLaw.execBrkRestExpiry {s t : State} (h : TorqueLaw s) (he : execBrkRestExpiry s = .next t) :
    TorqueLaw t := by
  unfold Machine.execBrkRestExpiry at he
  split at he <;> obtain rfl := Host.Outcome.next.inj he
  · exact h
  · exact h.compute

theorem TorqueLaw.execStopTimeExpiry {s t : State} (h : TorqueLaw s) (he : execStopTimeExpiry s = .next t) :
    TorqueLaw t := by
  unfold Machine.execStopTimeExpiry at he
  split at he <;> obtain rfl := Host.Outcome.next.inj he
  · exact h
  · exact h.compute

theorem TorqueLaw.execStallTimerExpiry {s t : State} (h : TorqueLaw s) (he : execStallTimerExpiry s = .next t) :
    TorqueLaw t := by
  unfold Machine.execStallTimerExpiry at he
  split at he <;> obtain rfl := Host.Outcome.next.inj he
  · exact h
  · exact (h.of_same (t := { s with lim := { s.lim with stallTimer := .stopped } }) ⟨rfl, rfl, rfl⟩).deliverCause
      rfl _ _

theorem TorqueLaw.execSetpointTimerExpiry {s t : State} (h : TorqueLaw s)
    (he : execSetpointTimerExpiry s = .next t) : TorqueLaw t := by
  unfold Machine.execSetpointTimerExpiry at he
  split at he <;> obtain rfl := Host.Outcome.next.inj he
  · exact h
  · have hm : TorqueLaw (countSetpointMiss s) := h.of_same ⟨by simp, by simp [countSetpointMiss]; rfl, by simp⟩
    unfold checkSupLost
    split
    · exact (hm.of_same ⟨by simp, by simp; rfl, by simp⟩).deliverCause rfl _ _
    · exact hm

theorem TorqueLaw.execFeedbackTimerExpiry {m : Motor} {s t : State} (h : TorqueLaw s)
    (he : execFeedbackTimerExpiry m s = .next t) : TorqueLaw t := by
  unfold Machine.execFeedbackTimerExpiry at he
  split at he <;> obtain rfl := Host.Outcome.next.inj he
  · exact h
  · have hc : TorqueLaw (checkFbLost m (countFeedbackMiss m s)) := by
      unfold checkFbLost
      split
      · refine TorqueLaw.deliverCause (h.of_same ?_) rfl _ _
        exact .of_blocks
      · exact h.of_same .of_blocks
    split
    · exact hc.evaluateReady
    · exact hc

theorem TorqueLaw.execSilenceTimerExpiry {c : Fin 6} {s t : State} (h : TorqueLaw s)
    (he : execSilenceTimerExpiry c s = .next t) : TorqueLaw t := by
  unfold Machine.execSilenceTimerExpiry at he
  split at he <;> obtain rfl := Host.Outcome.next.inj he
  · exact h
  · unfold fallSilent
    split
    · exact h.of_same (sameTorque_setChannel c _ s)
    · exact h.of_same ((sameTorque_setChannel c _ s).trans (sameTorque_changeChannel c _ _ _ _))

/-- The ends of a pulse, of a position, of a post part and of store work leave the drive alone. -/
theorem TorqueLaw.execCompletions {s : State} (h : TorqueLaw s) :
    (∀ t, execPositionTimerExpiry s = .next t → TorqueLaw t)
      ∧ (∀ t, execPostLimitExpiry s = .next t → TorqueLaw t)
      ∧ (∀ t, execPulseTimerExpiry s = .next t → TorqueLaw t) ∧ (∀ t, execScanEnd s = .next t → TorqueLaw t)
      ∧ (∀ x t, execProgramCompletion x s = .next t → TorqueLaw t)
      ∧ (∀ x t, execEraseCompletion x s = .next t → TorqueLaw t)
      ∧ (∀ t, execBlankCheckCompletion s = .next t → TorqueLaw t) := by
  refine ⟨fun t he => ?_, fun t he => ?_, fun t he => ?_, fun t he => ?_, fun x t he => ?_, fun x t he => ?_,
    fun t he => ?_⟩ <;> refine h.of_same ?_
  · unfold execPositionTimerExpiry at he
    split at he <;> obtain rfl := Host.Outcome.next.inj he <;> exact .of_blocks
  · unfold execPostLimitExpiry at he
    split at he <;> obtain rfl := Host.Outcome.next.inj he <;> exact .of_blocks
  · unfold execPulseTimerExpiry at he
    split at he <;> obtain rfl := Host.Outcome.next.inj he <;> exact .of_blocks
  · unfold execScanEnd at he
    split at he <;> obtain rfl := Host.Outcome.next.inj he <;> exact .of_blocks
  · unfold execProgramCompletion at he
    split at he <;> obtain rfl := Host.Outcome.next.inj he <;> exact .of_blocks
  · unfold execEraseCompletion at he
    split at he <;> obtain rfl := Host.Outcome.next.inj he <;> exact .of_blocks
  · unfold execBlankCheckCompletion at he
    split at he <;> obtain rfl := Host.Outcome.next.inj he <;> exact .of_blocks

/-! ### Every command -/

/-- The law holds at every reset state (R188). -/
theorem torqueLaw_afterReset (nv : Vector NvBank 4) (k : Nat) (line : Bool) (q : List Instr) :
    TorqueLaw (State.afterReset nv k line q) :=
  reset_torqueLaw.of_same ⟨rfl, rfl, rfl⟩

/-- Every command keeps the law. -/
theorem TorqueLaw.exec {s t : State} (h : TorqueLaw s) (i : Instr) (he : exec i s = .next t) : TorqueLaw t := by
  obtain ⟨hpos, hpost, hpulse, hscan, hprog, herase, hblank⟩ := h.execCompletions
  cases hr : Laws.requestParts i with
  | some p =>
    obtain rfl := Host.Outcome.next.inj ((exec_request hr s).symm.trans he)
    exact h.serve p.1 p.2
  | none =>
    cases i with
    | setpoint seq mode flags q u => exact h.execSetpoint he
    | feedback m f => exact h.execFeedback he
    | vibSample c seq x => exact h.execVibSample he
    | position seq a => exact h.execPosition he
    | refusedFrame p bytes => exact h.execRefusedFrame he
    | hardwareReset =>
      obtain rfl := Host.Outcome.next.inj he
      exact torqueLaw_afterReset _ _ _ _
    | lockLineChange asserted =>
      obtain rfl := Host.Outcome.next.inj he
      exact h.of_same .of_blocks
    | brkTimeExpiry => exact h.execBrkTimeExpiry he
    | brkRestExpiry => exact h.execBrkRestExpiry he
    | stopTimeExpiry => exact h.execStopTimeExpiry he
    | stallTimerExpiry => exact h.execStallTimerExpiry he
    | setpointTimerExpiry => exact h.execSetpointTimerExpiry he
    | feedbackTimerExpiry m => exact h.execFeedbackTimerExpiry he
    | silenceTimerExpiry c => exact h.execSilenceTimerExpiry he
    | positionTimerExpiry => exact hpos t he
    | postLimitExpiry => exact hpost t he
    | pulseTimerExpiry => exact hpulse t he
    | scanEnd => exact hscan t he
    | programCompletion took => exact hprog took t he
    | eraseCompletion verified => exact herase verified t he
    | blankCheckCompletion => exact hblank t he
    | transmissionEnd =>
      obtain rfl := Host.Outcome.next.inj he
      exact h.of_same .of_blocks
    | vcmdTransmissionEnd m =>
      obtain rfl := Host.Outcome.next.inj he
      exact h.of_same .of_blocks
    | _ => simp [Laws.requestParts] at hr

/-- Settles O4: every computation establishes the law, and what does not compute leaves alone what it reads. -/
theorem stepKeepsTorqueLaw : Obligations.StepKeepsTorqueLaw := by
  intro s t h he
  unfold step at he
  split at he
  · obtain rfl := Host.Outcome.next.inj he
    exact h
  · next c rest _ => exact (h.of_same (t := s.withPending rest) .of_blocks).exec c he

end Sys2Proof.Machine

/-! O49: a setpoint is stored in every state, and the command, its shares, references, limits and stall watch follow
from what the tables and the derates allow. -/

namespace Sys2Proof.Machine

/-! ### What a computation leaves (R30 to R37, R41) -/

/-- A computation touches the torque limiter and the log alone (R28). -/
theorem compute_eq (s : State) : compute s = { s with lim := (compute s).lim, log := (compute s).log } := by
  apply State.ext_blocks <;> simp

/-- The command is the request within the limits in force in BREAKAWAY and RUN, and 0 else (R34). -/
theorem compute_tCmd_eq (s : State) :
    (compute s).lim.tCmd = if s.run.state = .breakaway ∨ s.run.state = .run then
      clamp (-(compute s).lim.stack.lRev) (compute s).lim.stack.lFwd s.lim.tReq else 0 := by
  rw [compute_lim]
  cases hs : s.run.state <;> simp [limiterAfter, torqueCommand, hs]

/-- A computation limits where it commands other than the request (R34). -/
theorem compute_limiting (s : State) :
    (compute s).lim.stack.limiting =
      ((s.run.state == .breakaway || s.run.state == .run) && (compute s).lim.tCmd != s.lim.tReq) := by
  rw [compute_lim]
  cases hs : s.run.state <;> simp [limiterAfter, isLimiting, hs]

/-- The first of the counting derates that holds the least, NONE at 4096 (R32). -/
theorem tightestOf_least (set : MotorSet) (v a b : Int) :
    tightestOf (leastDerate set v a b) (countingDerates set v a b) =
      if leastDerate set v a b = 4096 then .none
      else if v = leastDerate set v a b then .vib
      else if set.has .A = true ∧ a = leastDerate set v a b then .thermA
      else .thermB := by
  have hlast : ¬v = leastDerate set v a b → ¬(set.has .A = true ∧ a = leastDerate set v a b) →
      b = leastDerate set v a b := by
    cases set <;> simp only [leastDerate, MotorSet.has, true_and, Bool.false_eq_true, false_and] <;> omega
  have hfirst : set = .a → ¬v = leastDerate set v a b → a = leastDerate set v a b := by
    rintro rfl
    simp only [leastDerate]
    omega
  generalize leastDerate set v a b = d at hlast hfirst ⊢
  unfold tightestOf
  split
  · rfl
  · by_cases hv : v = d
    · cases set <;> simp [countingDerates, hv]
    · have hb := hlast hv
      cases set with
      | ab => by_cases ha : a = d <;> simp_all [countingDerates, MotorSet.has]
      | a => simp [countingDerates, MotorSet.has, hv, hfirst rfl hv]
      | b => simp [countingDerates, MotorSet.has, hv, hb (by simp [MotorSet.has])]

/-- The field that supplied the derate of a computation (R32). -/
theorem compute_tightest (s : State) :
    (compute s).lim.stack.tightest = if (compute s).lim.stack.derate = 4096 then .none
      else if s.lim.stack.vibDerate = (compute s).lim.stack.derate then .vib
      else if (motorSet s).has .A = true ∧ s.lim.stack.thermA = (compute s).lim.stack.derate then .thermA
      else .thermB := by
  rw [compute_derate, compute_lim]
  exact tightestOf_least _ _ _ _

/-- In BREAKAWAY both base limits are BRK_LIMIT (R30). -/
theorem compute_base_breakaway {s : State} (hs : s.run.state = .breakaway) {d : DriveTable}
    (hd : activeDrive s = some d) :
    (compute s).lim.stack.baseFwd = d.brkLimit ∧ (compute s).lim.stack.baseRev = d.brkLimit := by
  rw [compute_lim]
  simp [limiterAfter, stackOf, baseLimits, hs, driveFieldsOf_some hd]

/-- The reverse limit in force after a computation (R33). -/
theorem compute_lRev {s : State} {d : DriveTable} (hd : activeDrive s = some d) :
    (compute s).lim.stack.lRev =
      let l := ((compute s).lim.stack.baseRev * (compute s).lim.stack.derate).tdiv 4096
      if d.motorSet = .ab then l else min d.smCap l := by
  have hl : (compute s).lim.stack.lRev = limitInForce (compute s).lim.stack.baseRev (compute s).lim.stack.derate
      (singleMotorCap s) := by
    rw [compute_lim]; rfl
  by_cases hm : d.motorSet = .ab
  · simp [hl, limitInForce, singleMotorCap, hd, hm]
  · simp only [hl, limitInForce, singleMotorCap, hd, hm, if_false]
    split <;> omega

/-- The current references of a computation under a DRIVE table (R37). -/
theorem compute_iqRefs {s : State} {d : DriveTable} (hd : activeDrive s = some d) :
    (compute s).lim.iqRefA = clamp (-d.iqMax) d.iqMax (((compute s).lim.shareA * d.kti).tdiv 4096)
      ∧ (compute s).lim.iqRefB = clamp (-d.iqMax) d.iqMax (((compute s).lim.shareB * d.kti).tdiv 4096) := by
  rw [compute_lim]
  simp [limiterAfter, iqRef, hd, iqRefOf]

/-- The stall watch at the end of a computation under a DRIVE table (R41). -/
theorem compute_stallTimer {s : State} {d : DriveTable} (hd : activeDrive s = some d) :
    (compute s).lim.stallTimer =
      if s.run.state = .run
        ∧ ((compute s).lim.stack.lFwd < s.lim.tReq ∧ (compute s).lim.tCmd = (compute s).lim.stack.lFwd
          ∨ s.lim.tReq < -(compute s).lim.stack.lRev ∧ (compute s).lim.tCmd = -(compute s).lim.stack.lRev)
        ∧ |paceSpeed s| < d.stallSpeed then
        if s.lim.stallTimer = .stopped then .running d.stallTime else s.lim.stallTimer
      else .stopped := by
  let x : State := { s with lim := limiterAfter s }
  have hx : activeDrive x = some d := hd
  have hholds : stallHolds x = true ↔ s.run.state = .run
      ∧ (x.lim.stack.lFwd < s.lim.tReq ∧ x.lim.tCmd = x.lim.stack.lFwd
        ∨ s.lim.tReq < -x.lim.stack.lRev ∧ x.lim.tCmd = -x.lim.stack.lRev)
      ∧ |paceSpeed s| < d.stallSpeed := by
    simp only [stallHolds, driveFieldsOf_some hx, Bool.and_eq_true, Bool.or_eq_true, decide_eq_true_iff, beq_iff_eq,
      and_assoc, ← natCast_mag, Int.ofNat_lt]
    rfl
  have htimer : stallTimerAfter x =
      if stallHolds x = true then
        if s.lim.stallTimer = .stopped then .running d.stallTime else s.lim.stallTimer
      else .stopped := by
    have hl : x.lim.stallTimer = s.lim.stallTimer := rfl
    unfold stallTimerAfter
    rw [driveFieldsOf_some hx, hl]
    cases s.lim.stallTimer <;> simp
  rw [compute_lim]
  exact htimer.trans (if_congr hholds rfl rfl)

/-! ### What the hand-over of mode and EXT_TRIP keeps (R7, R29) -/

theorem TorqueLimiter.entering_eq (l : TorqueLimiter) (d : DriveState) :
    l.entering d = { l with otCount := (l.entering d).otCount } := by
  unfold TorqueLimiter.entering
  split <;> rfl

/-- From `s` to `t` the torque limiter keeps all but the overtorque count. -/
def LimiterKept (s t : State) : Prop := t.lim = { s.lim with otCount := t.lim.otCount }

namespace LimiterKept

theorem of_eq {s t : State} (h : t.lim = s.lim := by simp) : LimiterKept s t := by rw [LimiterKept, h]

theorem trans {s t u : State} (h : LimiterKept s t) (k : LimiterKept t u) : LimiterKept s u := by
  rw [LimiterKept, k, h]

end LimiterKept

theorem limiterKept_changeDrive (d : DriveState) (x : DriveReason) (s : State) :
    LimiterKept s (changeDrive d x s) := by
  rw [LimiterKept, changeDrive_lim]
  exact TorqueLimiter.entering_eq _ d

theorem limiterKept_beginAttempt (n : Nat) (x : DriveReason) (o : AttemptOrigin) (s : State) :
    LimiterKept s (beginAttempt n x o s) := by
  have h : (beginAttempt n x o s).lim = s.lim.entering .breakaway := by simp [beginAttempt]
  rw [LimiterKept, h]
  exact TorqueLimiter.entering_eq _ _

/-- A latch inside a setpoint leaves the computation to the setpoint (R28). -/
theorem limiterKept_actExtTrip (flag : Bool) (s : State) : LimiterKept s (actExtTrip flag s) := by
  unfold actExtTrip
  dsimp only
  split
  · cases s.trip.latch
    · rw [deliverCause_clear (by simp)]
      simp [LimiterKept, latchTrip_lim]
    · rw [deliverCause_latched (by simp)]
      exact .of_eq
  · exact .of_eq

theorem limiterKept_actStop (s : State) : LimiterKept s (actStop s) := by
  have hstop (x : State) : LimiterKept x (enterStopping x) := by
    have hd := limiterKept_changeDrive .stopping .stopTaken { x with run := { x.run with
      brkTimer := .stopped, restTimer := .stopped, stopTimer := .running (driveFieldsOf x).stopTime } }
    unfold enterStopping
    dsimp only
    split
    · exact hd.trans .of_eq
    · exact hd
  unfold actStop
  dsimp only
  split
  · exact hstop _
  · exact hstop _
  · exact hstop _
  all_goals exact .of_eq

theorem limiterKept_actRun (s : State) : LimiterKept s (actRun s) := by
  unfold actRun
  split
  · unfold runInReady
    (repeat' split)
    · exact limiterKept_changeDrive _ _ _
    · exact limiterKept_beginAttempt _ _ _ _
    · exact .of_eq
  · unfold runInStopping
    dsimp only
    split
    · exact limiterKept_changeDrive _ _ { s with run := { s.run with stopTimer := .stopped } }
    · exact limiterKept_beginAttempt _ _ _ { s with run := { s.run with stopTimer := .stopped } }
  all_goals exact .of_eq

/-- The hand-over is EXT_TRIP first, and then the mode, which reaches neither the trip nor the recorder, the regulators
nor the link (R7). -/
theorem handOver_blocks (flag run : Bool) (s : State) :
    LimiterKept s (handOver flag run s) ∧ (handOver flag run s).trip = (actExtTrip flag s).trip
      ∧ (handOver flag run s).recorder = (actExtTrip flag s).recorder
      ∧ (handOver flag run s).regA = (actExtTrip flag s).regA
      ∧ (handOver flag run s).regB = (actExtTrip flag s).regB
      ∧ (handOver flag run s).link = (actExtTrip flag s).link := by
  have h := limiterKept_actExtTrip flag s
  unfold handOver
  dsimp only
  split
  · exact ⟨h.trans (limiterKept_actRun _), by simp, by simp, by simp, by simp, by simp⟩
  · exact ⟨h.trans (limiterKept_actStop _), by simp, by simp, by simp, by simp, by simp⟩

/-- EXT_TRIP and its condition follow the flag (R7, R101). -/
theorem actExtTrip_conditions (flag : Bool) (s : State) :
    (actExtTrip flag s).trip.extTrip = flag
      ∧ (actExtTrip flag s).trip.active =
        if flag then addCondition ⟨.extTrip, .none⟩ s.trip.active
        else removeCondition ⟨.extTrip, .none⟩ s.trip.active := by
  unfold actExtTrip
  dsimp only
  cases flag <;> simp

/-- A delivery keeps the speeds and the receive references (R3). -/
theorem actExtTrip_keeps (flag : Bool) (s : State) :
    (∀ m, ((actExtTrip flag s).reg m).speed = (s.reg m).speed) ∧ (actExtTrip flag s).link.refS = s.link.refS := by
  have hset (m : Motor) (x : TripController) (on : Bool) :
      (setCondition ⟨.extTrip, .none⟩ on { s with trip := x }).reg m = s.reg m := by
    cases m <;> rfl
  unfold actExtTrip
  dsimp only
  split
  · refine ⟨fun m => ?_, ?_⟩
    · rw [deliverCause_reg, hset]
      split <;> simp
    · rw [deliverCause_link]
      split
      · rw [blockBoth_link_frame]
        simp
      · simp
  · exact ⟨fun m => by rw [hset], by simp⟩

/-! ### The setpoint (R28, R29) -/

/-- The state in which a setpoint computes. -/
def setpointActed (seq : Seq) (mode flags : Byte) (q : Word) (u : DWord) (s : State) : State :=
  handOver (flags.getLsbD 0) (mode == 1) (setpointStored seq q u s)

theorem exec_setpoint_acted (seq : Seq) (mode flags : Byte) (q : Word) (u : DWord) (s : State) :
    exec (.setpoint seq mode flags q u) s = .next (compute (setpointActed seq mode flags q u s)) := rfl

/-- What step 1 of a setpoint leaves in the torque limiter (R29). -/
theorem setpointStored_lim (seq : Seq) (q : Word) (u : DWord) (s : State) :
    (setpointStored seq q u s).lim = { s.lim with
      tReq := q.toInt, supTime := u, missCount := 0, supLost := false, spTimer := spTimerStart s } := by
  have ht : spTimerStart (acceptFrame .S 0 seq s) = spTimerStart s := by
    simp only [spTimerStart, activeDrive_congr (show (acceptFrame .S 0 seq s).tab = s.tab by simp)]
  simp [setpointStored, storeSetpoint, ht]

theorem setpointStored_active (seq : Seq) (q : Word) (u : DWord) (s : State) :
    (setpointStored seq q u s).trip.active = removeCondition ⟨.supLost, .none⟩ s.trip.active := by
  simp [setpointStored, storeSetpoint]

/-- The blocks of the state in which a setpoint computes. -/
theorem setpointActed_blocks (seq : Seq) (mode flags : Byte) (q : Word) (u : DWord) (s : State) :
    let a := setpointActed seq mode flags q u s
    LimiterKept (setpointStored seq q u s) a ∧ a.tab = s.tab ∧ a.vib = s.vib ∧ a.load = s.load ∧ a.store = s.store
      ∧ a.pending = s.pending ∧ paceSpeed a = paceSpeed s ∧ a.link.refS = some seq := by
  let x := setpointStored seq q u s
  obtain ⟨hlim, -, -, hA, hB, hlink⟩ := handOver_blocks (flags.getLsbD 0) (mode == 1) x
  obtain ⟨hspeed, href⟩ := actExtTrip_keeps (flags.getLsbD 0) x
  have htab : (setpointActed seq mode flags q u s).tab = s.tab := by simp [setpointActed]
  have hseq : x.link.refS = some seq := by
    have h : (acceptFrame .S 0 seq s).link.refS = some seq := acceptFrame_ref .S 0 seq s
    simpa [x] using h
  refine ⟨hlim, htab, by simp [setpointActed], by simp [setpointActed], by simp [setpointActed],
    by simp [setpointActed], paceSpeed_congr htab fun m => ?_, ?_⟩
  · have hm : (setpointActed seq mode flags q u s).reg m = (actExtTrip (flags.getLsbD 0) x).reg m :=
      State.reg_congr hA hB m
    rw [hm, hspeed]
    exact congrArg _ (State.reg_congr (by simp [x]) (by simp [x]) m)
  · exact (congrArg Link.refS hlink).trans (href.trans hseq)

/-- SUP_LOST ends with a setpoint, and EXT_TRIP follows its flag (R7, R29, R101). -/
theorem setpointActed_conditions (seq : Seq) (mode flags : Byte) (q : Word) (u : DWord) (s : State) :
    let a := setpointActed seq mode flags q u s
    a.trip.extTrip = flags.getLsbD 0 ∧ ⟨.supLost, .none⟩ ∉ a.trip.active
      ∧ (⟨.extTrip, .none⟩ ∈ a.trip.active ↔ flags.getLsbD 0 = true) := by
  obtain ⟨-, htrip, -⟩ := handOver_blocks (flags.getLsbD 0) (mode == 1) (setpointStored seq q u s)
  obtain ⟨hext, hactive⟩ := actExtTrip_conditions (flags.getLsbD 0) (setpointStored seq q u s)
  rw [setpointStored_active] at hactive
  dsimp only
  rw [setpointActed, htrip, hext, hactive]
  refine ⟨rfl, ?_, ?_⟩
  · split
    · rw [mem_addCondition _ (by decide), mem_removeCondition]
      simp
    · simp [mem_removeCondition]
  · split
    · next hf => exact iff_of_true ((mem_addCondition _ (by decide)).mpr (.inr rfl)) hf
    · next hf => exact iff_of_false (fun h => ((mem_removeCondition _).mp h).2 rfl) hf

/-- A setpoint without the flag touches no list, recorder or regulator (R29). -/
theorem setpointActed_unflagged {flags : Byte} (hf : flags.getLsbD 0 = false) (seq : Seq) (mode : Byte) (q : Word)
    (u : DWord) (s : State) :
    let a := setpointActed seq mode flags q u s
    a.trip.list = s.trip.list ∧ a.trip.latch = s.trip.latch ∧ a.recorder = s.recorder ∧ a.regA = s.regA
      ∧ a.regB = s.regB ∧ a.link = (acceptFrame .S 0 seq s).link := by
  obtain ⟨-, htrip, hrec, hA, hB, hlink⟩ := handOver_blocks (flags.getLsbD 0) (mode == 1) (setpointStored seq q u s)
  dsimp only
  rw [setpointActed, htrip, hrec, hA, hB, hlink, hf]
  simp [actExtTrip]

/-- A computation under a DRIVE table: the limits, the shares, the references and the stall watch (R30 to R37, R41). -/
theorem compute_underDrive {s : State} {d : DriveTable} (hd : activeDrive s = some d) :
    let t := compute s
    (s.run.state = .breakaway → t.lim.stack.baseFwd = d.brkLimit ∧ t.lim.stack.baseRev = d.brkLimit)
      ∧ (d.motorSet = .ab →
          t.lim.stack.lFwd = (t.lim.stack.baseFwd * t.lim.stack.derate).tdiv 4096
          ∧ t.lim.stack.lRev = (t.lim.stack.baseRev * t.lim.stack.derate).tdiv 4096
          ∧ t.lim.shareA = (t.lim.tCmd * d.shareA).tdiv 4096)
      ∧ (d.motorSet ≠ .ab →
          t.lim.stack.lFwd = min d.smCap ((t.lim.stack.baseFwd * t.lim.stack.derate).tdiv 4096)
          ∧ t.lim.stack.lRev = min d.smCap ((t.lim.stack.baseRev * t.lim.stack.derate).tdiv 4096))
      ∧ (d.motorSet = .a → t.lim.shareB = 0) ∧ (d.motorSet = .b → t.lim.shareA = 0)
      ∧ t.lim.shareA + t.lim.shareB = t.lim.tCmd := by
  have hF := compute_lFwd hd
  have hR := compute_lRev hd
  obtain ⟨hA, hB⟩ := compute_shares hd
  refine ⟨fun hs => compute_base_breakaway hs hd, fun hm => ?_, fun hm => ?_, fun hm => ?_, fun hm => ?_, ?_⟩
  · exact ⟨by simpa [hm] using hF, by simpa [hm] using hR, by rw [hA, hm]; rfl⟩
  · exact ⟨by simpa [hm] using hF, by simpa [hm] using hR⟩
  · rw [hB, hm]; rfl
  · rw [hA, hm]; rfl
  · rw [hA, hB, sharesOf_sum]

/-- Settles O49: the hand-over keeps what step 1 stored, and the computation follows from it. -/
theorem setpointIsStoredAndComputed : Obligations.SetpointIsStoredAndComputed := by
  unfold Obligations.SetpointIsStoredAndComputed
  intro seq mode flags q u s acted
  obtain ⟨hlim, htab, hvib, hload, hstore, hpending, hspeed, href⟩ := setpointActed_blocks seq mode flags q u s
  obtain ⟨hext, hsup, hcond⟩ := setpointActed_conditions seq mode flags q u s
  change acted.tab = s.tab at htab
  change LimiterKept _ acted at hlim
  change paceSpeed acted = paceSpeed s at hspeed
  rw [LimiterKept, setpointStored_lim] at hlim
  have hdrive : activeDrive acted = activeDrive s := activeDrive_congr htab
  have hset : motorSet acted = motorSet s := motorSet_congr htab
  have hreq : acted.lim.tReq = q.toInt := by rw [hlim]
  have hstall : acted.lim.stallTimer = s.lim.stallTimer := by rw [hlim]
  have hstack : acted.lim.stack = s.lim.stack := by rw [hlim]
  obtain ⟨htReq, hsupTime, -, -, hmiss, hsp, hlost, hvd, hthA, hthB⟩ := compute_lim_kept acted
  have hderate := compute_derate acted
  have htightest := compute_tightest acted
  rw [hset, hstack] at hderate htightest
  refine ⟨compute acted, exec_setpoint_acted seq mode flags q u s, compute_eq acted, (sameLog_compute acted).log, ?_⟩
  simp only [compute_frame]
  refine ⟨htReq.trans hreq, hsupTime.trans (by rw [hlim]), hmiss.trans (by rw [hlim]), hlost.trans (by rw [hlim]),
    hsp.trans (by rw [hlim]; rfl), hext, hsup, hcond, href, ?_, ?_, hderate, htightest, compute_stallTimer_stopped,
    fun hs l hl => ?_, fun d hd => ?_, hvib, hload, hstore, htab, hpending, by rw [hvd, hstack], by rw [hthA, hstack],
    by rw [hthB, hstack], fun hf => setpointActed_unflagged hf seq mode q u s⟩
  · rw [← hreq]
    exact compute_tCmd_eq acted
  · rw [← hreq]
    exact compute_limiting acted
  · rw [← hspeed]
    exact compute_base hs (by simpa [activeLimit, htab] using hl)
  · have hd' : activeDrive acted = some d := hdrive.trans hd
    obtain ⟨hbrk, hab, hcap, ha, hb, hsum⟩ := compute_underDrive hd'
    obtain ⟨hA, hB⟩ := compute_iqRefs hd'
    have htimer := compute_stallTimer hd'
    rw [hreq, hstall, hspeed] at htimer
    exact ⟨hbrk, hab, hcap, ha, hb, hsum, hA, hB, htimer⟩

end Sys2Proof.Machine

/-! O56: a pace arrival watches and gathers the torque, records its snapshot and reports. -/

namespace Sys2Proof.Machine

/-! ### What the steps before the pace work leave it (R52) -/

/-- The part of the link that a report and its pattern work on (R182, R183). -/
def Link.reporting (l : Link) := (l.slot, l.sTx, l.outS, l.skipped, l.reportPhase, l.remaining)

theorem Link.reporting_sendVcmd (l : Link) (m : Motor) (v : Vcmd) : (l.sendVcmd m v).reporting = l.reporting := by
  rw [Link.sendVcmd_frame]
  rfl

theorem reporting_blockBoth (own : Option Motor) (s : State) :
    (blockBoth own s).link.reporting = s.link.reporting := by
  rw [blockBoth_link_frame]
  rfl

theorem reporting_deliverCause (d : Delivery) (c : CauseId) (v : DWord) (s : State) :
    (deliverCause d c v s).link.reporting = s.link.reporting := by
  rw [deliverCause_link]
  split
  · exact reporting_blockBoth _ _
  · rfl

theorem reporting_acceptFeedback (m : Motor) (q : Seq) (s : State) :
    (acceptFeedback m q s).link.reporting = s.link.reporting := by
  have hphase (x : State) : (acceptFrame (portOf m) 0 q x).link.reportPhase = x.link.reportPhase
      ∧ (acceptFrame (portOf m) 0 q x).link.remaining = x.link.remaining
      ∧ (acceptFrame (portOf m) 0 q x).link.skipped = x.link.skipped := by
    unfold acceptFrame
    dsimp only
    split <;> cases m <;> exact ⟨rfl, rfl, rfl⟩
  rw [acceptFeedback_eq]
  simp [Link.reporting, hphase]

/-- What the pace work finds as the arrival found it; an ARMED recorder may have been triggered meanwhile (R116). -/
structure PaceKeeps (s t : State) : Prop where
  reporting : t.link.reporting = s.link.reporting
  load : t.load = s.load
  store : t.store = s.store
  recorder : t.recorder = s.recorder ∨ s.recorder.state = .armed ∧ t.recorder.state = .post

namespace PaceKeeps

variable {s t u : State}

theorem of_frame (link : t.link.reporting = s.link.reporting) (load : t.load = s.load := by simp)
    (store : t.store = s.store := by simp) (recorder : t.recorder = s.recorder := by simp) : PaceKeeps s t :=
  ⟨link, load, store, .inl recorder⟩

theorem refl (s : State) : PaceKeeps s s := .of_frame rfl rfl rfl rfl

theorem trans (h : PaceKeeps s t) (k : PaceKeeps t u) : PaceKeeps s u where
  reporting := k.reporting.trans h.reporting
  load := k.load.trans h.load
  store := k.store.trans h.store
  recorder := by
    obtain hr | ⟨ha, hp⟩ := h.recorder
    · rw [← hr]
      exact k.recorder
    · refine .inr ⟨ha, ?_⟩
      obtain hr | ⟨ha', -⟩ := k.recorder
      · rw [hr, hp]
      · exact absurd (hp.symm.trans ha') (by decide)

end PaceKeeps

theorem paceKeeps_deliverCause (d : Delivery) (c : CauseId) (v : DWord) (s : State) :
    PaceKeeps s (deliverCause d c v s) where
  reporting := reporting_deliverCause d c v s
  load := by simp
  store := by simp
  recorder := by
    cases hl : s.trip.latch
    · rw [deliverCause_clear hl, latchTrip_recorder]
      split
      · next ha => exact .inr ⟨ha, rfl⟩
      · exact .inl rfl
    · rw [deliverCause_latched hl]
      exact .inl (by simp)

theorem paceKeeps_judgeOvertemp (m : Motor) (s : State) : PaceKeeps s (judgeOvertemp m s) := by
  have hset (on : Bool) : PaceKeeps s (setOvertemp m on s) := .of_frame (by simp)
  by_cases hh : inDriveSet s m = true ∧ (driveFieldsOf s).thermEnd ≤ (s.reg m).temp
  · rw [judgeOvertemp_hot hh.1 hh.2]
    exact (hset true).trans (paceKeeps_deliverCause _ _ _ _)
  · obtain he | he := judgeOvertemp_cool hh <;> rw [he]
    · exact .refl s
    · exact hset false

theorem paceKeeps_judgeModFault (m : Motor) (s : State) : PaceKeeps s (judgeModFault m s) := by
  have hset (on : Bool) : PaceKeeps s (setModFault m on s) := .of_frame (by simp)
  by_cases hf : inDriveSet s m = true ∧ (s.reg m).modState = .fault
  · rw [judgeModFault_fault hf.1 hf.2]
    exact (hset true).trans (paceKeeps_deliverCause _ _ _ _)
  · obtain he | he := judgeModFault_sound hf <;> rw [he]
    · exact .refl s
    · exact hset false

theorem paceKeeps_runAtArrival (m : Motor) (s : State) : PaceKeeps s (runAtArrival m s) := by
  refine .of_frame ?_
  unfold runAtArrival
  (repeat' split) <;> simp [endStop_link, reporting_blockBoth]

/-- The steps before the torque limiter's. -/
theorem paceKeeps_start (m : Motor) (f : FeedbackFrame) (s : State) : PaceKeeps s (arrivalStart m f s) := by
  have htaken : PaceKeeps s (arrivalTaken m f s) := .of_frame (by simp [reporting_acceptFeedback])
  exact ((htaken.trans (paceKeeps_judgeOvertemp m _)).trans (paceKeeps_judgeModFault m _)).trans
    (paceKeeps_runAtArrival m _)

theorem paceKeeps_torqueAtArrival (m : Motor) (s : State) : PaceKeeps s (torqueAtArrival m s) := by
  obtain ⟨n, ht | ht⟩ := torqueAtArrival_cases m s <;> rw [ht]
  · exact .of_frame rfl rfl rfl rfl
  · exact .trans (.of_frame (t := torqueFormed n s) rfl rfl rfl rfl) (paceKeeps_deliverCause _ _ _ _)

theorem paceKeeps_answerFrame (m : Motor) (s : State) : PaceKeeps s (answerFrame m s) := by
  refine .of_frame ?_
  unfold answerFrame
  split
  · simp [answerWorking, sendVcmd, Link.reporting_sendVcmd]
  · rw [sendBlocking_link, Link.reporting_sendVcmd]

/-- The steps before the pace work. -/
theorem paceKeeps_answered (m : Motor) (f : FeedbackFrame) (s : State) :
    PaceKeeps s (answerFrame m (arrivalTorque m f s)) := by
  refine ((paceKeeps_start m f s).trans ?_).trans (paceKeeps_answerFrame m _)
  unfold arrivalTorque
  split
  · exact paceKeeps_torqueAtArrival m _
  · exact .refl _

/-! ### An offered record (R119, R120, R133, R140) -/

/-- What the selection for a new record ends in: a miss at once where the numbers are exhausted (R132, R133). -/
def newSelection (s : State) : Selection :=
  if s.store.nextNumber = 0 then .miss else s.store.select (storeMode s)

/-- A new record goes where its selection ends (R136 to R139). -/
def placeNew (x : Selection) (s : State) : State :=
  match x with
  | .slot b k => acceptNew b k s
  | .wait => s
  | .queueErase b => { s with store := s.store.join b }
  | .queueOverwrite b => queueOverwrite b s
  | .miss => missNew s

theorem takeOffer_new {s : State} (h : s.store.offer = .newRecord) : takeOffer s = placeNew (newSelection s) s := by
  simp only [takeOffer, h, newSelection]
  split
  · rfl
  · cases s.store.select (storeMode s) <;> rfl

/-- The store tells the recorder of a slot and of a miss, with the number (R120, R121). -/
theorem placeNew_recorder (x : Selection) (s : State) :
    (placeNew x s).recorder = match x with
      | .slot _ _ => s.recorder.numbered s.store.nextNumber .writing
      | .wait | .queueErase _ | .queueOverwrite _ => s.recorder
      | .miss => s.recorder.numbered s.store.missNumber .done := by
  cases x <;> simp [placeNew, acceptNew, missNew, countMiss]

/-- The records of an offer read the store, the tables and what every event reads. -/
theorem SameLog.placeNew {s t : State} (h : SameLog s t) (hs : s.store = t.store) (x : Selection) :
    SameLog (placeNew x s) (placeNew x t) := by
  have hstore (a b : TripStore) : SameLog { s with store := a } { t with store := b } :=
    ⟨h.log, h.table, h.inputs, h.pace⟩
  cases x with
  | slot b k => exact ⟨h.log, h.table, h.inputs, h.pace⟩
  | wait => exact h
  | queueErase b => exact hstore _ _
  | queueOverwrite b =>
    rw [Machine.placeNew, Machine.placeNew, queueOverwrite, queueOverwrite, hs]
    exact (hstore _ _).raise _ _ _ _ _
  | miss =>
    have hmiss : SameLog (countMiss s.store.missNumber { s with store := s.store.consumeForMiss })
        (countMiss t.store.missNumber { t with store := t.store.consumeForMiss }) := by
      rw [countMiss, countMiss, hs]
      exact ((hstore _ _).raise _ _ _ _ _).raise _ _ _ _ _
    exact ⟨hmiss.log, hmiss.table, hmiss.inputs, hmiss.pace⟩

/-- Choosing work leaves the offer alone (R140). -/
theorem TripStore.chooseWork_offer (t : TripStore) : t.chooseWork.offer = t.offer := by
  have hhead (b : Fin 4) (rest : List (Fin 4)) : (t.takeHead b rest).offer = t.offer := by
    unfold TripStore.takeHead
    (repeat' split) <;> rfl
  unfold TripStore.chooseWork
  (repeat' split)
  · rfl
  · exact hhead _ _
  all_goals rfl

/-- The state in which a record is offered: the recorder FROZEN with its record, the offer pending (R119, R120). -/
def frozenAt (reason : PostReason) (s : State) : State :=
  { s with
    recorder := { s.recorder with
      state := .frozen, postTimer := .stopped, ramRecord := some (assembleRecord reason s) }
    store := { s.store with offer := .newRecord } }

theorem chooseWork_recorder (s : State) : (chooseWork s).recorder = s.recorder := rfl

/-- An idle or erasing store takes the offer at once (R133). -/
theorem freeze_taken {s : State} (h : s.store.activity = .idle ∨ s.store.activity = .erasing) (reason : PostReason) :
    freeze reason s = chooseWork (takeOffer (frozenAt reason s)) := by
  obtain h | h := h <;> simp [freeze, offerRecord, h, frozenAt]

/-- In any other activity the offer waits (R133). -/
theorem freeze_waits {s : State} (hi : s.store.activity ≠ .idle) (he : s.store.activity ≠ .erasing)
    (reason : PostReason) : freeze reason s = frozenAt reason s := by
  cases h : s.store.activity <;> simp_all [freeze, offerRecord, frozenAt]

theorem newSelection_frozenAt (reason : PostReason) (s : State) :
    newSelection (frozenAt reason s) = newSelection s := rfl

/-- A freeze keeps the record it assembles; the store's number and state are all that an offer adds. -/
theorem freeze_recorder (reason : PostReason) (s : State) : ∃ n d, d ≠ .armed ∧
    (freeze reason s).recorder = { s.recorder with
      state := d, postTimer := .stopped, ramRecord := some { assembleRecord reason s with tripNumber := n } } := by
  by_cases h : s.store.activity = .idle ∨ s.store.activity = .erasing
  · rw [freeze_taken h, takeOffer_new rfl, chooseWork_recorder, placeNew_recorder]
    split
    · exact ⟨_, .writing, by decide, rfl⟩
    · exact ⟨0, .frozen, by decide, rfl⟩
    · exact ⟨0, .frozen, by decide, rfl⟩
    · exact ⟨0, .frozen, by decide, rfl⟩
    · exact ⟨_, .done, by decide, rfl⟩
  · rw [not_or] at h
    rw [freeze_waits h.1 h.2]
    exact ⟨0, .frozen, by decide, rfl⟩

/-- What the selection leaves of an offer taken at once (R136 to R141). -/
theorem freeze_placed {s : State} (h : s.store.activity = .idle ∨ s.store.activity = .erasing) (reason : PostReason) :
    match newSelection s with
    | .slot _ _ =>
      (freeze reason s).recorder.state = .writing ∧ (freeze reason s).store.activity = .programming
    | .wait | .queueErase _ | .queueOverwrite _ =>
      (freeze reason s).recorder.state = .frozen ∧ (freeze reason s).store.offer = .newRecord
    | .miss => (freeze reason s).recorder.state = .done ∧ (freeze reason s).store.offer = .none := by
  rw [freeze_taken h, takeOffer_new rfl, newSelection_frozenAt]
  simp only [chooseWork_recorder, placeNew_recorder]
  have hoffer (x : State) : (chooseWork x).store.offer = x.store.offer := TripStore.chooseWork_offer x.store
  cases newSelection s with
  | slot b k => exact ⟨rfl, rfl⟩
  | wait => exact ⟨rfl, hoffer _⟩
  | queueErase b =>
    refine ⟨rfl, (hoffer _).trans ?_⟩
    simp only [placeNew, TripStore.join]
    split <;> rfl
  | queueOverwrite b =>
    refine ⟨rfl, (hoffer _).trans ?_⟩
    simp only [placeNew, queueOverwrite, TripStore.join]
    split <;> rfl
  | miss => exact ⟨rfl, (hoffer _).trans (by simp [placeNew, missNew, countMiss])⟩

/-! ### The snapshot of a pace arrival (R114 to R117) -/

/-- The recorder with a snapshot appended in its post part. -/
def postAppended (s : State) : State :=
  { s with recorder := { s.recorder with
      ring := appendSnapshot (snapshot s) s.recorder.ring, postCount := s.recorder.postCount + 1 } }

theorem postAppended_frame (s : State) :
    (postAppended s).store = s.store ∧ (postAppended s).tab = s.tab ∧ (postAppended s).log = s.log
      ∧ (postAppended s).trip = s.trip := by
  simp [postAppended]

theorem takeSnapshot_armed {s : State} (h : s.recorder.state = .armed) :
    takeSnapshot s = { s with recorder := { s.recorder with
      ring := appendSnapshot (snapshot s) s.recorder.ring } } := by
  simp [takeSnapshot, h]

theorem takeSnapshot_post {s : State} (h : s.recorder.state = .post) :
    takeSnapshot s = if s.recorder.postTarget ≤ s.recorder.postCount + 1 then freeze .target (postAppended s)
      else postAppended s := by
  simp [takeSnapshot, h, postAppended]

theorem takeSnapshot_closed {s : State}
    (h : s.recorder.state = .frozen ∨ s.recorder.state = .writing ∨ s.recorder.state = .done) :
    takeSnapshot s = s := by
  obtain h | h | h := h <;> simp [takeSnapshot, h]

/-- Only an ARMED recorder is ARMED after it. -/
theorem takeSnapshot_armed_back {s : State} (h : (takeSnapshot s).recorder.state = .armed) :
    s.recorder.state = .armed := by
  cases hs : s.recorder.state
  case armed => rfl
  case post =>
    rw [takeSnapshot_post hs] at h
    split at h
    · obtain ⟨n, d, hd, hr⟩ := freeze_recorder .target (postAppended s)
      rw [hr] at h
      exact absurd h hd
    · simp [postAppended, hs] at h
  all_goals
    rw [takeSnapshot_closed (by simp [hs]), hs] at h
    exact absurd h (by decide)

/-- In the post part the snapshot is appended, at the target and below it. -/
theorem takeSnapshot_post_ring {s : State} (h : s.recorder.state = .post) :
    (takeSnapshot s).recorder.ring = appendSnapshot (snapshot s) s.recorder.ring := by
  rw [takeSnapshot_post h]
  split
  · obtain ⟨n, d, -, hr⟩ := freeze_recorder .target (postAppended s)
    rw [hr]
    rfl
  · rfl

/-! ### The report of a pace arrival (R182, R183) -/

theorem reportPattern_congr {s t : State} (h : s.tab = t.tab) : reportPattern s = reportPattern t := by
  simp only [reportPattern, activeDrive_congr h]

theorem Link.reporting_inj {k l : Link} (h : k.reporting = l.reporting) :
    k.slot = l.slot ∧ k.sTx = l.sTx ∧ k.outS = l.outS ∧ k.skipped = l.skipped ∧ k.reportPhase = l.reportPhase
      ∧ k.remaining = l.remaining := by
  simpa [Link.reporting] using h

/-- The pattern's advance writes its phase and the arrivals that remain in it. -/
theorem Link.advancePattern_kept (l : Link) (pass mask : Nat) :
    l.advancePattern pass mask = { l with
      reportPhase := (l.advancePattern pass mask).reportPhase
      remaining := (l.advancePattern pass mask).remaining } := by
  unfold Link.advancePattern
  (repeat' split) <;> rfl

theorem Link.advancePattern_phase (l : Link) (pass mask : Nat) :
    ((l.advancePattern pass mask).reportPhase, (l.advancePattern pass mask).remaining) =
      if pass = 0 ∧ mask = 0 then (l.reportPhase, l.remaining)
      else if l.reportPhase = .pass then
        if 1 < l.remaining then (.pass, l.remaining - 1) else if 0 < mask then (.mask, mask) else (.pass, pass)
      else if 1 < l.remaining then (.mask, l.remaining - 1) else (.pass, pass) := by
  have hlast : l.remaining ≤ 1 ↔ ¬1 < l.remaining := Nat.not_lt.symm
  unfold Link.advancePattern
  split
  · rfl
  · cases hp : l.reportPhase with
    | pass =>
      by_cases hr : 1 < l.remaining
      · simp [hlast, hr]
      · by_cases hm : 0 < mask <;> simp [hlast, hr, hm]
    | mask => by_cases hr : 1 < l.remaining <;> simp [hlast, hr]

/-- A report leaves the link but for what it sends and counts. -/
theorem sendReport_sent {s : State} (hslot : s.link.slot = none) (hidle : s.link.sTx = .idle) :
    sendReport s = { s with link := { s.link with
      sTx := .report s.link.outS (reportOf s), outS := s.link.outS + 1, skipped := 0 } } := by
  simp [sendReport, hslot, hidle]

theorem sendReport_skipped {s : State} (h : s.link.slot ≠ none ∨ s.link.sTx ≠ .idle) :
    sendReport s = { s with link := { s.link with skipped := min (s.link.skipped + 1) 65535 } } := by
  unfold sendReport
  split
  · next hslot hidle => simp [hslot, hidle] at h
  · rfl

theorem reportAtArrival_link (s : State) :
    (reportAtArrival s).link = (if reportDue s then sendReport s else s).link.advancePattern (reportPattern s).1
      (reportPattern s).2 := rfl

theorem sendReport_phase (s : State) :
    (sendReport s).link.reportPhase = s.link.reportPhase ∧ (sendReport s).link.remaining = s.link.remaining := by
  unfold sendReport
  split <;> exact ⟨rfl, rfl⟩

/-! ### The end of a pace arrival (R52, step 5) -/

/-- The answered arrival with its torque gathered, at which the snapshot is taken (R93, R114). -/
def arrivalGathered (m : Motor) (f : FeedbackFrame) (s : State) : State :=
  if energised (arrivalStart m f s) then gatherTorque (answerFrame m (arrivalTorque m f s))
  else answerFrame m (arrivalTorque m f s)

/-- The arrival with its snapshot taken, at which a report is due or not (R182). -/
def arrivalSnapped (m : Motor) (f : FeedbackFrame) (s : State) : State := takeSnapshot (arrivalGathered m f s)

section

variable {m : Motor} {f : FeedbackFrame} {s : State}

theorem isPace_of_eq (hm : m = paceMotor s) : isPace m s = true := by simp [isPace, ← hm]

theorem arrivalEnd_pace (hm : m = paceMotor s) : arrivalEnd m f s = reportAtArrival (arrivalSnapped m f s) := by
  simp [arrivalEnd, isPace_of_eq hm, paceWork, arrivalSnapped, arrivalGathered]

theorem arrivalTorque_pace (hm : m = paceMotor s) : arrivalTorque m f s =
    if energised (arrivalStart m f s) = true then torqueAtArrival m (arrivalStart m f s) else arrivalStart m f s := by
  simp [arrivalTorque, isPace_of_eq hm]

/-- What gathering leaves of the answered arrival. -/
theorem arrivalGathered_kept (m : Motor) (f : FeedbackFrame) (s : State) :
    arrivalGathered m f s
      = { answerFrame m (arrivalTorque m f s) with load := (arrivalGathered m f s).load } := by
  unfold arrivalGathered
  split <;> rfl

/-- The recorder and the store come to the snapshot as the arrival found them, but for a trigger of the arrival. -/
theorem arrivalGathered_recorder (m : Motor) (f : FeedbackFrame) (s : State) :
    ((arrivalGathered m f s).recorder = s.recorder
      ∨ s.recorder.state = .armed ∧ (arrivalGathered m f s).recorder.state = .post)
      ∧ (arrivalGathered m f s).store = s.store := by
  have h := paceKeeps_answered m f s
  rw [arrivalGathered_kept]
  exact ⟨h.recorder, h.store⟩

theorem arrivalSnapped_reporting (m : Motor) (f : FeedbackFrame) (s : State) :
    (arrivalSnapped m f s).link.reporting = s.link.reporting := by
  have hlink : (arrivalSnapped m f s).link = (arrivalGathered m f s).link := by simp [arrivalSnapped]
  rw [hlink, arrivalGathered_kept]
  exact (paceKeeps_answered m f s).reporting

theorem arrivalEnd_tab (m : Motor) (f : FeedbackFrame) (s : State) : (arrivalEnd m f s).tab = s.tab := by
  obtain ⟨-, -, -, -, -, -, -, -, -, -, htab, -⟩ := arrivalEnd_holds m f s
  exact htab

/-- The arrival is counted before anything else of it (R181). -/
theorem arrivalEnd_paceCount (hm : m = paceMotor s) : (arrivalEnd m f s).link.paceCount = s.link.paceCount + 1 := by
  obtain ⟨-, -, -, -, -, -, -, hpace, -⟩ := arrivalEnd_holds m f s
  rw [hpace, if_pos hm]

/-- What a report and a snapshot read stands at the end of the arrival as it stood for them. -/
theorem arrivalEnd_read (hm : m = paceMotor s) :
    let t := arrivalEnd m f s
    let p := arrivalSnapped m f s
    let g := arrivalGathered m f s
    (t.run = p.run ∧ t.trip = p.trip ∧ t.vib = p.vib ∧ t.load = p.load ∧ t.store = p.store ∧ t.log = p.log
        ∧ t.recorder = p.recorder ∧ t.lim = p.lim ∧ t.regA = p.regA ∧ t.regB = p.regB ∧ t.tab = p.tab)
      ∧ t.lim = g.lim ∧ t.regA = g.regA ∧ t.regB = g.regB ∧ t.tab = g.tab ∧ t.trip = g.trip
      ∧ t.load = g.load ∧ t.link.paceCount = g.link.paceCount := by
  dsimp only
  rw [arrivalEnd_pace hm]
  simp [arrivalSnapped, (reportAtArrival_kept _).1]

/-- The speed a snapshot and a report carry is that of the frame (R114, R182). -/
theorem paceSpeed_read (hm : m = paceMotor s) {p : State} (hA : p.regA = (arrivalEnd m f s).regA)
    (hB : p.regB = (arrivalEnd m f s).regB) (ht : p.tab = (arrivalEnd m f s).tab) : paceSpeed p = f.speed.toInt := by
  rw [paceSpeed, paceMotor_congr (ht.trans (arrivalEnd_tab m f s)), ← hm, State.reg_congr hA hB, arrivalEnd_speed]

/-- The snapshot of a pace arrival, by the arrival's end (R114). -/
theorem arrivalGathered_snapshot (hm : m = paceMotor s) :
    let t := arrivalEnd m f s
    snapshot (arrivalGathered m f s) = {
      pace := (s.link.paceCount + 1).setWidth 16, speed := f.speed.toInt, tCmd := t.lim.tCmd
      lFwd := t.lim.stack.lFwd, iqA := t.regA.iqMeas, iqB := t.regB.iqMeas, vqA := t.regA.vqLast
      vqB := t.regB.vqLast } := by
  obtain ⟨-, hlim, hA, hB, htab, -, -, hpace⟩ := arrivalEnd_read (f := f) hm
  dsimp only
  rw [snapshot, paceSpeed_read hm hA.symm hB.symm htab.symm, ← hpace, arrivalEnd_paceCount hm, ← hlim, ← hA,
    ← hB, ← BitVec.setWidth_eq_extractLsb' (by decide)]

/-- The report of a pace arrival is due as its pattern stood before it (R182). -/
theorem arrivalSnapped_due (hm : m = paceMotor s) :
    reportPattern (arrivalSnapped m f s) = reportPattern s ∧ reportDue (arrivalSnapped m f s) = reportDue s := by
  obtain ⟨-, -, -, -, hphase, -⟩ := Link.reporting_inj (arrivalSnapped_reporting m f s)
  obtain ⟨⟨-, -, -, -, -, -, -, -, -, -, htab⟩, -⟩ := arrivalEnd_read (f := f) hm
  have htab' : (arrivalSnapped m f s).tab = s.tab := htab.symm.trans (arrivalEnd_tab m f s)
  rw [reportDue, reportDue, reportPattern_congr htab', hphase]
  exact ⟨rfl, rfl⟩

/-- The pattern advances by one arrival, report or not (R182). -/
theorem arrivalEnd_phase (hm : m = paceMotor s) {pass mask : Nat} (hp : reportPattern s = (pass, mask)) :
    ((arrivalEnd m f s).link.reportPhase, (arrivalEnd m f s).link.remaining) =
      if pass = 0 ∧ mask = 0 then (s.link.reportPhase, s.link.remaining)
      else if s.link.reportPhase = .pass then
        if 1 < s.link.remaining then (.pass, s.link.remaining - 1)
        else if 0 < mask then (.mask, mask) else (.pass, pass)
      else if 1 < s.link.remaining then (.mask, s.link.remaining - 1) else (.pass, pass) := by
  obtain ⟨-, -, -, -, hphase, hremaining⟩ := Link.reporting_inj (arrivalSnapped_reporting m f s)
  obtain ⟨hsent, hleft⟩ := sendReport_phase (arrivalSnapped m f s)
  have hkept (b : Bool) : (if b then sendReport (arrivalSnapped m f s) else arrivalSnapped m f s).link.reportPhase
        = s.link.reportPhase
      ∧ (if b then sendReport (arrivalSnapped m f s) else arrivalSnapped m f s).link.remaining
        = s.link.remaining := by
    cases b
    · exact ⟨hphase, hremaining⟩
    · exact ⟨hsent.trans hphase, hleft.trans hremaining⟩
  rw [arrivalEnd_pace hm, reportAtArrival_link, Link.advancePattern_phase, (arrivalSnapped_due hm).1, hp,
    (hkept _).1, (hkept _).2]

/-- The link at the end of a pace arrival, but for the pattern: a report sent, skipped or not due (R182, R183). -/
theorem arrivalEnd_link (hm : m = paceMotor s) :
    let p := arrivalSnapped m f s
    let q := if reportDue s = true then sendReport p else p
    let t := arrivalEnd m f s
    t.link = { q.link with reportPhase := t.link.reportPhase, remaining := t.link.remaining } := by
  dsimp only
  rw [arrivalEnd_pace hm, reportAtArrival_link, (arrivalSnapped_due hm).2]
  exact Link.advancePattern_kept _ _ _

/-- A due report on an idle transmitter with an empty slot carries the blocks as the arrival leaves them (R182). -/
theorem arrivalEnd_reports (hm : m = paceMotor s) (hd : reportDue s = true) (hslot : s.link.slot = none)
    (hidle : s.link.sTx = .idle) :
    let t := arrivalEnd m f s
    t.link.skipped = 0 ∧ t.link.outS = s.link.outS + 1 ∧ t.link.sTx = .report s.link.outS {
      drive := t.run.state, trip := t.trip.latch
      firstCause := if t.trip.latch then t.trip.list.head?.map fun e => e.id else none
      tCmd := t.lim.tCmd, lFwd := t.lim.stack.lFwd, lRev := t.lim.stack.lRev, iqA := t.regA.iqMeas
      iqB := t.regB.iqMeas, speed := f.speed.toInt
      channels := Vector.ofFn fun c : Fin 6 => t.vib.channels[c].state, ecc := t.load.ecc
      eccValid := t.load.eccValid, ringAlert := t.load.ringAlert, fill := t.log.ring.length
      activity := t.store.activity, busy := t.store.busy, sticky := stickyFlags t, skipped := s.link.skipped } := by
  obtain ⟨hslot', hsTx, houtS, hskipped, -, -⟩ := Link.reporting_inj (arrivalSnapped_reporting m f s)
  obtain ⟨⟨hrun, htrip, hvib, hload, hstore, hlog, -, hlim, hA, hB, htab⟩, -⟩ := arrivalEnd_read (f := f) hm
  have hlink := arrivalEnd_link (f := f) hm
  dsimp only at hlink ⊢
  rw [if_pos hd, sendReport_sent (hslot'.trans hslot) (hsTx.trans hidle), houtS] at hlink
  have hsticky : stickyFlags (arrivalSnapped m f s) = stickyFlags (arrivalEnd m f s) := by
    simp only [stickyFlags, hlog, hstore]
    rw [hlink]
  refine ⟨by rw [hlink], by rw [hlink], ?_⟩
  rw [hlink, hrun, htrip, hlim, hA, hB, hvib, hload, hlog, hstore, ← hsticky,
    ← paceSpeed_read hm hA.symm hB.symm htab.symm, ← hskipped]
  rfl

theorem arrivalEnd_skips (hm : m = paceMotor s) (hd : reportDue s = true)
    (h : s.link.slot ≠ none ∨ s.link.sTx ≠ .idle) :
    let t := arrivalEnd m f s
    t.link.skipped = min (s.link.skipped + 1) 65535 ∧ t.link.sTx = s.link.sTx ∧ t.link.slot = s.link.slot := by
  obtain ⟨hslot, hsTx, -, hskipped, -, -⟩ := Link.reporting_inj (arrivalSnapped_reporting m f s)
  have hlink := arrivalEnd_link (f := f) hm
  dsimp only at hlink ⊢
  rw [if_pos hd, sendReport_skipped (by rwa [hslot, hsTx])] at hlink
  rw [hlink, ← hslot, ← hsTx, ← hskipped]
  exact ⟨rfl, rfl, rfl⟩

theorem arrivalEnd_masked (hm : m = paceMotor s) (hd : reportDue s = false) :
    (arrivalEnd m f s).link.skipped = s.link.skipped ∧ (arrivalEnd m f s).link.sTx = s.link.sTx := by
  obtain ⟨-, hsTx, -, hskipped, -, -⟩ := Link.reporting_inj (arrivalSnapped_reporting m f s)
  have hlink := arrivalEnd_link (f := f) hm
  dsimp only at hlink
  rw [hd, if_neg (by decide)] at hlink
  rw [hlink, ← hsTx, ← hskipped]
  exact ⟨rfl, rfl⟩

/-- An ARMED recorder at the end of the arrival has had its snapshot appended (R114, R115). -/
theorem arrivalEnd_armed (hm : m = paceMotor s) (h : (arrivalEnd m f s).recorder.state = .armed) :
    (arrivalEnd m f s).recorder.ring = appendSnapshot (snapshot (arrivalGathered m f s)) s.recorder.ring := by
  obtain ⟨⟨-, -, -, -, -, -, hrec, -⟩, -⟩ := arrivalEnd_read (f := f) hm
  rw [hrec] at h ⊢
  have harmed := takeSnapshot_armed_back h
  obtain ⟨hkept | ⟨-, hpost⟩, -⟩ := arrivalGathered_recorder m f s
  · rw [arrivalSnapped, takeSnapshot_armed harmed, hkept]
  · exact absurd (hpost.symm.trans harmed) (by decide)

/-! ### The torque of a pace arrival (R38 to R40, R93) -/

/-- An evaluation point leaves a drive that is not energised. -/
theorem evaluateReady_still (h : s.run.state = .off ∨ s.run.state = .ready) :
    energised (evaluateReady s) = false := by
  rw [energised, evaluateReady_run]
  split
  · rfl
  · split
    · rfl
    · obtain h | h := h <;> rw [h] <;> rfl

theorem endStop_still (own : Option Motor) (x : DriveReason) (s : State) : energised (endStop own x s) = false := by
  rw [energised, endStop_run]
  cases readyConditions s <;> rfl

/-- An energised drive behind the run controller's step took no step, or came from BREAKAWAY to RUN (R52). -/
theorem runAtArrival_driving (h : energised (runAtArrival m s) = true) :
    runAtArrival m s = s ∨ runAtArrival m s = speedReached s := by
  have hjudges (hs : s.run.state = .off ∨ s.run.state = .ready) : runAtArrival m s = s := by
    rw [runAtArrival_judges hs] at h ⊢
    split at h
    · rw [evaluateReady_still hs] at h
      exact absurd h (by decide)
    · next hm => rw [if_neg hm]
  cases hs : s.run.state
  case off => exact .inl (hjudges (.inl hs))
  case ready => exact .inl (hjudges (.inr hs))
  case breakaway =>
    rw [runAtArrival_breakaway hs]
    split
    · exact .inr rfl
    · exact .inl rfl
  case stopping =>
    rw [runAtArrival_stopping hs] at h ⊢
    split at h
    · rw [endStop_still] at h
      exact absurd h (by decide)
    · next hm => exact .inl (if_neg hm)
  all_goals exact .inl (runAtArrival_still (by simp [hs]))

theorem compute_otCount (s : State) : (compute s).lim.otCount = s.lim.otCount := by
  obtain ⟨-, -, -, hot, -⟩ := compute_lim_kept s
  exact hot

theorem compute_tMeas (s : State) : (compute s).lim.tMeas = s.lim.tMeas := by
  obtain ⟨-, -, hformed, -⟩ := compute_lim_kept s
  exact hformed

theorem speedReached_counts (s : State) : (speedReached s).lim.otCount = s.lim.otCount := by
  rw [speedReached, compute_otCount]
  simp [TorqueLimiter.entering, DriveState.energised]

/-- Torque is formed at an arrival alone (R38): the run controller's step forms none. -/
theorem runAtArrival_tMeas (m : Motor) (s : State) : (runAtArrival m s).lim.tMeas = s.lim.tMeas := by
  have hjudges : (evaluateReady s).lim.tMeas = s.lim.tMeas := by
    obtain ⟨-, -, he⟩ | ⟨-, -, he⟩ | ⟨-, -, he⟩ := evaluateReady_cases s <;> rw [he]
    · simp [compute_tMeas]
    · simp [compute_tMeas]
  have hspeed : (speedReached s).lim.tMeas = s.lim.tMeas := by
    rw [speedReached, compute_tMeas]
    simp
  have hstop (own : Option Motor) (x : DriveReason) : (endStop own x s).lim.tMeas = s.lim.tMeas := by
    rw [endStop, compute_tMeas]
    simp [enterReadyOrOff_lim]
  unfold runAtArrival
  (repeat' split) <;> simp only [hjudges, hspeed, hstop]

theorem deliverCause_tMeas {d : Delivery} (hd : d.inSetpoint = false) (c : CauseId) (v : DWord) (s : State) :
    (deliverCause d c v s).lim.tMeas = s.lim.tMeas := by
  cases hl : s.trip.latch
  · rw [deliverCause_clear hl, latchTrip_lim, hd, if_neg (by decide), compute_tMeas]
    rfl
  · rw [deliverCause_latched hl, (appendCause_frame _ _ _).2.1]

/-- The causes of an arrival form no torque. -/
theorem arrivalStart_tMeas (m : Motor) (f : FeedbackFrame) (s : State) :
    (arrivalStart m f s).lim.tMeas = s.lim.tMeas := by
  have htaken : (arrivalTaken m f s).lim.tMeas = s.lim.tMeas := by rw [arrivalTaken_lim]
  have hhot (x : State) : (judgeOvertemp m x).lim.tMeas = x.lim.tMeas := by
    by_cases hh : inDriveSet x m = true ∧ (driveFieldsOf x).thermEnd ≤ (x.reg m).temp
    · rw [judgeOvertemp_hot hh.1 hh.2, deliverCause_tMeas rfl]
      simp
    · obtain he | he := judgeOvertemp_cool hh <;> simp [he]
  have hfault (x : State) : (judgeModFault m x).lim.tMeas = x.lim.tMeas := by
    by_cases hf : inDriveSet x m = true ∧ (x.reg m).modState = .fault
    · rw [judgeModFault_fault hf.1 hf.2, deliverCause_tMeas rfl]
      simp
    · obtain he | he := judgeModFault_sound hf <;> simp [he]
  rw [arrivalStart_eq, runAtArrival_tMeas, arrivalCauses, hfault, hhot, htaken]

/-- A drive that is energised behind the run controller's step has latched nothing in the arrival: the trip, the port
of the other motor and its regulator stand as the intake left them (R52). -/
theorem arrivalStart_driving (he : energised (arrivalStart m f s) = true) :
    (arrivalStart m f s).trip.latch = s.trip.latch
      ∧ (arrivalStart m f s).link = (acceptFeedback m f.seq s).link
      ∧ (arrivalStart m f s).lim.otCount = s.lim.otCount
      ∧ (arrivalStart m f s).recorder = s.recorder
      ∧ ∀ k, k ≠ m → (arrivalStart m f s).reg k = s.reg k := by
  have hn : ¬(s.trip.latch = false ∧ causeDue m (arrivalTaken m f s)) := fun ⟨hl, h⟩ => by
    rw [arrivalStart_latched_still hl h] at he
    exact absurd he (by decide)
  obtain ⟨-, hlatch, hlink, hlim, hother⟩ := arrivalCauses_quiet hn
  have hot : (arrivalCauses m f s).lim.otCount = s.lim.otCount := by rw [hlim, arrivalTaken_lim]
  have hrec : (arrivalCauses m f s).recorder = s.recorder := by
    have htaken : (arrivalTaken m f s).trip.latch = s.trip.latch := by
      rw [arrivalTaken, intake_trip]
      simp
    rw [arrivalCauses, (quiet_judged (by rwa [htaken])).recorder]
    simp
  rw [arrivalStart_eq] at he ⊢
  obtain hu | hu := runAtArrival_driving he <;> rw [hu]
  · exact ⟨hlatch, hlink, hot, hrec, hother⟩
  · refine ⟨by simpa using hlatch, by simpa using hlink, (speedReached_counts _).trans hot, by simpa using hrec,
      fun k hk => ?_⟩
    rw [← hother k hk]
    exact State.reg_congr (by simp) (by simp) k

/-- The torque within the allowance ends the count (R39). -/
theorem torqueAtArrival_within (h : |measuredTorque s| ≤ allowanceOf s) (m : Motor) :
    torqueAtArrival m s = torqueFormed 0 s := by
  rw [← natCast_mag] at h
  exact if_neg (Int.not_lt.mpr h)

/-- Beyond the allowance the arrival counts (R39). -/
theorem torqueAtArrival_counts (h : allowanceOf s < |measuredTorque s|)
    (hn : ¬(driveFieldsOf s).otPersist ≤ s.lim.otCount + 1) (m : Motor) :
    torqueAtArrival m s = torqueFormed (s.lim.otCount + 1) s := by
  rw [← natCast_mag] at h
  exact (if_pos h).trans (if_neg hn)

/-- At OT_PERSIST the cause is delivered (R40). -/
theorem torqueAtArrival_full (h : allowanceOf s < |measuredTorque s|)
    (hn : (driveFieldsOf s).otPersist ≤ s.lim.otCount + 1) (m : Motor) :
    torqueAtArrival m s = deliverCause (ownDelivery m) ⟨.overtorque, .none⟩ (data32 (measuredTorque s))
      (torqueFormed (s.lim.otCount + 1) s) := by
  rw [← natCast_mag] at h
  exact (if_pos h).trans (if_pos hn)

theorem torqueAtArrival_tMeas (m : Motor) (s : State) : (torqueAtArrival m s).lim.tMeas = measuredTorque s := by
  obtain ⟨n, ht | ht⟩ := torqueAtArrival_cases m s <;> rw [ht]
  · rfl
  · exact deliverCause_tMeas rfl _ _ _

theorem arrivalKeeps_startEnd (m : Motor) (f : FeedbackFrame) (s : State) :
    ArrivalKeeps (arrivalStart m f s) (arrivalEnd m f s) := by
  have hanswer := (arrivalKeeps_torque m f s).trans (arrivalKeeps_answerFrame m _)
  unfold arrivalEnd
  split
  · exact hanswer.trans (arrivalKeeps_paceWork _ _)
  · exact hanswer

theorem arrivalStart_tab (m : Motor) (f : FeedbackFrame) (s : State) : (arrivalStart m f s).tab = s.tab := by
  simp [arrivalStart_eq, arrivalCauses_tab]

/-- The count and the supervisor's time an entry of the arrival's cause list carries (R100). -/
theorem arrivalStart_times (hm : m = paceMotor s) :
    (arrivalStart m f s).link.paceCount = s.link.paceCount + 1
      ∧ (arrivalStart m f s).lim.supTime = s.lim.supTime := by
  have hkept := arrivalKeeps_startEnd m f s
  obtain ⟨-, hsup, -⟩ := arrivalEnd_holds m f s
  exact ⟨hkept.pace.symm.trans (arrivalEnd_paceCount hm), hkept.supTime.symm.trans hsup⟩

/-- The measured torque of the arrival, by the currents it ends with (R38). -/
theorem arrivalStart_torque {d : DriveTable} (hd : activeDrive s = some d) :
    let t := arrivalEnd m f s
    measuredTorque (arrivalStart m f s) = (if d.motorSet.has .A then (t.regA.iqMeas * 4096).tdiv d.kti else 0)
      + (if d.motorSet.has .B then (t.regB.iqMeas * 4096).tdiv d.kti else 0) := by
  have hcore := (arrivalKeeps_startEnd m f s).core
  have hA : (arrivalEnd m f s).regA.iqMeas = (arrivalStart m f s).regA.iqMeas :=
    (congrArg Regulator.iqMeas (hcore .A) :)
  have hB : (arrivalEnd m f s).regB.iqMeas = (arrivalStart m f s).regB.iqMeas :=
    (congrArg Regulator.iqMeas (hcore .B) :)
  have hd' := (activeDrive_congr (arrivalStart_tab m f s)).trans hd
  dsimp only
  rw [measuredTorque, motorSet_some hd', driveFieldsOf_some hd', hA, hB]
  rfl

/-- The allowance of the arrival (R39). -/
theorem arrivalStart_allowance {d : DriveTable} (hd : activeDrive s = some d) (m : Motor) (f : FeedbackFrame) :
    allowanceOf (arrivalStart m f s)
      = d.otLevel + (if s.load.eccValid then min (s.load.ecc : Int) d.otEccMax else 0) := by
  have hd' := (activeDrive_congr (arrivalStart_tab m f s)).trans hd
  rw [allowanceOf, allowance, driveFieldsOf_some hd', (paceKeeps_start m f s).load]
  split <;> simp

/-- A gathered torque joins its sector (R93). -/
theorem LoadProfile.gather_eq (l : LoadProfile) (torque : Int) {k : Fin 16} (hk : k.val = l.lastAngle.toNat / 4096) :
    l.gather torque = if l.posTimer ≠ .stopped ∧ l.cnt[k] < 4294967295 then
        { l with acc := l.acc.set k (l.acc[k] + torque.natAbs), cnt := l.cnt.set k (l.cnt[k] + 1) }
      else l := by
  obtain rfl : k = sectorOf l.lastAngle := Fin.ext hk
  cases hp : l.posTimer with
  | stopped => simp [LoadProfile.gather, hp]
  | running n => simp [LoadProfile.gather, hp, mag]

/-- Torque formed at the arrival stands at its end, gathered (R38, R93). -/
theorem arrivalEnd_formed (hm : m = paceMotor s) (he : energised (arrivalStart m f s) = true) :
    (arrivalEnd m f s).lim.tMeas = measuredTorque (arrivalStart m f s)
      ∧ (arrivalEnd m f s).load = s.load.gather (measuredTorque (arrivalStart m f s)) := by
  have htorque : (arrivalTorque m f s).lim.tMeas = measuredTorque (arrivalStart m f s) := by
    rw [arrivalTorque_pace hm, if_pos he, torqueAtArrival_tMeas]
  refine ⟨by rw [(arrivalEnd_frame m f s).2.1, htorque], ?_⟩
  obtain ⟨-, -, -, -, -, -, hload, -⟩ := arrivalEnd_read (f := f) hm
  rw [hload, arrivalGathered, if_pos he, gatherTorque, (paceKeeps_answered m f s).load, (answerFrame_frame _ _).2.1,
    htorque]

/-- Nothing is formed or gathered in a drive that is not energised (R38, R93). -/
theorem arrivalEnd_unformed (hm : m = paceMotor s) (he : energised (arrivalStart m f s) = false) :
    (arrivalEnd m f s).lim.tMeas = s.lim.tMeas ∧ (arrivalEnd m f s).load = s.load := by
  refine ⟨by rw [(arrivalEnd_still he).2.1, arrivalStart_tMeas], ?_⟩
  obtain ⟨-, -, -, -, -, -, hload, -⟩ := arrivalEnd_read (f := f) hm
  rw [hload, arrivalGathered, he, if_neg (by decide), (paceKeeps_answered m f s).load]

/-- Where OVERTORQUE latches, the arrival's torque step is that latch (R40, R102). -/
theorem arrivalTorque_overtorque (hm : m = paceMotor s) (he : energised (arrivalStart m f s) = true)
    (hl : s.trip.latch = false)
    (hover : allowanceOf (arrivalStart m f s) < |measuredTorque (arrivalStart m f s)|)
    (hn : (driveFieldsOf s).otPersist ≤ s.lim.otCount + 1) :
    arrivalTorque m f s = latchTrip (ownDelivery m) ⟨.overtorque, .none⟩
      (data32 (measuredTorque (arrivalStart m f s)))
      (torqueFormed (s.lim.otCount + 1) (arrivalStart m f s)) := by
  obtain ⟨hlatch, -, hot, -⟩ := arrivalStart_driving he
  rw [arrivalTorque_pace hm, if_pos he, torqueAtArrival_full hover (by
    rw [hot, driveFieldsOf_congr (arrivalStart_tab m f s)]
    exact hn), hot]
  have hclear : (torqueFormed (s.lim.otCount + 1) (arrivalStart m f s)).trip.latch = false := hlatch.trans hl
  rw [deliverCause_clear hclear]

/-- In a drive that is not energised behind the torque limiter's step the other motor's regulator and port stand as
that step left them (R57, R58). -/
theorem arrivalEnd_blocked (h : energised (arrivalTorque m f s) = false) {k : Motor} (hk : k ≠ m) :
    (arrivalEnd m f s).reg k = (arrivalTorque m f s).reg k
      ∧ (arrivalEnd m f s).link.vcmds k = (arrivalTorque m f s).link.vcmds k := by
  have hanswer : answerFrame m (arrivalTorque m f s) = sendBlocking m (arrivalTorque m f s) := by
    simp [answerFrame, h]
  have hend : (arrivalEnd m f s).reg k = (sendBlocking m (arrivalTorque m f s)).reg k
      ∧ (arrivalEnd m f s).link.vcmds k = (sendBlocking m (arrivalTorque m f s)).link.vcmds k := by
    rw [arrivalEnd, hanswer]
    split
    · exact ⟨paceWork_reg _ _ k, (paceWork_link_kept _ _).2.2 k⟩
    · exact ⟨rfl, rfl⟩
  rw [hend.1, hend.2, sendBlocking_reg, if_neg hk, sendBlocking_link, Link.vcmds_sendVcmd_other _ hk]
  exact ⟨rfl, rfl⟩

/-- An arrival whose torque latches OVERTORQUE (R3, R40, R102, R105). -/
theorem arrivalEnd_overtorque (hm : m = paceMotor s) (he : energised (arrivalStart m f s) = true)
    (hl : s.trip.latch = false)
    (hover : allowanceOf (arrivalStart m f s) < |measuredTorque (arrivalStart m f s)|)
    (hn : (driveFieldsOf s).otPersist ≤ s.lim.otCount + 1) :
    let u := arrivalStart m f s
    let t := arrivalEnd m f s
    t.run.state = .tripped ∧ t.lim.otCount = 0 ∧ t.lim.tCmd = 0
      ∧ (arrivalTorque m f s).log = (latchRecords ⟨.overtorque, .none⟩ (data32 (measuredTorque u)) u).log
      ∧ (LinkLaw s.link → ∀ k, k ≠ m →
        t.link.vcmds k = s.link.vcmds k ++ (if (s.reg k).seen = true then [blockingCommand (s.reg k)] else [])
        ∧ (t.reg k).intD = 0 ∧ (t.reg k).intQ = 0)
      ∧ t.trip.list = [{
          id := ⟨.overtorque, .none⟩, pace := s.link.paceCount + 1, value := data32 (measuredTorque u),
          supTime := s.lim.supTime }] := by
  obtain ⟨-, hlink, -, -, hother⟩ := arrivalStart_driving he
  obtain ⟨hrun, hlim, htrip, -⟩ := arrivalEnd_frame m f s
  have hw := arrivalTorque_overtorque hm he hl hover hn
  have hstill : energised (arrivalTorque m f s) = false := by
    rw [hw, energised, latchTrip_run]
    rfl
  obtain ⟨hpace, hsup⟩ := arrivalStart_times (f := f) hm
  refine ⟨?_, ?_, ?_, ?_, fun hlaw k hk => ?_, ?_⟩
  · rw [hrun, hw, latchTrip_run]
    rfl
  · rw [hlim, hw, latchTrip_lim, if_neg (by simp [ownDelivery]), compute_otCount]
    rfl
  · rw [hlim, hw, latchTrip_lim, if_neg (by simp [ownDelivery])]
    exact compute_tCmd_still rfl
  · rw [hw, (sameLog_latchTrip _ _ _ _).log]
    exact ((SameLog.withLim _ _).latchRecords rfl rfl _ _).log
  · have hnow : blocksNow (ownDelivery m).own k (s.reg k) = (s.reg k).seen := by
      simp [blocksNow, ownDelivery, Ne.symm hk]
    have hkept : (torqueFormed (s.lim.otCount + 1) (arrivalStart m f s)).reg k = s.reg k := by
      rw [← hother k hk]
      exact State.reg_congr rfl rfl k
    have hlink' : (torqueFormed (s.lim.otCount + 1) (arrivalStart m f s)).link = (acceptFeedback m f.seq s).link :=
      hlink
    have hboth := blockBoth_vcmds (ownDelivery m).own (torqueFormed (s.lim.otCount + 1) (arrivalStart m f s))
      (hlink' ▸ hlaw.acceptFeedback m f.seq) k
    rw [hkept, hnow, hlink', (acceptFeedback_link m f.seq s).2.2] at hboth
    obtain ⟨hreg, hsent⟩ := arrivalEnd_blocked hstill hk
    have hdriven : energised (torqueFormed (s.lim.otCount + 1) (arrivalStart m f s)) = true := he
    rw [hreg, hsent, hw, latchTrip_link, latchTrip_reg, hdriven, if_pos rfl, if_pos rfl]
    exact ⟨hboth, rfl, rfl⟩
  · rw [htrip, hw, latchTrip_trip]
    simp only [causeEntry, torqueFormed, hpace, hsup]

/-! ### The recorder of a pace arrival (R115 to R120) -/

/-- The measurements a trigger copies stand from the intake to the end of the arrival (R51). -/
theorem arrivalEnd_measured (m : Motor) (f : FeedbackFrame) (s : State) (k : Motor) :
    ((arrivalTaken m f s).reg k).dcLink = ((arrivalEnd m f s).reg k).dcLink
      ∧ ((arrivalTaken m f s).reg k).temp = ((arrivalEnd m f s).reg k).temp := by
  rw [arrivalTaken_reg]
  by_cases hk : k = m
  · subst hk
    have hcore := (arrivalEnd_core_own k f s).symm
    rw [if_pos rfl]
    exact ⟨(congrArg Regulator.dcLink hcore :), (congrArg Regulator.temp hcore :)⟩
  · have hcore := (arrivalEnd_core_other hk f s).symm
    rw [if_neg hk]
    exact ⟨(congrArg Regulator.dcLink hcore :), (congrArg Regulator.temp hcore :)⟩

/-- The latch of an arrival falls in `x`: what its trigger copies there is the arrival's (R116). -/
structure LatchedFrom (m : Motor) (f : FeedbackFrame) (s x : State) : Prop where
  recorder : x.recorder = s.recorder
  tab : x.tab = s.tab
  pace : x.link.paceCount = s.link.paceCount + 1
  supTime : x.lim.supTime = s.lim.supTime
  dcLink : ∀ k, (x.reg k).dcLink = ((arrivalEnd m f s).reg k).dcLink
  temp : ∀ k, (x.reg k).temp = ((arrivalEnd m f s).reg k).temp

/-- A pace arrival that latches does so once, in its causes or by OVERTORQUE (R40, R56, R102). -/
theorem arrivalTorque_latched (hm : m = paceMotor s) (hl : s.trip.latch = false)
    (ht : (arrivalEnd m f s).trip.latch = true) : ∃ x c v, LatchedFrom m f s x
      ∧ (arrivalTorque m f s).recorder = (latchTrip (ownDelivery m) c v x).recorder
      ∧ (arrivalTorque m f s).lim = (latchTrip (ownDelivery m) c v x).lim
      ∧ (arrivalTorque m f s).run = (latchTrip (ownDelivery m) c v x).run := by
  obtain ⟨-, -, htrip, -⟩ := arrivalEnd_frame m f s
  rw [htrip] at ht
  obtain ⟨hpace, hsup⟩ := arrivalStart_times (f := f) hm
  cases he : energised (arrivalStart m f s)
  · rw [arrivalTorque_still he] at ht ⊢
    have hdue : causeDue m (arrivalTaken m f s) := by
      by_contra hn
      obtain ⟨-, hlatch, -⟩ := arrivalCauses_quiet (m := m) (f := f) (s := s) (fun h => hn h.2)
      rw [arrivalStart_eq, (runAtArrival_frame _ _).2.2.1, hlatch, hl] at ht
      exact absurd ht (by decide)
    obtain ⟨-, -, x, c, v, hx, hu⟩ := arrivalStart_latched hl hdue
    have hmeas (k : Motor) : (x.reg k).dcLink = ((arrivalTaken m f s).reg k).dcLink
        ∧ (x.reg k).temp = ((arrivalTaken m f s).reg k).temp := by
      by_cases hk : k = m
      · subst hk
        exact ⟨hx.dcLink, hx.temp⟩
      · rw [hx.other k hk]
        exact ⟨rfl, rfl⟩
    refine ⟨x, c, v, ⟨?_, ?_, ?_, ?_, fun k => ?_, fun k => ?_⟩, hu.recorder, hu.lim, hu.run⟩
    · simp [hx.recorder]
    · simp [hx.tab]
    · have hlink : x.link = (acceptFeedback m f.seq s).link := by simp [hx.link]
      rw [hlink, (acceptFeedback_link m f.seq s).1, if_pos hm]
    · rw [hx.lim, arrivalTaken_lim]
    · rw [(hmeas k).1, (arrivalEnd_measured m f s k).1]
    · rw [(hmeas k).2, (arrivalEnd_measured m f s k).2]
  · obtain ⟨hlatch, -, -, hrec, -⟩ := arrivalStart_driving he
    rw [arrivalTorque_pace hm, if_pos he] at ht ⊢
    obtain ⟨n, hw | hw⟩ := torqueAtArrival_cases m (arrivalStart m f s)
    all_goals have hclear : (torqueFormed n (arrivalStart m f s)).trip.latch = false := hlatch.trans hl
    · rw [hw, hclear] at ht
      exact absurd ht (by decide)
    · rw [deliverCause_clear hclear] at hw
      have hcore (k : Motor) : ((torqueFormed n (arrivalStart m f s)).reg k).core = ((arrivalEnd m f s).reg k).core :=
        ((arrivalKeeps_torqueFormed n _).core k).trans ((arrivalKeeps_startEnd m f s).core k).symm
      rw [hw]
      exact ⟨torqueFormed n (arrivalStart m f s), _, _, ⟨hrec, arrivalStart_tab m f s, hpace, hsup,
        fun k => (congrArg Regulator.dcLink (hcore k) :), fun k => (congrArg Regulator.temp (hcore k) :)⟩,
        rfl, rfl, rfl⟩

/-- The trigger of an ARMED recorder by an arrival that latches, copying what stands at the arrival's end (R116). -/
theorem arrivalGathered_triggered (hm : m = paceMotor s) (ha : s.recorder.state = .armed) (hl : s.trip.latch = false)
    (ht : (arrivalEnd m f s).trip.latch = true) :
    let t := arrivalEnd m f s
    (arrivalGathered m f s).recorder = { s.recorder with
      state := .post
      ring := s.recorder.ring.drop (s.recorder.ring.length - preCountAt s)
      preCount := min s.recorder.ring.length (preCountAt s)
      postCount := 0
      postTarget := 256 - preCountAt s
      postTimer := .running (postLimitAt s)
      trigger := {
        pace := s.link.paceCount + 1, supTime := s.lim.supTime, lFwd := t.lim.stack.lFwd
        derate := t.lim.stack.derate, attempts := t.run.attempts, dcA := t.regA.dcLink, tempA := t.regA.temp
        dcB := t.regB.dcLink, tempB := t.regB.temp } } := by
  obtain ⟨x, c, v, hx, hrec, hlim, hrun⟩ := arrivalTorque_latched hm hl ht
  obtain ⟨hrun', hlim', -, -⟩ := arrivalEnd_frame m f s
  have hattempts : (arrivalEnd m f s).run.attempts = x.run.attempts := by
    rw [hrun', hrun, latchTrip_run]
    rfl
  have hpre : preCountAt x = preCountAt s := by simp only [preCountAt, activeDrive_congr hx.tab]
  have hpost : postLimitAt x = postLimitAt s := by simp only [postLimitAt, activeDrive_congr hx.tab]
  have hdcA : x.regA.dcLink = (arrivalEnd m f s).regA.dcLink := hx.dcLink .A
  have hdcB : x.regB.dcLink = (arrivalEnd m f s).regB.dcLink := hx.dcLink .B
  have htempA : x.regA.temp = (arrivalEnd m f s).regA.temp := hx.temp .A
  have htempB : x.regB.temp = (arrivalEnd m f s).regB.temp := hx.temp .B
  have hkept : (arrivalGathered m f s).recorder = (arrivalTorque m f s).recorder := by
    rw [arrivalGathered_kept]
    simp
  dsimp only
  rw [hkept, hrec, latchTrip_recorder, hx.recorder, if_pos ha, ← hlim, ← hlim', hpre, hpost, hx.pace, hx.supTime,
    ← hattempts, hdcA, hdcB, htempA, htempB, length_newest]
  rfl

/-- An arrival that latches in an ARMED recorder gives the first entry of the post part (R116, R117). -/
theorem arrivalEnd_triggered (hm : m = paceMotor s) (ha : s.recorder.state = .armed) (hl : s.trip.latch = false)
    (ht : (arrivalEnd m f s).trip.latch = true) (hpre : preCountAt s ≤ 224) :
    (arrivalEnd m f s).recorder = { (arrivalGathered m f s).recorder with
      ring := s.recorder.ring.drop (s.recorder.ring.length - preCountAt s) ++ [snapshot (arrivalGathered m f s)]
      postCount := 1 } := by
  obtain ⟨⟨-, -, -, -, -, -, hrec, -⟩, -⟩ := arrivalEnd_read (f := f) hm
  have hg := arrivalGathered_triggered hm ha hl ht
  have hlength : (newest (preCountAt s) s.recorder.ring).length ≤ 224 := by
    rw [length_newest]
    omega
  have hring : newest (historySize - 1) (newest (preCountAt s) s.recorder.ring)
      = newest (preCountAt s) s.recorder.ring := by
    have hzero : (newest (preCountAt s) s.recorder.ring).length - (historySize - 1) = 0 := by
      simp only [historySize]
      omega
    rw [newest, hzero, List.drop_zero]
  have hstate : (arrivalGathered m f s).recorder.state = .post := by rw [hg]
  have hshort : ¬(arrivalGathered m f s).recorder.postTarget ≤ (arrivalGathered m f s).recorder.postCount + 1 := by
    rw [hg]
    dsimp only
    omega
  rw [hrec, arrivalSnapped, takeSnapshot_post hstate, if_neg hshort, postAppended]
  rw [hg, appendSnapshot]
  dsimp only
  rw [← newest, hring]

theorem arrivalGathered_unarmed (h : s.recorder.state ≠ .armed) (m : Motor) (f : FeedbackFrame) :
    (arrivalGathered m f s).recorder = s.recorder :=
  (arrivalGathered_recorder m f s).1.resolve_right fun hr => h hr.1

/-- A record FROZEN, being written or done with is left alone (R117). -/
theorem arrivalEnd_closed (hm : m = paceMotor s)
    (h : s.recorder.state = .frozen ∨ s.recorder.state = .writing ∨ s.recorder.state = .done) :
    (arrivalEnd m f s).recorder = s.recorder ∧ (arrivalEnd m f s).store = s.store := by
  obtain ⟨⟨-, -, -, -, hstore, -, hrec, -⟩, -⟩ := arrivalEnd_read (f := f) hm
  have hg : (arrivalGathered m f s).recorder = s.recorder :=
    arrivalGathered_unarmed (by obtain h | h | h := h <;> simp [h]) m f
  rw [hrec, hstore, arrivalSnapped, takeSnapshot_closed (by rwa [hg])]
  exact ⟨hg, (arrivalGathered_recorder m f s).2⟩

/-- The snapshot taken in the post part, short of the target and at it (R117, R119). -/
theorem arrivalSnapped_post (hs : s.recorder.state = .post) :
    (arrivalSnapped m f s).recorder.ring = appendSnapshot (snapshot (arrivalGathered m f s)) s.recorder.ring
      ∧ arrivalSnapped m f s =
        if s.recorder.postTarget ≤ s.recorder.postCount + 1 then freeze .target (postAppended (arrivalGathered m f s))
        else postAppended (arrivalGathered m f s) := by
  have hg := arrivalGathered_unarmed (by simp [hs]) m f (s := s)
  have hstate : (arrivalGathered m f s).recorder.state = .post := by rw [hg, hs]
  rw [arrivalSnapped, takeSnapshot_post_ring hstate, takeSnapshot_post hstate, hg]
  exact ⟨rfl, rfl⟩

theorem newSelection_congr {s t : State} (hs : s.store = t.store) (ht : s.tab = t.tab) :
    newSelection s = newSelection t := by
  simp only [newSelection, hs, storeMode, activeDrive_congr ht]

/-- The records of an offer taken at the end of the arrival stand behind those of its answer (R133). -/
theorem arrivalGathered_offered (m : Motor) (f : FeedbackFrame) (s : State) :
    (takeOffer (frozenAt .target (postAppended (arrivalGathered m f s)))).log
      = (takeOffer { answerFrame m (arrivalTorque m f s) with
          store := { s.store with offer := .newRecord } }).log := by
  have hring : (arrivalGathered m f s).load.ringAlert = (answerFrame m (arrivalTorque m f s)).load.ringAlert := by
    have hgather (l : LoadProfile) (x : Int) : (l.gather x).ringAlert = l.ringAlert := by
      unfold LoadProfile.gather
      dsimp only
      (repeat' split) <;> rfl
    unfold arrivalGathered
    split
    · exact hgather _ _
    · rfl
  have hg := arrivalGathered_kept m f s
  have hstore := (arrivalGathered_recorder m f s).2
  have hsame : SameLog (frozenAt .target (postAppended (arrivalGathered m f s)))
      { answerFrame m (arrivalTorque m f s) with store := { s.store with offer := .newRecord } } :=
    .of_blocks (by rw [frozenAt, postAppended, hg]) (by rw [frozenAt, postAppended, hg])
      (by rw [frozenAt, postAppended, hg]) (by rw [frozenAt, postAppended, hg]) hring
      (by rw [frozenAt, postAppended, hg])
  have hoffered : (frozenAt .target (postAppended (arrivalGathered m f s))).store
      = { s.store with offer := .newRecord } := by
    rw [← hstore]
    rfl
  rw [takeOffer_new rfl, takeOffer_new rfl, newSelection_congr (t := { answerFrame m (arrivalTorque m f s) with
    store := { s.store with offer := .newRecord } }) hoffered (by rw [frozenAt, postAppended, hg])]
  exact (hsame.placeNew hoffered _).log

/-- Short of its target the post part goes on (R117). -/
theorem arrivalEnd_postGoesOn (hm : m = paceMotor s) (hs : s.recorder.state = .post)
    (ht : s.recorder.postCount + 1 < s.recorder.postTarget) :
    (arrivalEnd m f s).recorder = { s.recorder with
        ring := (arrivalEnd m f s).recorder.ring, postCount := s.recorder.postCount + 1 }
      ∧ (arrivalEnd m f s).store = s.store := by
  obtain ⟨⟨-, -, -, -, hstore, -, hrec, -⟩, -⟩ := arrivalEnd_read (f := f) hm
  have hg := arrivalGathered_unarmed (by simp [hs]) m f (s := s)
  rw [hrec, hstore, (arrivalSnapped_post hs).2, if_neg (Nat.not_le.mpr ht)]
  rw [(postAppended_frame _).1, (arrivalGathered_recorder m f s).2]
  refine ⟨?_, rfl⟩
  simp only [postAppended, hg]

/-- At its target the record is frozen as the arrival leaves the blocks (R117, R119). -/
theorem arrivalEnd_frozen (hm : m = paceMotor s) (hs : s.recorder.state = .post)
    (ht : s.recorder.postTarget ≤ s.recorder.postCount + 1) :
    let t := arrivalEnd m f s
    t.recorder.postTimer = .stopped ∧ t.recorder.postCount = s.recorder.postCount + 1
      ∧ ∃ x, t.recorder.ramRecord = some x ∧ x.reason = .target ∧ x.postCount = s.recorder.postCount + 1
        ∧ x.preCount = s.recorder.preCount ∧ x.trigger = s.recorder.trigger ∧ x.snapshots = t.recorder.ring
        ∧ x.causes = t.trip.list := by
  obtain ⟨⟨-, -, -, -, -, -, hrec, -⟩, -, -, -, -, htrip, -⟩ := arrivalEnd_read (f := f) hm
  have hg := arrivalGathered_unarmed (by simp [hs]) m f (s := s)
  obtain ⟨n, d, -, hfrozen⟩ := freeze_recorder .target (postAppended (arrivalGathered m f s))
  dsimp only
  rw [hrec, htrip, (arrivalSnapped_post hs).2, if_pos ht, hfrozen]
  refine ⟨rfl, by simp [postAppended, hg], _, rfl, rfl, ?_, ?_, ?_, rfl, rfl⟩ <;>
    simp [assembleRecord, postAppended, hg]

/-- A record offered to a store in another activity waits (R133). -/
theorem arrivalEnd_waits (hm : m = paceMotor s) (hs : s.recorder.state = .post)
    (ht : s.recorder.postTarget ≤ s.recorder.postCount + 1) (hi : s.store.activity ≠ .idle)
    (he : s.store.activity ≠ .erasing) :
    (arrivalEnd m f s).recorder.state = .frozen
      ∧ (arrivalEnd m f s).store = { s.store with offer := .newRecord }
      ∧ (arrivalEnd m f s).log = (answerFrame m (arrivalTorque m f s)).log := by
  obtain ⟨⟨-, -, -, -, hstore, hlog, hrec, -⟩, -⟩ := arrivalEnd_read (f := f) hm
  have hkept : (postAppended (arrivalGathered m f s)).store = s.store := by
    rw [(postAppended_frame _).1, (arrivalGathered_recorder m f s).2]
  rw [hrec, hstore, hlog, (arrivalSnapped_post hs).2, if_pos ht, freeze_waits (by rwa [hkept]) (by rwa [hkept])]
  refine ⟨rfl, ?_, ?_⟩
  · rw [frozenAt, hkept]
  · rw [frozenAt, postAppended, arrivalGathered_kept]

/-- A record offered to an idle or erasing store is placed at once, its records the arrival's last (R133 to R141). -/
theorem arrivalEnd_offers (hm : m = paceMotor s) (hs : s.recorder.state = .post)
    (ht : s.recorder.postTarget ≤ s.recorder.postCount + 1)
    (hi : s.store.activity = .idle ∨ s.store.activity = .erasing) :
    let t := arrivalEnd m f s
    t.log = (takeOffer { answerFrame m (arrivalTorque m f s) with store := { s.store with offer := .newRecord } }).log
      ∧ match newSelection s with
        | .slot _ _ => t.recorder.state = .writing ∧ t.store.activity = .programming
        | .wait | .queueErase _ | .queueOverwrite _ => t.recorder.state = .frozen ∧ t.store.offer = .newRecord
        | .miss => t.recorder.state = .done ∧ t.store.offer = .none := by
  obtain ⟨⟨-, -, -, -, hstore, hlog, hrec, -⟩, -⟩ := arrivalEnd_read (f := f) hm
  have hkept : (postAppended (arrivalGathered m f s)).store = s.store := by
    rw [(postAppended_frame _).1, (arrivalGathered_recorder m f s).2]
  have htab' : (postAppended (arrivalGathered m f s)).tab = s.tab := by
    obtain ⟨-, -, -, -, hread, -⟩ := arrivalEnd_read (f := f) hm
    rw [(postAppended_frame _).2.1, ← hread, arrivalEnd_tab]
  have hidle : (postAppended (arrivalGathered m f s)).store.activity = .idle
      ∨ (postAppended (arrivalGathered m f s)).store.activity = .erasing := by rwa [hkept]
  have hsel : newSelection (postAppended (arrivalGathered m f s)) = newSelection s := newSelection_congr hkept htab'
  have hplaced := freeze_placed hidle .target
  dsimp only
  rw [hrec, hstore, hlog, (arrivalSnapped_post hs).2, if_pos ht]
  refine ⟨?_, hsel ▸ hplaced⟩
  rw [freeze_taken hidle, ← arrivalGathered_offered]
  simp

/-- The torque of an energised arrival, watched and gathered (R38 to R40, R93). -/
theorem arrivalEnd_torque (hm : m = paceMotor s) (he : energised (arrivalStart m f s) = true) {d : DriveTable}
    (hd : activeDrive s = some d) :
    let u := arrivalStart m f s
    let w := arrivalTorque m f s
    let t := arrivalEnd m f s
    let torque := measuredTorque u
    let allow := allowanceOf u
    let full := allow < |torque| ∧ d.otPersist ≤ s.lim.otCount + 1
    (|torque| ≤ allow → t.lim.otCount = 0 ∧ t.run = u.run ∧ w.log = u.log)
      ∧ (allow < |torque| → ¬full → t.lim.otCount = s.lim.otCount + 1 ∧ t.run = u.run ∧ w.log = u.log)
      ∧ (full → t.trip.latch = true) := by
  obtain ⟨-, -, hot, -⟩ := arrivalStart_driving he
  obtain ⟨hrun, hlim, htrip, -⟩ := arrivalEnd_frame m f s
  have hd' : driveFieldsOf (arrivalStart m f s) = d :=
    driveFieldsOf_some ((activeDrive_congr (arrivalStart_tab m f s)).trans hd)
  dsimp only
  rw [hrun, hlim, htrip, arrivalTorque_pace hm, if_pos he]
  refine ⟨fun h => ?_, fun h hn => ?_, fun h => ?_⟩
  · rw [torqueAtArrival_within h]
    exact ⟨rfl, rfl, rfl⟩
  · rw [torqueAtArrival_counts h (by rw [hd', hot]; exact fun hp => hn ⟨h, hp⟩), hot]
    exact ⟨rfl, rfl, rfl⟩
  · rw [torqueAtArrival_full h.1 (by rw [hd', hot]; exact h.2)]
    exact deliverCause_latch _ _ _ _

end

/-- Settles O56: an arrival's blocks one after the other, each by what the blocks before it leave. -/
theorem paceArrivalRecordsAndReports : Obligations.PaceArrivalRecordsAndReports := by
  unfold Obligations.PaceArrivalRecordsAndReports
  refine ⟨fun m f s hm => ⟨_, exec_feedback m f s, fun ha => ?_, fun hd hslot hidle => ?_,
    fun hd h => arrivalEnd_skips hm hd h, fun hd => arrivalEnd_masked hm hd⟩, fun m f s hm => ?_⟩
  · exact ⟨_, arrivalEnd_armed hm ha, by simp [arrivalGathered_snapshot hm]⟩
  · obtain ⟨hskipped, hout, hsent⟩ := arrivalEnd_reports (f := f) hm hd hslot hidle
    exact ⟨hskipped, hout, _, hsent, rfl, rfl, rfl, rfl, rfl, rfl, rfl, rfl, rfl, rfl, rfl, rfl, rfl,
      fun c => Vector.getElem_ofFn _, rfl, rfl, rfl, rfl⟩
  · have htorqued := arrivalTorque_pace (f := f) hm
    dsimp only
    rw [← htorqued]
    split
    all_goals
      refine ⟨_, exec_feedback m f s, arrivalEnd_phase hm ?_, arrivalEnd_unformed hm, fun he d hd => ?_,
        fun ha hl ht hpre => ?_, fun hs => ⟨?_, arrivalEnd_postGoesOn hm hs, fun ht => ?_⟩, arrivalEnd_closed hm⟩
      · rename_i hpattern
        simp [reportPattern, hpattern]
      · obtain ⟨htMeas, hload⟩ := arrivalEnd_formed hm he
        have htorque := arrivalStart_torque (m := m) (f := f) hd
        obtain ⟨hwithin, hcounts, hfull⟩ := arrivalEnd_torque hm he hd
        dsimp only at htorque
        rw [← htorque, ← arrivalStart_allowance hd m f]
        refine ⟨htMeas, hwithin, hcounts, fun h => ⟨hfull h, fun hl => ?_⟩, fun k hk => ?_⟩
        · exact arrivalEnd_overtorque hm he hl h.1 (by rw [driveFieldsOf_some hd]; exact h.2)
        · rw [hload, LoadProfile.gather_eq _ _ hk]
      · have hshort : preCountAt s ≤ 224 := by
          rw [preCountAt]
          cases hd : activeDrive s with
          | none => simp
          | some d => exact hpre d hd
        rw [arrivalEnd_triggered hm ha hl ht hshort, arrivalGathered_triggered hm ha hl ht]
        exact ⟨rfl, rfl, rfl, rfl, List.dropLast_concat, rfl⟩
      · obtain ⟨⟨-, -, -, -, -, -, hrec, -⟩, -⟩ := arrivalEnd_read (f := f) hm
        rw [hrec]
        exact ⟨_, (arrivalSnapped_post hs).1, by simp [arrivalGathered_snapshot hm]⟩
      · obtain ⟨htimer, hcount, hrecord⟩ := arrivalEnd_frozen (f := f) hm hs ht
        refine ⟨htimer, hcount, hrecord, arrivalEnd_waits hm hs ht,
          fun hi => (arrivalEnd_offers hm hs ht hi).1, fun hi => ?_⟩
        have hplaced := (arrivalEnd_offers (f := f) hm hs ht hi).2
        rw [newSelection] at hplaced
        generalize (if s.store.nextNumber = 0 then Selection.miss else s.store.select (storeMode s)) = x at hplaced ⊢
        cases x <;> exact hplaced

end Sys2Proof.Machine

/-! O55: the PI law of one axis. -/

namespace Sys2Proof.Machine

/-- Between bounds in order a clamp is the middle of three values. -/
theorem clamp_eq_max_min {lo hi : Int} (h : lo ≤ hi) (x : Int) : clamp lo hi x = max lo (min hi x) := by
  unfold clamp
  split
  · omega
  · split <;> omega

theorem abs_max_min_le {k : Int} (h : 0 ≤ k) (x : Int) : |max (-k) (min k x)| ≤ k :=
  abs_le.mpr ⟨le_max_left _ _, max_le (by omega) (min_le_left _ _)⟩

/-- Settles O55: with a limit that is not negative each clamp of the law is the middle of three values. -/
theorem axisFollowsThePiLaw : Obligations.AxisFollowsThePiLaw := by
  unfold Obligations.AxisFollowsThePiLaw
  intro ref meas int kp ki lim hlim
  have hint : 0 ≤ lim * 4096 := by omega
  have herror := clamp_eq_max_min (show (-32767 : Int) ≤ 32767 by decide)
  have hinner := clamp_eq_max_min (show -(lim * 4096) ≤ lim * 4096 by omega)
  have houter := clamp_eq_max_min (show -lim ≤ lim by omega)
  simp only [piAxis, herror, hinner, houter]
  refine ⟨trivial, trivial, trivial, ?_⟩
  split <;> exact abs_max_min_le hint _

end Sys2Proof.Machine

/-! The condition law (O6): the active-condition set is what the owners hold.  An owner that changes its condition hands
the change to the trip controller in the same breath; everything else leaves alone what the law reads. -/

namespace Sys2Proof.Machine

/-! ### The conditions, owner by owner (R99, R101) -/

/-- The condition causes by their owners. -/
theorem forall_conditionOrder {P : CauseId → Prop} :
    (∀ c ∈ conditionOrder, P c) ↔ (∀ m, P ⟨.overtemp, .motor m⟩) ∧ (∀ m, P ⟨.modFault, .motor m⟩)
      ∧ (∀ m, P ⟨.fbLost, .motor m⟩) ∧ P ⟨.supLost, .none⟩ ∧ (∀ k, P ⟨.vibDanger, .channel k⟩)
      ∧ P ⟨.extTrip, .none⟩ := by
  have hmotor {Q : Motor → Prop} : (∀ m, Q m) ↔ Q .A ∧ Q .B :=
    ⟨fun h => ⟨h .A, h .B⟩, fun ⟨hA, hB⟩ m => by cases m <;> assumption⟩
  simp [conditionOrder, hmotor, Fin.forall_fin_succ, and_assoc]

@[simp] theorem conditionHolds_overtemp (s : State) (m : Motor) :
    conditionHolds s ⟨.overtemp, .motor m⟩ = (s.reg m).overtemp := rfl
@[simp] theorem conditionHolds_modFault (s : State) (m : Motor) :
    conditionHolds s ⟨.modFault, .motor m⟩ = (s.reg m).modFault := rfl
@[simp] theorem conditionHolds_fbLost (s : State) (m : Motor) :
    conditionHolds s ⟨.fbLost, .motor m⟩ = (s.reg m).fbLost := rfl
@[simp] theorem conditionHolds_supLost (s : State) : conditionHolds s ⟨.supLost, .none⟩ = s.lim.supLost := rfl
@[simp] theorem conditionHolds_vibDanger (s : State) (k : Fin 6) :
    conditionHolds s ⟨.vibDanger, .channel k⟩ = s.vib.channels[k].danger := rfl
@[simp] theorem conditionHolds_extTrip (s : State) : conditionHolds s ⟨.extTrip, .none⟩ = s.trip.extTrip := rfl

/-! ### The parts of the law -/

/-- The set holds exactly the active conditions (R101). -/
def ActiveSetLaw (s : State) : Prop := s.trip.active = conditionOrder.filter (conditionHolds s)

/-- The conditions of a regulator are inactive (R56). -/
def Regulator.quiet (r : Regulator) : Prop := r.overtemp = false ∧ r.modFault = false ∧ r.fbLost = false

/-- What an owner's change hands to the trip controller keeps the set equal to what the owners hold: one condition is
changed in `u` and in the set (R101). -/
theorem ActiveSetLaw.setCondition {s u : State} (h : ActiveSetLaw s) {c : CauseId} {on : Bool}
    (ha : u.trip.active = s.trip.active)
    (hc : ∀ d ∈ conditionOrder, conditionHolds u d = if d = c then on else conditionHolds s d) :
    ActiveSetLaw (setCondition c on u) := by
  have hkept (d : CauseId) : conditionHolds (Machine.setCondition c on u) d = conditionHolds u d := rfl
  rw [ActiveSetLaw, setCondition_active, ha, h]
  cases on with
  | true =>
    refine List.filter_congr fun d hd => ?_
    rw [hkept, hc d hd]
    by_cases hdc : d = c <;> simp [hdc, hd]
  | false =>
    rw [if_neg (by decide), removeCondition, List.filter_filter]
    refine List.filter_congr fun d hd => ?_
    rw [hkept, hc d hd]
    by_cases hdc : d = c <;> simp [hdc]

/-! ### States that agree for the law -/

/-- What the law reads of a regulator. -/
def Regulator.conditions (r : Regulator) : Bool × Bool × Bool := (r.overtemp, r.modFault, r.fbLost)

theorem Regulator.conditions_of_core {r q : Regulator} (h : r.core = q.core) : r.conditions = q.conditions :=
  (congrArg Regulator.conditions h :)

/-- The set, its owners' conditions, the channels' states and the DRIVE table stand as they were. -/
structure SameConditions (s t : State) : Prop where
  active : t.trip.active = s.trip.active
  extTrip : t.trip.extTrip = s.trip.extTrip
  supLost : t.lim.supLost = s.lim.supLost
  regs : ∀ m, (t.reg m).conditions = (s.reg m).conditions
  danger : ∀ c : Fin 6, t.vib.channels[c].danger = s.vib.channels[c].danger
  state : ∀ c : Fin 6, t.vib.channels[c].state = s.vib.channels[c].state
  drive : t.tab.drive = s.tab.drive

namespace SameConditions

variable {s t u : State}

/-- The blocks in which the states agree; the frame lemmas give them. -/
theorem of_blocks (active : t.trip.active = s.trip.active := by simp)
    (extTrip : t.trip.extTrip = s.trip.extTrip := by simp) (supLost : t.lim.supLost = s.lim.supLost := by simp)
    (regA : t.regA = s.regA := by simp) (regB : t.regB = s.regB := by simp)
    (vib : t.vib.channels = s.vib.channels := by simp) (drive : t.tab.drive = s.tab.drive := by simp) :
    SameConditions s t :=
  ⟨active, extTrip, supLost, fun m => by rw [State.reg_congr regA regB m], fun c => by rw [vib], fun c => by rw [vib],
    drive⟩

/-- The steps of an arrival keep the conditions of the regulators and the channels. -/
theorem of_arrival (h : ArrivalKeeps s t) (active : t.trip.active = s.trip.active := by simp)
    (extTrip : t.trip.extTrip = s.trip.extTrip := by simp) (supLost : t.lim.supLost = s.lim.supLost := by simp) :
    SameConditions s t :=
  ⟨active, extTrip, supLost, fun m => Regulator.conditions_of_core (h.core m), fun c => by rw [h.vib],
    fun c => by rw [h.vib], by rw [h.tab]⟩

theorem refl (s : State) : SameConditions s s := of_blocks

theorem trans (h : SameConditions s t) (k : SameConditions t u) : SameConditions s u :=
  ⟨k.active.trans h.active, k.extTrip.trans h.extTrip, k.supLost.trans h.supLost,
    fun m => (k.regs m).trans (h.regs m), fun c => (k.danger c).trans (h.danger c),
    fun c => (k.state c).trans (h.state c), k.drive.trans h.drive⟩

theorem holds (h : SameConditions s t) : ∀ c ∈ conditionOrder, conditionHolds t c = conditionHolds s c := by
  have hregs (m : Motor) : (t.reg m).overtemp = (s.reg m).overtemp ∧ (t.reg m).modFault = (s.reg m).modFault
      ∧ (t.reg m).fbLost = (s.reg m).fbLost := by
    simpa [Regulator.conditions] using h.regs m
  exact forall_conditionOrder.mpr
    ⟨fun m => (hregs m).1, fun m => (hregs m).2.1, fun m => (hregs m).2.2, h.supLost, h.danger, h.extTrip⟩

end SameConditions

theorem ActiveSetLaw.of_holds {s t : State} (h : ActiveSetLaw s) (ha : t.trip.active = s.trip.active)
    (hc : ∀ c ∈ conditionOrder, conditionHolds t c = conditionHolds s c) : ActiveSetLaw t := by
  rw [ActiveSetLaw, ha, h]
  exact List.filter_congr fun c hm => (hc c hm).symm

theorem ActiveSetLaw.of_same {s t : State} (h : ActiveSetLaw s) (k : SameConditions s t) : ActiveSetLaw t :=
  h.of_holds k.active k.holds

theorem ConditionLaw.of_same {s t : State} (h : ConditionLaw s) (k : SameConditions s t) : ConditionLaw t where
  set := ActiveSetLaw.of_same h.set k
  danger c := by rw [k.danger, k.state, h.danger]
  outside m hm := by
    have hs : inDriveSet s m = false := by simpa [inDriveSet, activeDrive, k.drive] using hm
    have hr := k.regs m
    obtain ⟨ho, hf, hl⟩ := h.outside m hs
    simpa [Regulator.conditions, ho, hf, hl] using hr

/-! ### Operations that leave the conditions alone -/

theorem sameConditions_compute (s : State) : SameConditions s (compute s) :=
  .of_blocks (supLost := by simp [compute_lim_kept])

theorem sameConditions_evaluateReady (s : State) : SameConditions s (evaluateReady s) :=
  .of_blocks (supLost := by simp [evaluateReady_lim_kept])

theorem sameConditions_deliverCause (d : Delivery) (c : CauseId) (v : DWord) (s : State) :
    SameConditions s (deliverCause d c v s) := .of_arrival (arrivalKeeps_deliverCause d c v s)

/-! ### The conditions of a regulator (R51, R54 to R56, R66) -/

/-- A regulator in which one condition is changed. -/
theorem conditionHolds_setReg {m : Motor} {r : Regulator} {c : CauseId} {on : Bool} (s : State)
    (hc : c.source = .motor m) (hot : r.overtemp = if c.kind = .overtemp then on else (s.reg m).overtemp)
    (hmod : r.modFault = if c.kind = .modFault then on else (s.reg m).modFault)
    (hlost : r.fbLost = if c.kind = .fbLost then on else (s.reg m).fbLost) :
    ∀ d ∈ conditionOrder, conditionHolds (s.setReg m r) d = if d = c then on else conditionHolds s d := by
  obtain ⟨kind, source⟩ := c
  obtain rfl : source = .motor m := hc
  refine forall_conditionOrder.mpr ⟨fun k => ?_, fun k => ?_, fun k => ?_, by simp, fun k => by simp, by simp⟩
  all_goals by_cases hk : k = m
  all_goals simp [State.setReg_reg, hk, hot, hmod, hlost, eq_comm (a := kind)]

/-- A derate delivered is no condition (R27). -/
theorem sameConditions_deliverTherm (m : Motor) (x : Int) (s : State) : SameConditions s (deliverTherm m x s) :=
  .of_blocks (supLost := by cases m <;> rfl)

section

variable {s : State} (h : ActiveSetLaw s) (m : Motor)

include h

theorem ActiveSetLaw.setOvertemp (on : Bool) : ActiveSetLaw (setOvertemp m on s) :=
  h.setCondition (by simp) (conditionHolds_setReg s rfl (by simp) (by simp) (by simp))

theorem ActiveSetLaw.setModFault (on : Bool) : ActiveSetLaw (setModFault m on s) :=
  h.setCondition (by simp) (conditionHolds_setReg s rfl (by simp) (by simp) (by simp))

theorem ActiveSetLaw.setFbLost (on : Bool) : ActiveSetLaw (setFbLost m on s) :=
  h.setCondition (by simp) (conditionHolds_setReg s rfl (by simp) (by simp) (by simp))

/-- A frame makes FB_LOST inactive (R51). -/
theorem ActiveSetLaw.intake (f : FeedbackFrame) : ActiveSetLaw (intake m f s) := by
  have hset (timer : Timer) (therm : Int) : ActiveSetLaw (Machine.setCondition ⟨.fbLost, .motor m⟩ false
      (s.setReg m ((s.reg m).takeIn f timer therm))) :=
    h.setCondition (by simp) (conditionHolds_setReg s rfl (by simp [Regulator.takeIn]) (by simp [Regulator.takeIn])
      (by simp [Regulator.takeIn]))
  exact (hset _ _).of_same (sameConditions_deliverTherm m _ _)

end

/-- A change of one motor's regulator, and of its conditions in the set. -/
theorem ConditionLaw.of_motor {s t : State} (h : ConditionLaw s) (m : Motor) (hset : ActiveSetLaw t)
    (hother : ∀ k, k ≠ m → t.reg k = s.reg k) (hown : inDriveSet s m = false → (t.reg m).quiet)
    (hvib : t.vib = s.vib := by simp) (htab : t.tab = s.tab := by simp) : ConditionLaw t where
  set := hset
  danger c := by rw [hvib]; exact h.danger c
  outside k hk := by
    rw [inDriveSet_congr htab] at hk
    by_cases hkm : k = m
    · subst hkm
      exact hown hk
    · rw [hother k hkm]
      exact h.outside k hk

section

variable {s : State} (h : ConditionLaw s) (m : Motor)

include h

/-- OVERTEMP becomes active in a motor of the set alone (R54, R56). -/
theorem ConditionLaw.setOvertemp {on : Bool} (hon : on = true → inDriveSet s m = true) :
    ConditionLaw (setOvertemp m on s) := by
  refine h.of_motor m (ActiveSetLaw.setOvertemp h.set m on) (fun k hk => by rw [setOvertemp_reg, if_neg hk])
    fun hm => ?_
  obtain ⟨-, hmod, hlost⟩ := h.outside m hm
  rw [setOvertemp_reg, if_pos rfl]
  exact ⟨by simpa [hm] using hon, hmod, hlost⟩

/-- MOD_FAULT becomes active in a motor of the set alone (R55, R56). -/
theorem ConditionLaw.setModFault {on : Bool} (hon : on = true → inDriveSet s m = true) :
    ConditionLaw (setModFault m on s) := by
  refine h.of_motor m (ActiveSetLaw.setModFault h.set m on) (fun k hk => by rw [setModFault_reg, if_neg hk])
    fun hm => ?_
  obtain ⟨hot, -, hlost⟩ := h.outside m hm
  rw [setModFault_reg, if_pos rfl]
  exact ⟨hot, by simpa [hm] using hon, hlost⟩

/-- FB_LOST becomes active in a motor of the set (R56, R66). -/
theorem ConditionLaw.setFbLost (hm : inDriveSet s m = true) (on : Bool) : ConditionLaw (setFbLost m on s) :=
  h.of_motor m (ActiveSetLaw.setFbLost h.set m on)
    (fun k hk => by simp [Machine.setFbLost, setCondition_reg, State.setReg_reg, hk]) (by simp [hm])

theorem ConditionLaw.intake (f : FeedbackFrame) : ConditionLaw (intake m f s) := by
  refine h.of_motor m (ActiveSetLaw.intake h.set m f) (fun k hk => by rw [intake_reg, if_neg hk]) fun hm => ?_
  obtain ⟨hot, hmod, -⟩ := h.outside m hm
  rw [intake_reg, if_pos rfl]
  exact ⟨hot, hmod, rfl⟩

/-! ### A feedback arrival (R51 to R57) -/

theorem ConditionLaw.judgeOvertemp : ConditionLaw (judgeOvertemp m s) := by
  by_cases hh : inDriveSet s m = true ∧ (driveFieldsOf s).thermEnd ≤ (s.reg m).temp
  · rw [judgeOvertemp_hot hh.1 hh.2]
    exact (h.setOvertemp m fun _ => hh.1).of_same (sameConditions_deliverCause _ _ _ _)
  · obtain he | he := judgeOvertemp_cool hh <;> rw [he]
    · exact h
    · exact h.setOvertemp m nofun

theorem ConditionLaw.judgeModFault : ConditionLaw (judgeModFault m s) := by
  by_cases hf : inDriveSet s m = true ∧ (s.reg m).modState = .fault
  · rw [judgeModFault_fault hf.1 hf.2]
    exact (h.setModFault m fun _ => hf.1).of_same (sameConditions_deliverCause _ _ _ _)
  · obtain he | he := judgeModFault_sound hf <;> rw [he]
    · exact h
    · exact h.setModFault m nofun

end

/-- Entering a drive state touches the overtorque count alone (R40). -/
@[simp] theorem TorqueLimiter.entering_supLost (l : TorqueLimiter) (d : DriveState) :
    (l.entering d).supLost = l.supLost := by
  rw [TorqueLimiter.entering_eq]

theorem runAtArrival_supLost (m : Motor) (s : State) : (runAtArrival m s).lim.supLost = s.lim.supLost := by
  unfold runAtArrival
  (repeat' split) <;> simp [evaluateReady_lim_kept, speedReached, endStop, compute_lim_kept, enterReadyOrOff]

theorem sameConditions_torqueAtArrival (m : Motor) (s : State) : SameConditions s (torqueAtArrival m s) := by
  obtain ⟨n, ht | ht⟩ := torqueAtArrival_cases m s <;> rw [ht]
  · exact .of_blocks rfl rfl rfl rfl rfl rfl rfl
  · exact .trans (.of_blocks (t := torqueFormed n s) rfl rfl rfl rfl rfl rfl rfl) (sameConditions_deliverCause _ _ _ _)

/-- Behind the causes of an arrival nothing changes a condition (R52). -/
theorem sameConditions_arrivalEnd (m : Motor) (f : FeedbackFrame) (s : State) :
    SameConditions (arrivalCauses m f s) (arrivalEnd m f s) := by
  have htorque : SameConditions (arrivalStart m f s) (arrivalTorque m f s) := by
    unfold arrivalTorque
    split
    · exact sameConditions_torqueAtArrival m _
    · exact .refl _
  have hstart : SameConditions (arrivalCauses m f s) (arrivalStart m f s) :=
    .of_arrival (arrivalKeeps_runAtArrival m _) (by simp [arrivalStart_eq]) (by simp [arrivalStart_eq])
      (by rw [arrivalStart_eq, runAtArrival_supLost])
  obtain ⟨-, hlim, htrip, -⟩ := arrivalEnd_frame m f s
  have h := hstart.trans htorque
  exact .of_arrival (arrivalKeeps_end m f s) (by rw [htrip, h.active]) (by rw [htrip, h.extTrip])
    (by rw [hlim, h.supLost])

theorem ConditionLaw.arrivalEnd {s : State} (h : ConditionLaw s) (m : Motor) (f : FeedbackFrame) :
    ConditionLaw (arrivalEnd m f s) := by
  have haccepted : ConditionLaw (acceptFeedback m f.seq s) := h.of_same .of_blocks
  exact (((haccepted.intake m f).judgeOvertemp m).judgeModFault m).of_same (sameConditions_arrivalEnd m f s)

/-! ### The conditions of the channels (R78, R79, R81, R83, R85) -/

theorem setChannel_channel (c k : Fin 6) (x : Channel) (s : State) :
    (setChannel c x s).vib.channels[k] = if k = c then x else s.vib.channels[k] := by
  simp only [setChannel_channels, Fin.getElem_fin, Vector.getElem_set, Fin.val_inj, eq_comm]

theorem setChannel_reg (c : Fin 6) (x : Channel) (s : State) (m : Motor) : (setChannel c x s).reg m = s.reg m :=
  State.reg_congr (by simp) (by simp) m

/-- A channel's record without its danger and its state is no condition. -/
theorem sameConditions_setChannel {c : Fin 6} {x : Channel} {s : State} (hd : x.danger = s.vib.channels[c].danger)
    (hs : x.state = s.vib.channels[c].state) : SameConditions s (setChannel c x s) where
  active := by simp
  extTrip := by simp
  supLost := by simp
  regs m := by rw [setChannel_reg]
  danger k := by
    rw [setChannel_channel]
    split
    · next hk => rw [hk, hd]
    · rfl
  state k := by
    rw [setChannel_channel]
    split
    · next hk => rw [hk, hs]
    · rfl
  drive := by simp

theorem sameConditions_deliverVibDerate (s : State) : SameConditions s (deliverVibDerate s) :=
  .of_blocks (supLost := rfl) (vib := rfl)

theorem setVibDanger_channel (c k : Fin 6) (on : Bool) (s : State) :
    (setVibDanger c on s).vib.channels[k]
      = if k = c then { s.vib.channels[c] with danger := on } else s.vib.channels[k] :=
  setChannel_channel c k _ s

theorem ActiveSetLaw.setVibDanger {s : State} (h : ActiveSetLaw s) (c : Fin 6) (on : Bool) :
    ActiveSetLaw (setVibDanger c on s) := by
  refine h.setCondition (by simp) (forall_conditionOrder.mpr ⟨fun m => ?_, fun m => ?_, fun m => ?_, by simp,
    fun k => ?_, by simp⟩)
  · simp [setChannel_reg]
  · simp [setChannel_reg]
  · simp [setChannel_reg]
  · rw [conditionHolds_vibDanger, setChannel_channel]
    by_cases hk : k = c <;> simp [hk]

/-- A channel in its new state, the change judged and recorded (R78, R80). -/
def channelMoved (c : Fin 6) (new : ChannelState) (x : VibReason) (n : Nat) (s : State) : State :=
  raiseVibState c s.vib.channels[c].state new x n
    (judgeAlert (setChannel c { s.vib.channels[c] with state := new } s))

theorem changeChannel_eq (c : Fin 6) (new : ChannelState) (x : VibReason) (n : Nat) (s : State) :
    changeChannel c new x n s =
      if s.vib.channels[c].state = new then s
      else if s.vib.channels[c].state = .danger then setVibDanger c false (channelMoved c new x n s)
      else channelMoved c new x n s := rfl

theorem channelMoved_channel (c k : Fin 6) (new : ChannelState) (x : VibReason) (n : Nat) (s : State) :
    (channelMoved c new x n s).vib.channels[k]
      = if k = c then { s.vib.channels[c] with state := new } else s.vib.channels[k] :=
  setChannel_channel c k _ s

theorem ActiveSetLaw.channelMoved {s : State} (h : ActiveSetLaw s) (c : Fin 6) (new : ChannelState) (x : VibReason)
    (n : Nat) : ActiveSetLaw (channelMoved c new x n s) := by
  refine h.of_holds rfl (forall_conditionOrder.mpr ⟨fun m => ?_, fun m => ?_, fun m => ?_, rfl, fun k => ?_, rfl⟩)
  · cases m <;> rfl
  · cases m <;> rfl
  · cases m <;> rfl
  · rw [conditionHolds_vibDanger, channelMoved_channel]
    split
    · next hk => rw [hk]; rfl
    · rfl

theorem ActiveSetLaw.changeChannel {s : State} (h : ActiveSetLaw s) (c : Fin 6) (new : ChannelState) (x : VibReason)
    (n : Nat) : ActiveSetLaw (changeChannel c new x n s) := by
  rw [changeChannel_eq]
  split
  · exact h
  · split
    · exact (h.channelMoved c new x n).setVibDanger c false
    · exact h.channelMoved c new x n

/-- A channel that leaves DANGER holds its condition inactive (R78). -/
theorem changeChannel_channel (c k : Fin 6) (new : ChannelState) (x : VibReason) (n : Nat) (s : State) :
    (changeChannel c new x n s).vib.channels[k] =
      if k = c then { s.vib.channels[c] with
        state := new
        danger := if s.vib.channels[c].state = .danger ∧ new ≠ .danger then false else s.vib.channels[c].danger }
      else s.vib.channels[k] := by
  rw [changeChannel_eq]
  by_cases hs : s.vib.channels[c].state = new
  · rw [if_pos hs]
    split
    · next hk => rw [hk, if_neg (by rw [hs]; tauto), ← hs]
    · rfl
  · rw [if_neg hs]
    by_cases hd : s.vib.channels[c].state = .danger
    · rw [if_pos hd, setVibDanger_channel, channelMoved_channel, channelMoved_channel, if_pos rfl]
      rw [hd] at hs
      simp only [hd, true_and, if_pos (Ne.symm hs)]
      split <;> rfl
    · rw [if_neg hd, channelMoved_channel]
      simp only [hd, false_and, if_false]

/-- A change of one channel, and of its condition in the set. -/
theorem ConditionLaw.of_channel {s t : State} (h : ConditionLaw s) (c : Fin 6) (hset : ActiveSetLaw t)
    (hother : ∀ k, k ≠ c → t.vib.channels[k] = s.vib.channels[k])
    (hown : t.vib.channels[c].danger = (t.vib.channels[c].state == .danger)) (hA : t.regA = s.regA := by simp)
    (hB : t.regB = s.regB := by simp) (htab : t.tab = s.tab := by simp) : ConditionLaw t where
  set := hset
  danger k := by
    by_cases hk : k = c
    · rw [hk]
      exact hown
    · rw [hother k hk]
      exact h.danger k
  outside m hm := by
    rw [inDriveSet_congr htab] at hm
    rw [State.reg_congr hA hB]
    exact h.outside m hm

/-- A change into any state but DANGER (R78, R79). -/
theorem ConditionLaw.changeChannel {s : State} (h : ConditionLaw s) (c : Fin 6) {new : ChannelState}
    (hnew : new ≠ .danger) (x : VibReason) (n : Nat) : ConditionLaw (changeChannel c new x n s) := by
  refine h.of_channel c (ActiveSetLaw.changeChannel h.set c new x n)
    (fun k hk => by rw [changeChannel_channel, if_neg hk]) ?_
  have hd := h.danger c
  rw [changeChannel_channel, if_pos rfl]
  generalize s.vib.channels[c] = y at hd
  by_cases hs : y.state = .danger
  · simp [hs, hnew]
  · simp [hs, hnew, hd]

/-- A change into DANGER, with the condition it makes active (R79). -/
theorem ConditionLaw.enterDanger {s : State} (h : ConditionLaw s) (c : Fin 6) (x : VibReason) (n k : Nat) :
    ConditionLaw (enterDanger c k (deliverVibDerate (Machine.changeChannel c .danger x n s))) := by
  have hset : ActiveSetLaw (setVibDanger c true (deliverVibDerate (Machine.changeChannel c .danger x n s))) :=
    ((ActiveSetLaw.changeChannel h.set c .danger x n).of_same (sameConditions_deliverVibDerate _)).setVibDanger c true
  have hderate (u : State) : (deliverVibDerate u).vib.channels = u.vib.channels := rfl
  refine (h.of_channel c hset (fun j hj => ?_) ?_).of_same (sameConditions_deliverCause _ _ _ _)
  · rw [setVibDanger_channel, if_neg hj, hderate, changeChannel_channel, if_neg hj]
  · rw [setVibDanger_channel, if_pos rfl, hderate, changeChannel_channel, if_pos rfl]
    rfl

theorem ConditionLaw.judgeWindow {s : State} (h : ConditionLaw s) (c : Fin 6) (cfg : ChannelConfig) :
    ConditionLaw (judgeWindow c cfg s) := by
  have hset (level count : Nat) : ConditionLaw
      (setChannel c { s.vib.channels[c] with lastLevel := level, persist := count } s) :=
    h.of_same (sameConditions_setChannel rfl rfl)
  unfold Machine.judgeWindow
  dsimp only
  split
  · exact hset _ _
  · split
    · next hnew =>
      rw [hnew]
      exact (hset _ _).enterDanger c _ _ _
    · next hnew => exact ((hset _ _).changeChannel c hnew _ _).of_same (sameConditions_deliverVibDerate _)

theorem ConditionLaw.takeFrame {s : State} (h : ConditionLaw s) (c : Fin 6) (cfg : ChannelConfig)
    (x : Vector Word 8) : ConditionLaw (takeFrame c cfg x s) := by
  have hnext (y : Channel) (gap : Nat) : (y.nextWindow gap).danger = y.danger ∧ (y.nextWindow gap).state = y.state := by
    unfold Channel.nextWindow
    split <;> exact ⟨rfl, rfl⟩
  have hskip (y : Channel) (gap : Nat) : (y.skipped gap).danger = y.danger ∧ (y.skipped gap).state = y.state := by
    unfold Channel.skipped
    split <;> exact ⟨rfl, rfl⟩
  unfold Machine.takeFrame
  dsimp only
  (repeat' split)
  · refine ((h.of_same (sameConditions_setChannel ?_ ?_)).judgeWindow c cfg).of_same
      (sameConditions_setChannel (hnext _ _).1 (hnext _ _).2) <;> rfl
  · exact h.of_same (sameConditions_setChannel rfl rfl)
  · exact h.of_same (sameConditions_setChannel (hskip _ _).1 (hskip _ _).2)

theorem ConditionLaw.restartChannel {s : State} (h : ConditionLaw s) (c : Fin 6) {into : ChannelState}
    (hinto : into ≠ .danger) (x : VibReason) : ConditionLaw (restartChannel c into x s) :=
  (h.changeChannel c hinto x _).of_same (sameConditions_setChannel rfl rfl)

theorem ConditionLaw.vibCommit {s : State} (h : ConditionLaw s) : ConditionLaw (vibCommit s) := by
  have hfold (l : List (Fin 6)) (u : State) (hu : ConditionLaw u) :
      ConditionLaw (l.foldl (fun s c => setUpChannel c s) u) := by
    induction l generalizing u with
    | nil => exact hu
    | cons c l ih => exact ih _ (hu.restartChannel c (by split <;> decide) _)
  exact (hfold allChannels s h).of_same (sameConditions_deliverVibDerate _)

theorem ConditionLaw.fallSilent {s : State} (h : ConditionLaw s) (c : Fin 6) : ConditionLaw (fallSilent c s) := by
  unfold Machine.fallSilent
  split
  · exact h
  · exact (h.changeChannel c (by decide) _ _).of_same (sameConditions_deliverVibDerate _)

/-! ### The conditions of the torque limiter and of the trip controller (R7, R29, R44) -/

/-- SUP_LOST takes a value in the torque limiter and in the set. -/
theorem ConditionLaw.setSupLost {s : State} (h : ConditionLaw s) {l : TorqueLimiter} {on : Bool}
    (hl : l.supLost = on) : ConditionLaw (setCondition ⟨.supLost, .none⟩ on { s with lim := l }) where
  set := by
    refine ActiveSetLaw.setCondition h.set rfl (forall_conditionOrder.mpr ⟨fun m => ?_, fun m => ?_, fun m => ?_, ?_,
      fun k => ?_, ?_⟩)
    · cases m <;> rfl
    · cases m <;> rfl
    · cases m <;> rfl
    · simpa using hl
    · rfl
    · rfl
  danger := h.danger
  outside m hm := by cases m <;> exact h.outside _ hm

/-- EXT_TRIP takes a value in the trip controller and in the set. -/
theorem ConditionLaw.setExtTrip {s : State} (h : ConditionLaw s) (on : Bool) :
    ConditionLaw (setCondition ⟨.extTrip, .none⟩ on { s with trip := { s.trip with extTrip := on } }) where
  set := by
    refine ActiveSetLaw.setCondition h.set rfl (forall_conditionOrder.mpr ⟨fun m => ?_, fun m => ?_, fun m => ?_, ?_,
      fun k => ?_, ?_⟩)
    · cases m <;> rfl
    · cases m <;> rfl
    · cases m <;> rfl
    · rfl
    · rfl
    · simp
  danger := h.danger
  outside m hm := by cases m <;> exact h.outside _ hm

theorem ConditionLaw.actExtTrip {s : State} (h : ConditionLaw s) (flag : Bool) : ConditionLaw (actExtTrip flag s) := by
  unfold Machine.actExtTrip
  dsimp only
  split
  · exact (h.setExtTrip flag).of_same (sameConditions_deliverCause _ _ _ _)
  · exact h.setExtTrip flag

/-- The mode handed over is no condition (R7). -/
theorem sameConditions_handOver (flag run : Bool) (s : State) :
    SameConditions (actExtTrip flag s) (handOver flag run s) := by
  obtain ⟨hlim, htrip, -, hA, hB, -⟩ := handOver_blocks flag run s
  have hact := limiterKept_actExtTrip flag s
  exact .of_blocks (by rw [htrip]) (by rw [htrip]) (by rw [hlim, hact]) hA hB

theorem ConditionLaw.setpoint {s : State} (h : ConditionLaw s) (flag run : Bool) (q : Word) (u : DWord) :
    ConditionLaw (compute (handOver flag run (storeSetpoint q u s))) :=
  (((h.setSupLost rfl : ConditionLaw (storeSetpoint q u s)).actExtTrip flag).of_same
    (sameConditions_handOver flag run _)).of_same (sameConditions_compute _)

/-! ### Requests -/

/-- What an owner leaves alone whose request works on the link, the log, the store, a staging buffer or the locks. -/
structure Aside (s t : State) : Prop where
  run : t.run = s.run
  lim : t.lim = s.lim
  regA : t.regA = s.regA
  regB : t.regB = s.regB
  vib : t.vib = s.vib
  load : t.load = s.load
  trip : t.trip = s.trip
  tables : t.tab.gain = s.tab.gain ∧ t.tab.limit = s.tab.limit ∧ t.tab.vib = s.tab.vib ∧ t.tab.event = s.tab.event
    ∧ t.tab.drive = s.tab.drive
  pending : t.pending = s.pending

/-- All requests but RESTART, TABLE_COMMIT, TRIP_RESET and VIB_RESTART leave the drive, the watches and the active
tables alone (R184). -/
theorem aside_requestOwner {code : Byte} (hr : code.toNat ≠ 3) (hc : code.toNat ≠ 6) (ht : code.toNat ≠ 11)
    (hv : code.toNat ≠ 19) (args : List Byte) (s : State) : Aside s (requestOwner code args s).state := by
  show (fun f : State → Reply => Aside s (f s).state) (Machine.requestOwner code args)
  unfold Machine.requestOwner
  split
  · cases args <;> constructor <;> simp [identify, refuse]
  · cases args <;> constructor <;> simp [statusClear, clearFlags, refuse]
  · next h => exact absurd h hr
  · simp only [tableOpen, openTable, refuse]
    (repeat' split) <;> constructor <;> simp [setBuffer]
  · simp only [tableWrite, writeTable, refuse]
    (repeat' split) <;> constructor <;> simp [setBuffer]
  · next h => exact absurd h hc
  · simp only [tableAbort, refuse]
    (repeat' split) <;> constructor <;> simp [setBuffer]
  · simp only [tableRead, readTable, refuse]
    (repeat' split) <;> constructor <;> simp
  · simp only [lockSet, refuse]
    (repeat' split) <;> constructor <;> simp [setLock]
  · simp only [lockClear, refuse]
    (repeat' split) <;> constructor <;> simp [setLock]
  · next h => exact absurd h ht
  · simp only [tripRead, readRecord, refuse]
    (repeat' split) <;> constructor <;> simp
  · simp only [storeTrim, trimBank, refuse]
    (repeat' split) <;> constructor <;> simp
  · simp only [storeEraseAll, eraseAllBanks, refuse]
    (repeat' split) <;> constructor <;> simp
  · simp only [storeBlankCheck, checkBank, refuse]
    (repeat' split) <;> constructor <;> simp
  · simp only [storeStatus, refuse]
    (repeat' split) <;> constructor <;> simp
  · cases args <;> constructor <;> simp [eventRead, refuse]
  · simp only [eventMark, refuse]
    (repeat' split) <;> constructor <;> simp
  · next h => exact absurd h hv
  · constructor <;> simp [refuse]

theorem Aside.sameConditions {s t : State} (h : Aside s t) : SameConditions s t := by
  obtain ⟨-, hlim, hA, hB, hvib, -, htrip, ⟨-, -, -, -, hdrive⟩, -⟩ := h
  exact .of_blocks (by rw [htrip]) (by rw [htrip]) (by rw [hlim]) hA hB (by rw [hvib]) hdrive


/-- RESTART clears the trip and SUP_LOST, and keeps the other conditions (R112, R187). -/
theorem ConditionLaw.restartAll {s : State} (h : ConditionLaw s) : ConditionLaw (restartAll s) := by
  have hrecord (d : DriveState) (u : State) : (restartRecord d u).lim.supLost = u.lim.supLost := by
    unfold restartRecord
    split <;> simp [compute_lim_kept]
  have hcleared : SameConditions s (restartRecorder (clearTrip
      (restartRecord s.run.state (restartLog (restartRun s))))) :=
    .of_blocks (by simp [clearTrip_trip]) (by simp [clearTrip_trip]) (by simp [hrecord, restartRun])
  exact ((h.of_same hcleared).setSupLost rfl).of_same (sameConditions_evaluateReady _)

theorem sameConditions_acceptTripReset (s : State) : SameConditions s (acceptTripReset s) :=
  .of_blocks (by simp [acceptTripReset, clearTrip_trip]) (by simp [acceptTripReset, clearTrip_trip])
    (by simp [acceptTripReset, compute_lim_kept, enterReadyOrOff])

theorem ActiveSetLaw.releaseMotor {s : State} (h : ActiveSetLaw s) (m : Motor) : ActiveSetLaw (releaseMotor m s) := by
  unfold Machine.releaseMotor
  split
  · exact h
  · exact ((h.setOvertemp m false).setModFault m false).setFbLost m false

/-- Under a new DRIVE table the regulators outside its set are released (R56). -/
theorem ConditionLaw.driveReleased {s u : State} (h : ConditionLaw s) {d : DriveTable} (hd : activeDrive u = some d)
    (hu : u = { s with tab := u.tab }) : ConditionLaw (driveReleased u) where
  set := by
    have hset : ActiveSetLaw u := by rw [hu]; exact ActiveSetLaw.of_holds h.set rfl fun _ _ => rfl
    exact ((hset.releaseMotor .A).releaseMotor .B).of_same
      (.of_blocks (t := lowerAttempts (restartPattern (releaseMotor .B (releaseMotor .A u)))))
  danger c := by
    have hvib : (Machine.driveReleased u).vib = s.vib := by rw [driveReleased_frame u |>.2.1, hu]
    rw [hvib]
    exact h.danger c
  outside m hm := by
    have hout : d.motorSet.has m = false := by
      rwa [inDriveSet_congr (driveReleased_frame u |>.2.2.2.2.2.2.1), inDriveSet_some hd] at hm
    rw [driveReleased_reg hd, if_neg (by simp [hout])]
    exact ⟨rfl, rfl, rfl⟩

theorem ConditionLaw.acceptCommit {s : State} (h : ConditionLaw s) (n : Bool) (b : Staging) (fields : List Int)
    (k : Nat) : ConditionLaw (acceptCommit n b fields k s) := by
  have hact (t : TableId) (hne : t ≠ .drive) :
      ConditionLaw { s with tab := (s.tab.activate t b.version fields).setBuffer n none } :=
    h.of_same (.of_blocks rfl rfl rfl rfl rfl rfl (by cases t <;> simp_all [TableManager.activate]))
  unfold Machine.acceptCommit
  dsimp only
  have hraise (v : Word) (u : State) : SameConditions u (raiseTable b.table v k u) := .of_blocks
  refine ConditionLaw.of_same ?_ (hraise _ _)
  have hshell (u : State) : SameConditions u (shellCommit u) := .of_blocks
  have hevent (x : AlertMode) (u : State) : SameConditions u (eventCommit x u) := .of_blocks
  cases b.table <;> dsimp only [informOwners]
  · exact (hact .gain nofun).of_same (sameConditions_evaluateReady _)
  · exact (hact .limit nofun).of_same (sameConditions_evaluateReady _)
  · exact (hact .vib nofun).vibCommit.of_same (hshell _)
  · exact (hact .event nofun).of_same (hevent _ _)
  · refine ConditionLaw.of_same (h.driveReleased (d := DriveTable.ofFields fields) ?_ rfl)
      (sameConditions_evaluateReady _)
    simp [activeDrive, TableManager.activate]

theorem ConditionLaw.tableCommit {s : State} (h : ConditionLaw s) (args : List Byte) :
    ConditionLaw (tableCommit args s).state := by
  have hbuffer (n : Bool) (b : Staging) : ConditionLaw (commitBuffer n b s).state := by
    unfold commitBuffer
    split
    · exact h
    · split
      · exact h
      · split
        · exact h
        · split
          · exact h
          · exact h.acceptCommit _ _ _ _
  unfold Machine.tableCommit
  (repeat' split)
  · exact hbuffer _ _
  · exact h
  · exact h

theorem ConditionLaw.restart {s : State} (h : ConditionLaw s) (args : List Byte) :
    ConditionLaw (restart args s).state := by
  simp only [Machine.restart, refuse]
  (repeat' split)
  · exact h
  · exact h
  · exact h.restartAll
  · exact h

theorem ConditionLaw.tripReset {s : State} (h : ConditionLaw s) (args : List Byte) :
    ConditionLaw (tripReset args s).state := by
  simp only [Machine.tripReset, refuse]
  (repeat' split)
  · exact h
  · exact h
  · exact h.of_same (sameConditions_acceptTripReset s)
  · exact h
  · exact h

theorem ConditionLaw.vibRestart {s : State} (h : ConditionLaw s) (args : List Byte) :
    ConditionLaw (vibRestart args s).state := by
  simp only [Machine.vibRestart, vibRestartChannel, refuse]
  (repeat' split)
  · exact (h.restartChannel _ (by decide) _).of_same (sameConditions_deliverVibDerate _)
  · exact h.of_same (sameConditions_deliverVibDerate s)
  · exact h
  · exact h

/-- Whatever request a code names, its owner keeps the law (R184). -/
theorem ConditionLaw.requestOwner {s : State} (h : ConditionLaw s) (code : Byte) (args : List Byte) :
    ConditionLaw (requestOwner code args s).state := by
  by_cases hr : code.toNat = 3
  · simpa only [Machine.requestOwner, hr] using h.restart args
  by_cases hc : code.toNat = 6
  · simpa only [Machine.requestOwner, hc] using h.tableCommit args
  by_cases ht : code.toNat = 11
  · simpa only [Machine.requestOwner, ht] using h.tripReset args
  by_cases hv : code.toNat = 19
  · simpa only [Machine.requestOwner, hv] using h.vibRestart args
  · exact h.of_same (aside_requestOwner hr hc ht hv args s).sameConditions

/-- The request cycle accepts the frame, asks the owner, and places the answer in the link (R183). -/
theorem ConditionLaw.serve {s : State} (h : ConditionLaw s) (code : Byte) (r : Request) :
    ConditionLaw (serve code r (Machine.requestOwner code r.args) s) := by
  have ha : ConditionLaw (acceptFrame .S 0 r.seq s) := h.of_same .of_blocks
  cases hslot : s.link.slot with
  | none =>
    rw [serve_answered _ _ _ _ hslot]
    exact (ha.requestOwner code r.args).of_same .of_blocks
  | some a =>
    rw [serve_overrun _ _ _ _ a hslot]
    exact ha.of_same .of_blocks

/-! ### Arrivals -/

theorem ConditionLaw.execSetpoint {s t : State} (h : ConditionLaw s) {seq : Seq} {mode flags : Byte} {q : Word}
    {u : DWord} (he : execSetpoint seq mode flags q u s = .next t) : ConditionLaw t := by
  have ha : ConditionLaw (acceptFrame .S 0 seq s) := h.of_same .of_blocks
  obtain rfl := Host.Outcome.next.inj he
  exact ha.setpoint _ _ q u

theorem ConditionLaw.execFeedback {s t : State} (h : ConditionLaw s) {m : Motor} {f : FeedbackFrame}
    (he : execFeedback m f s = .next t) : ConditionLaw t := by
  obtain rfl := Host.Outcome.next.inj ((exec_feedback m f s).symm.trans he)
  exact h.arrivalEnd m f

theorem ConditionLaw.execVibSample {s t : State} (h : ConditionLaw s) {c : Fin 6} {seq : Seq} {x : Vector Word 8}
    (he : execVibSample c seq x s = .next t) : ConditionLaw t := by
  have ha (k : Fin 8) : ConditionLaw (acceptFrame .H k seq s) := h.of_same .of_blocks
  unfold Machine.execVibSample at he
  dsimp only at he
  split at he <;> obtain rfl := Host.Outcome.next.inj he
  · exact ha _
  · exact ha _
  · exact (ha _).takeFrame c _ x

theorem ConditionLaw.execPosition {s t : State} (h : ConditionLaw s) {seq : Seq} {a : Word}
    (he : execPosition seq a s = .next t) : ConditionLaw t := by
  refine h.of_same ?_
  unfold Machine.execPosition at he
  dsimp only at he
  split at he <;> obtain rfl := Host.Outcome.next.inj he <;> exact .of_blocks

/-- A refused frame is counted; one that passes the checks is taken as the arrival it is (R178). -/
theorem ConditionLaw.execRefusedFrame {s t : State} (h : ConditionLaw s) {p : Port} {bytes : List Byte}
    (he : execRefusedFrame p bytes s = .next t) : ConditionLaw t := by
  unfold Machine.execRefusedFrame at he
  split at he
  · obtain rfl := Host.Outcome.next.inj he
    exact h.of_same .of_blocks
  · next a _ _ =>
    cases a with
    | setpoint seq mode flags q u => exact h.execSetpoint he
    | request code r =>
      obtain rfl := Host.Outcome.next.inj he
      exact h.serve code r
    | feedback m f => exact h.execFeedback he
    | vibSample c seq x => exact h.execVibSample he
    | position seq a => exact h.execPosition he
  · obtain rfl := Host.Outcome.next.inj he
    exact h

/-! ### Timers and the ends of work -/

theorem ConditionLaw.execBrkTimeExpiry {s t : State} (h : ConditionLaw s) (he : execBrkTimeExpiry s = .next t) :
    ConditionLaw t := by
  unfold Machine.execBrkTimeExpiry at he
  split at he <;> obtain rfl := Host.Outcome.next.inj he
  · exact h
  · dsimp only
    split
    · exact h.of_same (.of_blocks (by simp [attemptTimedOut]) (by simp [attemptTimedOut])
        (by simp [attemptTimedOut, compute_lim_kept]) (by simp [attemptTimedOut]) (by simp [attemptTimedOut])
        (by simp [attemptTimedOut]) (by simp [attemptTimedOut]))
    · have hend : ConditionLaw (raiseBrkEnd .fail { s with run := { s.run with brkTimer := .stopped } }) :=
        h.of_same .of_blocks
      exact hend.of_same (sameConditions_deliverCause _ _ _ _)

theorem ConditionLaw.execBrkRestExpiry {s t : State} (h : ConditionLaw s) (he : execBrkRestExpiry s = .next t) :
    ConditionLaw t := by
  unfold Machine.execBrkRestExpiry at he
  split at he <;> obtain rfl := Host.Outcome.next.inj he
  · exact h
  · exact h.of_same (.of_blocks (supLost := by simp [compute_lim_kept, beginAttempt]))

theorem ConditionLaw.execStopTimeExpiry {s t : State} (h : ConditionLaw s) (he : execStopTimeExpiry s = .next t) :
    ConditionLaw t := by
  unfold Machine.execStopTimeExpiry at he
  split at he <;> obtain rfl := Host.Outcome.next.inj he
  · exact h
  · exact h.of_same (.of_arrival (arrivalKeeps_endStop _ _ s)
      (supLost := by simp [endStop, compute_lim_kept, enterReadyOrOff]))

theorem ConditionLaw.execStallTimerExpiry {s t : State} (h : ConditionLaw s) (he : execStallTimerExpiry s = .next t) :
    ConditionLaw t := by
  unfold Machine.execStallTimerExpiry at he
  split at he <;> obtain rfl := Host.Outcome.next.inj he
  · exact h
  · have hstop : ConditionLaw { s with lim := { s.lim with stallTimer := .stopped } } := h.of_same .of_blocks
    exact hstop.of_same (sameConditions_deliverCause _ _ _ _)

theorem ConditionLaw.execSetpointTimerExpiry {s t : State} (h : ConditionLaw s)
    (he : execSetpointTimerExpiry s = .next t) : ConditionLaw t := by
  unfold Machine.execSetpointTimerExpiry at he
  split at he <;> obtain rfl := Host.Outcome.next.inj he
  · exact h
  · have hm : ConditionLaw (countSetpointMiss s) := h.of_same (.of_blocks (supLost := rfl))
    unfold checkSupLost
    split
    · exact (hm.setSupLost rfl).of_same (sameConditions_deliverCause _ _ _ _)
    · exact hm

/-- A missed feedback period is counted, and its motor blocked where it was driven (R65). -/
theorem sameConditions_countFeedbackMiss (m : Motor) (s : State) : SameConditions s (countFeedbackMiss m s) := by
  have hmissed (r : Regulator) (timer : Timer) (x : Bool) : (r.missed timer x).conditions = r.conditions := by
    cases x <;> rfl
  have hreg (k : Motor) : ((countFeedbackMiss m s).reg k).conditions = (s.reg k).conditions := by
    rw [countFeedbackMiss_reg]
    split
    · next hk => rw [hmissed, hk]
    · rfl
  exact ⟨by simp, by simp, by simp, hreg, by simp, by simp, by simp⟩

theorem ConditionLaw.execFeedbackTimerExpiry {m : Motor} {s t : State} (h : ConditionLaw s)
    (he : execFeedbackTimerExpiry m s = .next t) : ConditionLaw t := by
  unfold Machine.execFeedbackTimerExpiry at he
  split at he <;> obtain rfl := Host.Outcome.next.inj he
  · exact h
  · have hmiss : ConditionLaw (countFeedbackMiss m s) := h.of_same (sameConditions_countFeedbackMiss m s)
    have hlost : ConditionLaw (checkFbLost m (countFeedbackMiss m s)) := by
      unfold checkFbLost
      split
      · next hd =>
        have hset : inDriveSet (countFeedbackMiss m s) m = true := by
          have := hd.1
          simp only [driven, Bool.and_eq_true] at this
          exact this.2
        exact (hmiss.setFbLost m hset true).of_same (sameConditions_deliverCause _ _ _ _)
      · exact hmiss
    split
    · exact hlost.of_same (sameConditions_evaluateReady _)
    · exact hlost

theorem ConditionLaw.execSilenceTimerExpiry {c : Fin 6} {s t : State} (h : ConditionLaw s)
    (he : execSilenceTimerExpiry c s = .next t) : ConditionLaw t := by
  unfold Machine.execSilenceTimerExpiry at he
  split at he <;> obtain rfl := Host.Outcome.next.inj he
  · exact h
  · have hquiet : SameConditions s (setChannel c
        { s.vib.channels[c].emptyWindow with persist := 0, silenceTimer := .stopped } s) :=
      sameConditions_setChannel rfl rfl
    exact (h.of_same hquiet).fallSilent c

/-- The ends of a pulse, of a position, of a post part and of store work reach no condition. -/
theorem sameConditions_completions {s t : State} :
    (execPositionTimerExpiry s = .next t → SameConditions s t) ∧ (execPostLimitExpiry s = .next t → SameConditions s t)
      ∧ (execPulseTimerExpiry s = .next t → SameConditions s t) ∧ (execScanEnd s = .next t → SameConditions s t)
      ∧ (∀ x, execProgramCompletion x s = .next t → SameConditions s t)
      ∧ (∀ x, execEraseCompletion x s = .next t → SameConditions s t)
      ∧ (execBlankCheckCompletion s = .next t → SameConditions s t) := by
  refine ⟨fun he => ?_, fun he => ?_, fun he => ?_, fun he => ?_, fun x he => ?_, fun x he => ?_, fun he => ?_⟩
  · unfold execPositionTimerExpiry at he
    split at he <;> obtain rfl := Host.Outcome.next.inj he <;> exact .of_blocks
  · unfold execPostLimitExpiry at he
    split at he <;> obtain rfl := Host.Outcome.next.inj he <;> exact .of_blocks
  · unfold execPulseTimerExpiry at he
    split at he <;> obtain rfl := Host.Outcome.next.inj he <;> exact .of_blocks
  · unfold execScanEnd at he
    split at he <;> obtain rfl := Host.Outcome.next.inj he <;> exact .of_blocks
  · unfold execProgramCompletion at he
    split at he <;> obtain rfl := Host.Outcome.next.inj he <;> exact .of_blocks
  · unfold execEraseCompletion at he
    split at he <;> obtain rfl := Host.Outcome.next.inj he <;> exact .of_blocks
  · unfold execBlankCheckCompletion at he
    split at he <;> obtain rfl := Host.Outcome.next.inj he <;> exact .of_blocks

/-! ### Every command -/

/-- The law holds at every reset state (R188). -/
theorem conditionLaw_afterReset (nv : Vector NvBank 4) (k : Nat) (line : Bool) (q : List Instr) :
    ConditionLaw (State.afterReset nv k line q) :=
  reset_conditionLaw.of_same (.of_blocks rfl rfl rfl rfl rfl rfl rfl)

/-- Every command keeps the law. -/
theorem ConditionLaw.exec {s t : State} (h : ConditionLaw s) (i : Instr) (he : exec i s = .next t) :
    ConditionLaw t := by
  obtain ⟨hpos, hpost, hpulse, hscan, hprog, herase, hblank⟩ := sameConditions_completions (s := s) (t := t)
  cases hr : Laws.requestParts i with
  | some p =>
    obtain rfl := Host.Outcome.next.inj ((exec_request hr s).symm.trans he)
    exact h.serve p.1 p.2
  | none =>
    cases i with
    | setpoint seq mode flags q u => exact h.execSetpoint he
    | feedback m f => exact h.execFeedback he
    | vibSample c seq x => exact h.execVibSample he
    | position seq a => exact h.execPosition he
    | refusedFrame p bytes => exact h.execRefusedFrame he
    | hardwareReset =>
      obtain rfl := Host.Outcome.next.inj he
      exact conditionLaw_afterReset _ _ _ _
    | lockLineChange asserted =>
      obtain rfl := Host.Outcome.next.inj he
      exact h.of_same .of_blocks
    | brkTimeExpiry => exact h.execBrkTimeExpiry he
    | brkRestExpiry => exact h.execBrkRestExpiry he
    | stopTimeExpiry => exact h.execStopTimeExpiry he
    | stallTimerExpiry => exact h.execStallTimerExpiry he
    | setpointTimerExpiry => exact h.execSetpointTimerExpiry he
    | feedbackTimerExpiry m => exact h.execFeedbackTimerExpiry he
    | silenceTimerExpiry c => exact h.execSilenceTimerExpiry he
    | positionTimerExpiry => exact h.of_same (hpos he)
    | postLimitExpiry => exact h.of_same (hpost he)
    | pulseTimerExpiry => exact h.of_same (hpulse he)
    | scanEnd => exact h.of_same (hscan he)
    | programCompletion took => exact h.of_same (hprog took he)
    | eraseCompletion verified => exact h.of_same (herase verified he)
    | blankCheckCompletion => exact h.of_same (hblank he)
    | transmissionEnd =>
      obtain rfl := Host.Outcome.next.inj he
      exact h.of_same .of_blocks
    | vcmdTransmissionEnd m =>
      obtain rfl := Host.Outcome.next.inj he
      exact h.of_same .of_blocks
    | _ => simp [Laws.requestParts] at hr

/-- Settles O6: an owner that changes its condition changes the set with it, and all else leaves both alone. -/
theorem stepKeepsConditionLaw : Obligations.StepKeepsConditionLaw := by
  unfold Obligations.StepKeepsConditionLaw
  intro s t h he
  unfold step at he
  split at he
  · obtain rfl := Host.Outcome.next.inj he
    exact h
  · next c rest _ => exact (h.of_same (t := s.withPending rest) .of_blocks).exec c he

end Sys2Proof.Machine

/-! O54: a FEEDBACK arrival is answered by one VCMD.  What comes before the answer leaves its port alone and, while the
drive stays energised, its integrators; the answer follows from the state it finds; and the pace work behind it raises
nothing short of a freeze. -/

namespace Sys2Proof.Machine

/-! ### The band of a speed (R59) -/

/-- The band is the first whose upper speed exceeds the magnitude, and the last where none does. -/
theorem bandOf_first {g : GainTable} {n : Nat} {b : Fin 8} (hb : bandOf g n = b) :
    (∀ k : Fin 8, k < b → g.bands[k].upper ≤ n) ∧ (b < 7 → (n : Int) < g.bands[b].upper) := by
  have hmem : ∀ k : Fin 8, k < 7 → k ∈ ([0, 1, 2, 3, 4, 5, 6] : List (Fin 8)) := by decide
  have hat : ∀ i (hi : i < 7), ([0, 1, 2, 3, 4, 5, 6] : List (Fin 8))[i] = ⟨i, Nat.lt_succ_of_lt hi⟩ := by decide
  unfold bandOf at hb
  cases h : ([0, 1, 2, 3, 4, 5, 6] : List (Fin 8)).find? fun b => (n : Int) < g.bands[b].upper with
  | none =>
    obtain rfl : 7 = b := by rwa [h] at hb
    refine ⟨fun k hk => ?_, fun h7 => absurd h7 (by decide)⟩
    simpa using List.find?_eq_none.mp h k (hmem k hk)
  | some c =>
    obtain rfl : c = b := by rwa [h] at hb
    obtain ⟨hc, i, hi, hic, hlt⟩ := List.find?_eq_some_iff_getElem.mp h
    refine ⟨fun k hk => ?_, fun _ => by simpa using hc⟩
    rw [hat i hi] at hic
    have hki : k.val < i := by
      rw [← hic] at hk
      exact hk
    have hn := hlt k.val hki
    rw [hat k.val (Nat.lt_trans hki hi)] at hn
    simpa using hn

/-- The output of an axis stays within its limit (R62, R63). -/
theorem piAxis_v_le (ref meas int kp ki : Int) {lim : Int} (h : 0 ≤ lim) :
    |(piAxis ref meas int kp ki lim).v| ≤ lim := by
  have hv : (piAxis ref meas int kp ki lim).v = max (-lim) (min lim (piAxis ref meas int kp ki lim).raw) :=
    clamp_eq_max_min (by omega) _
  rw [hv]
  exact abs_max_min_le h _

/-! ### What comes before the answer (R52, R58) -/

/-- The transmitter of a motor's port. -/
def Link.transmitter (l : Link) (m : Motor) : VcmdTransmitter :=
  match m with
  | .A => l.m0Tx
  | .B => l.m1Tx

theorem Link.vcmds_eq (l : Link) (m : Motor) : l.vcmds m = (l.transmitter m).frames := by cases m <;> rfl

/-- A frame sent is the newest of its port. -/
theorem Link.vcmds_sendVcmd_own {k l : Link} (h : LinkLaw k) {m : Motor} (hm : l.transmitter m = k.transmitter m)
    (v : Vcmd) : (l.sendVcmd m v).vcmds m = k.vcmds m ++ [v] := by
  have hidle : (l.transmitter m).sending = none → (l.transmitter m).waiting = [] := by
    rw [hm]
    cases m
    · exact h.m0
    · exact h.m1
  rw [Link.vcmds_eq k, ← hm]
  cases m <;> exact VcmdTransmitter.push_frames _ _ _ hidle

/-- A change out of the energised states leaves the port in whose own arrival it comes (R3, R58). -/
theorem blockBoth_transmitter (m : Motor) (s : State) :
    (blockBoth (some m) s).link.transmitter m = s.link.transmitter m := by
  have hown (k : Motor) (r : Regulator) : blocksNow (some k) k r = false := by simp [blocksNow]
  rw [blockBoth_link]
  cases m
  · rw [hown]
    cases blocksNow (some .A) .B (s.reg .B) <;> rfl
  · rw [hown]
    cases blocksNow (some .B) .A (s.reg .A) <;> rfl

/-- From `s` to `t` a motor's port sends nothing, its band stands, and a drive that is energised in `t` was so in `s`
and has kept the motor's integrators. -/
structure Unanswered (m : Motor) (s t : State) : Prop where
  transmitter : t.link.transmitter m = s.link.transmitter m
  band : (t.reg m).band = (s.reg m).band
  driving : energised t = true →
    energised s = true ∧ (t.reg m).intD = (s.reg m).intD ∧ (t.reg m).intQ = (s.reg m).intQ

namespace Unanswered

variable {m : Motor} {s t u : State}

theorem of_regs (run : energised t = true → energised s = true) (reg : t.reg m = s.reg m)
    (link : t.link = s.link := by simp) : Unanswered m s t :=
  ⟨by rw [link], by rw [reg], fun h => ⟨run h, by rw [reg], by rw [reg]⟩⟩

theorem refl (m : Motor) (s : State) : Unanswered m s s := of_regs id rfl rfl

theorem trans (h : Unanswered m s t) (k : Unanswered m t u) : Unanswered m s u where
  transmitter := k.transmitter.trans h.transmitter
  band := k.band.trans h.band
  driving hu := by
    obtain ⟨ht, hD, hQ⟩ := k.driving hu
    obtain ⟨hs, hD', hQ'⟩ := h.driving ht
    exact ⟨hs, hD.trans hD', hQ.trans hQ'⟩

end Unanswered

/-- A latch in the motor's own arrival leaves its port for the answer, and an energised drive has not latched (R58). -/
theorem unanswered_deliverCause (m : Motor) (c : CauseId) (v : DWord) (s : State) :
    Unanswered m s (deliverCause (ownDelivery m) c v s) where
  transmitter := by
    rw [deliverCause_link]
    split
    · exact blockBoth_transmitter m s
    · rfl
  band := by
    rw [deliverCause_reg]
    split <;> rfl
  driving h := by
    rw [energised, deliverCause_run] at h
    split at h
    · exact absurd h (by simp [RunController.tripped, DriveState.energised])
    · next hl =>
      rw [deliverCause_reg, if_neg (fun hc => hl hc.1)]
      exact ⟨h, rfl, rfl⟩

theorem unanswered_taken (m : Motor) (f : FeedbackFrame) (s : State) : Unanswered m s (arrivalTaken m f s) where
  transmitter := by
    rw [(arrivalTaken_frame m f s).2.2.2.2.2.2.2.1, acceptFeedback_eq]
    cases m <;> simp [Link.transmitter]
  band := by rw [arrivalTaken_reg, if_pos rfl]; rfl
  driving h := by
    rw [arrivalTaken_reg, if_pos rfl]
    exact ⟨by simpa [energised] using h, rfl, rfl⟩

theorem unanswered_judgeOvertemp (m : Motor) (s : State) : Unanswered m s (judgeOvertemp m s) := by
  have hset (on : Bool) : Unanswered m s (setOvertemp m on s) :=
    ⟨by simp, by rw [setOvertemp_reg, if_pos rfl],
      fun h => by rw [setOvertemp_reg, if_pos rfl]; exact ⟨by simpa [energised] using h, rfl, rfl⟩⟩
  by_cases hh : inDriveSet s m = true ∧ (driveFieldsOf s).thermEnd ≤ (s.reg m).temp
  · rw [judgeOvertemp_hot hh.1 hh.2]
    exact (hset true).trans (unanswered_deliverCause m _ _ _)
  · obtain he | he := judgeOvertemp_cool hh <;> rw [he]
    · exact .refl m s
    · exact hset false

theorem unanswered_judgeModFault (m : Motor) (s : State) : Unanswered m s (judgeModFault m s) := by
  have hset (on : Bool) : Unanswered m s (setModFault m on s) :=
    ⟨by simp, by rw [setModFault_reg, if_pos rfl],
      fun h => by rw [setModFault_reg, if_pos rfl]; exact ⟨by simpa [energised] using h, rfl, rfl⟩⟩
  by_cases hf : inDriveSet s m = true ∧ (s.reg m).modState = .fault
  · rw [judgeModFault_fault hf.1 hf.2]
    exact (hset true).trans (unanswered_deliverCause m _ _ _)
  · obtain he | he := judgeModFault_sound hf <;> rw [he]
    · exact .refl m s
    · exact hset false

/-- The run controller's step energises nothing, and blocks the other port alone (R58). -/
theorem unanswered_runAtArrival (m : Motor) (s : State) : Unanswered m s (runAtArrival m s) := by
  have hjudged (h : s.run.state = .off ∨ s.run.state = .ready) : Unanswered m s (evaluateReady s) :=
    .of_regs (by simp [evaluateReady_still h]) (State.reg_congr (by simp) (by simp) m)
  unfold runAtArrival
  split
  · next hs =>
    split
    · exact hjudged (.inl hs)
    · exact .refl m s
  · next hs =>
    split
    · exact hjudged (.inr hs)
    · exact .refl m s
  · next hs =>
    split
    · exact .of_regs (fun _ => by simp [energised, hs, DriveState.energised]) (State.reg_congr (by simp) (by simp) m)
    · exact .refl m s
  · split
    · exact ⟨by rw [endStop_link, blockBoth_transmitter], by rw [endStop_reg]; rfl, by simp [endStop_still]⟩
    · exact .refl m s
  all_goals exact .refl m s

/-- Up to the answer of an arrival. -/
theorem unanswered_torque (m : Motor) (f : FeedbackFrame) (s : State) : Unanswered m s (arrivalTorque m f s) := by
  have hstart : Unanswered m s (arrivalStart m f s) :=
    (((unanswered_taken m f s).trans (unanswered_judgeOvertemp m _)).trans (unanswered_judgeModFault m _)).trans
      (unanswered_runAtArrival m _)
  have hformed (n : Nat) (x : State) : Unanswered m x (torqueFormed n x) := .of_regs id (by cases m <;> rfl) rfl
  unfold arrivalTorque
  split
  · obtain ⟨n, ht | ht⟩ := torqueAtArrival_cases m (arrivalStart m f s) <;> rw [ht]
    · exact hstart.trans (hformed n _)
    · exact (hstart.trans (hformed n _)).trans (unanswered_deliverCause m _ _ _)
  · exact hstart

/-! ### The answer (R57 to R64) -/

/-- The VCMD a regulator answers with (R57, R64). -/
def answerCommand (m : Motor) (s : State) : Vcmd :=
  if driven s m then { seq := (s.reg m).lastSeq, vd := (dAxis s m).v, vq := (qAxis s m).v, block := false }
  else blockingCommand (s.reg m)

theorem answerFrame_driven {m : Motor} {s : State} (h : driven s m = true) : answerFrame m s = answerWorking m s := by
  simp only [driven] at h
  simp [answerFrame, h]

theorem answerFrame_blocked {m : Motor} {s : State} (h : driven s m = false) : answerFrame m s = sendBlocking m s := by
  simp only [driven] at h
  simp [answerFrame, h]

theorem answerFrame_link (m : Motor) (s : State) :
    (answerFrame m s).link = s.link.sendVcmd m (answerCommand m s) := by
  unfold answerCommand
  cases h : driven s m
  · rw [answerFrame_blocked h, sendBlocking_link]
    rfl
  · rw [answerFrame_driven h]
    cases m <;> simp [answerWorking, sendVcmd]

/-- The regulator of a working answer: its band, its integrators and the voltages sent (R59 to R64). -/
theorem answerWorking_reg (m : Motor) (s : State) :
    (answerWorking m s).reg m = { s.reg m with
      band := bandAt s m, intD := (dAxis s m).int, intQ := (qAxis s m).int
      vdLast := (dAxis s m).v, vqLast := (qAxis s m).v } := by
  cases m <;> simp [answerWorking, sendVcmd]

theorem SameLog.raiseVclip {s t : State} (h : SameLog s t) (m : Motor) (band : Fin 8) (axis : Nat) (a : AxisResult) :
    SameLog (raiseVclip m band axis a s) (raiseVclip m band axis a t) := by
  unfold Machine.raiseVclip
  split
  · exact h
  · exact h.raise _ _ _ _ _

/-- The records of a working answer, D before Q (R63). -/
theorem sameLog_answerWorking (m : Motor) (s : State) :
    SameLog (answerWorking m s)
      (raiseVclip m (bandAt s m) 1 (qAxis s m) (raiseVclip m (bandAt s m) 0 (dAxis s m) s)) := by
  have hset (r : Regulator) : SameLog (s.setReg m r) s :=
    .of_blocks (by simp) (by simp) (by simp) (by simp) (by simp) (by simp)
  have hsend (v : Vcmd) (x : State) : SameLog (sendVcmd m v x) x :=
    .of_blocks (by simp) (by simp) (by simp) (by simp) (by simp) (by simp [sendVcmd, Link.sendVcmd_kept])
  exact (hsend _ _).trans (((hset _).raiseVclip m _ 0 _).raiseVclip m _ 1 _)

/-! ### Behind the answer (R52, step 5) -/

/-- A freeze leaves the recorder neither ARMED nor in its post part (R119, R120). -/
theorem freeze_closed (reason : PostReason) (s : State) :
    (freeze reason s).recorder.state ≠ .armed ∧ (freeze reason s).recorder.state ≠ .post := by
  by_cases h : s.store.activity = .idle ∨ s.store.activity = .erasing
  · rw [freeze_taken h, takeOffer_new rfl, chooseWork_recorder, placeNew_recorder]
    split <;> simp [Recorder.numbered, frozenAt]
  · rw [not_or] at h
    rw [freeze_waits h.1 h.2]
    simp [frozenAt]

/-- Short of a freeze a snapshot raises nothing (R115, R117). -/
theorem takeSnapshot_log {s : State}
    (h : (takeSnapshot s).recorder.state = .armed ∨ (takeSnapshot s).recorder.state = .post
      ∨ s.recorder.state = .frozen ∨ s.recorder.state = .writing ∨ s.recorder.state = .done) :
    (takeSnapshot s).log = s.log := by
  cases hs : s.recorder.state
  case armed => rw [takeSnapshot_armed hs]
  case post =>
    rw [takeSnapshot_post hs] at h ⊢
    split at h
    · obtain ⟨ha, hp⟩ := freeze_closed .target (postAppended s)
      simp [ha, hp, hs] at h
    · next ht => rw [if_neg ht, (postAppended_frame s).2.2.1]
  all_goals rw [takeSnapshot_closed (by simp [hs])]

/-- An arrival that freezes no record raises nothing behind its answer. -/
theorem arrivalEnd_log {m : Motor} {f : FeedbackFrame} {s : State}
    (h : m ≠ paceMotor s ∨ (arrivalEnd m f s).recorder.state = .armed ∨ (arrivalEnd m f s).recorder.state = .post
      ∨ s.recorder.state = .frozen ∨ s.recorder.state = .writing ∨ s.recorder.state = .done) :
    (arrivalEnd m f s).log = (answerFrame m (arrivalTorque m f s)).log := by
  by_cases hm : m = paceMotor s
  · obtain ⟨⟨-, -, -, -, -, hlog, hrec, -⟩, -⟩ := arrivalEnd_read (f := f) hm
    have hkept : s.recorder.state = .frozen ∨ s.recorder.state = .writing ∨ s.recorder.state = .done →
        (arrivalGathered m f s).recorder = s.recorder := by
      obtain hr | ⟨ha, -⟩ := (arrivalGathered_recorder m f s).1
      · exact fun _ => hr
      · simp [ha]
    rw [hlog, arrivalSnapped, takeSnapshot_log, arrivalGathered_kept]
    rw [hrec] at h
    obtain h | h | h | h := h
    · exact absurd hm h
    · exact .inl h
    · exact .inr (.inl h)
    · exact .inr (.inr (by rwa [hkept h]))
  · rw [arrivalEnd, if_neg (by simpa [isPace] using hm)]

/-- The regulators and the ports end the arrival as its answer leaves them. -/
theorem arrivalEnd_answered (m k : Motor) (f : FeedbackFrame) (s : State) :
    (arrivalEnd m f s).reg k = (answerFrame m (arrivalTorque m f s)).reg k
      ∧ (arrivalEnd m f s).link.vcmds k = (answerFrame m (arrivalTorque m f s)).link.vcmds k := by
  unfold arrivalEnd
  split
  · exact ⟨paceWork_reg _ _ k, (paceWork_link_kept _ _).2.2 k⟩
  · exact ⟨rfl, rfl⟩

/-! ### The answered arrival -/

section

variable (m : Motor) (f : FeedbackFrame) (s : State)

/-- What the answer reads of the frame (R51, R61). -/
theorem arrivalTorque_measured :
    ((arrivalTorque m f s).reg m).lastSeq = f.seq ∧ ((arrivalTorque m f s).reg m).idMeas = f.id.toInt
      ∧ ((arrivalTorque m f s).reg m).iqMeas = f.iq.toInt ∧ ((arrivalTorque m f s).reg m).speed = f.speed.toInt := by
  have hcore : ((arrivalEnd m f s).reg m).core = ((arrivalTorque m f s).reg m).core := by
    rw [(arrivalEnd_answered m m f s).1]
    exact (arrivalKeeps_answerFrame m _).core m
  obtain ⟨-, hseq, hid, hiq, hspeed, -⟩ := feedback_takenIn m f s
  exact ⟨(congrArg Regulator.lastSeq hcore.symm :).trans hseq, (congrArg Regulator.idMeas hcore.symm :).trans hid,
    (congrArg Regulator.iqMeas hcore.symm :).trans hiq, (congrArg Regulator.speed hcore.symm :).trans hspeed⟩

theorem arrivalTorque_tab : (arrivalTorque m f s).tab = s.tab :=
  (arrivalKeeps_torque m f s).tab.trans (by simp)

/-- The drive and the set at the end of the arrival are those its answer found (R57). -/
theorem arrivalEnd_driven : driven (arrivalEnd m f s) m = driven (arrivalTorque m f s) m := by
  have hrun : (arrivalEnd m f s).run = (arrivalTorque m f s).run := (arrivalEnd_frame m f s).1
  rw [driven, driven, energised_congr (congrArg RunController.state hrun),
    inDriveSet_congr ((arrivalEnd_tab m f s).trans (arrivalTorque_tab m f s).symm)]

/-- One VCMD goes out on the motor's port (R57, R58). -/
theorem arrivalEnd_vcmds (h : LinkLaw s.link) :
    (arrivalEnd m f s).link.vcmds m = s.link.vcmds m ++ [answerCommand m (arrivalTorque m f s)] := by
  rw [(arrivalEnd_answered m m f s).2, answerFrame_link,
    Link.vcmds_sendVcmd_own h (unanswered_torque m f s).transmitter]

variable {m f s}

/-- A motor that is not driven is blocked (R57). -/
theorem arrivalEnd_answersBlocking (hd : driven (arrivalTorque m f s) m = false) :
    let t := arrivalEnd m f s
    let x := arrivalTorque m f s
    answerCommand m x = blockingCommand (x.reg m)
      ∧ t.reg m = { x.reg m with intD := 0, intQ := 0, vdLast := 0, vqLast := 0 }
      ∧ (t.reg m).band = (s.reg m).band ∧ (answerFrame m x).log = x.log := by
  have hreg : (arrivalEnd m f s).reg m
      = { (arrivalTorque m f s).reg m with intD := 0, intQ := 0, vdLast := 0, vqLast := 0 } := by
    rw [(arrivalEnd_answered m m f s).1, answerFrame_blocked hd, sendBlocking_reg, if_pos rfl]
  refine ⟨by simp [answerCommand, hd], hreg, ?_, by rw [answerFrame_blocked hd]; simp⟩
  rw [hreg]
  exact (unanswered_torque m f s).band

/-- A driven motor's answer is that of the two axes (R59 to R64). -/
theorem arrivalEnd_answersWorking (hd : driven (arrivalTorque m f s) m = true) :
    let t := arrivalEnd m f s
    let x := arrivalTorque m f s
    answerCommand m x = { seq := (x.reg m).lastSeq, vd := (dAxis x m).v, vq := (qAxis x m).v, block := false }
      ∧ t.reg m = { x.reg m with
        band := bandAt x m, intD := (dAxis x m).int, intQ := (qAxis x m).int
        vdLast := (dAxis x m).v, vqLast := (qAxis x m).v }
      ∧ (answerFrame m x).log
        = (raiseVclip m (bandAt x m) 1 (qAxis x m) (raiseVclip m (bandAt x m) 0 (dAxis x m) x)).log := by
  refine ⟨by simp [answerCommand, hd], ?_, ?_⟩
  · rw [(arrivalEnd_answered m m f s).1, answerFrame_driven hd, answerWorking_reg]
  · rw [answerFrame_driven hd]
    exact (sameLog_answerWorking m _).log

/-- The axes of a driven motor, from the integrators before the arrival and the gains of its band (R59, R61). -/
theorem arrivalEnd_axes (hd : driven (arrivalTorque m f s) m = true) {g : GainTable} (hg : activeGain s = some g) :
    let t := arrivalEnd m f s
    let x := arrivalTorque m f s
    let b := g.bands[(t.reg m).band]
    bandOf g (mag f.speed.toInt) = (t.reg m).band
      ∧ dAxis x m = piAxis b.idRef f.id.toInt (s.reg m).intD b.kpD b.kiD b.vdLim
      ∧ qAxis x m = piAxis (iqRefFor t m) f.iq.toInt (s.reg m).intQ b.kpQ b.kiQ b.vqLim := by
  obtain ⟨-, hid, hiq, hspeed⟩ := arrivalTorque_measured m f s
  obtain ⟨-, hreg, -⟩ := arrivalEnd_answersWorking hd
  have hband : ((arrivalEnd m f s).reg m).band = bandAt (arrivalTorque m f s) m := by rw [hreg]
  have hgain : gainOf (arrivalTorque m f s) = g := by
    rw [activeGain, ← arrivalTorque_tab m f s] at hg
    simp [gainOf, activeGain, hg]
  have he : energised (arrivalTorque m f s) = true := by
    simp only [driven, Bool.and_eq_true] at hd
    exact hd.1
  obtain ⟨-, hD, hQ⟩ := (unanswered_torque m f s).driving he
  have hlim : (arrivalEnd m f s).lim = (arrivalTorque m f s).lim := (arrivalEnd_frame m f s).2.1
  have hiqRef : iqRefFor (arrivalTorque m f s) m = iqRefFor (arrivalEnd m f s) m := by
    simp only [iqRefFor, hlim]
  refine ⟨by rw [hband, bandAt, hgain, hspeed], ?_, ?_⟩
  · simp only [dAxis, hgain, hid, hD, hband]
  · simp only [qAxis, hgain, hiq, hQ, hiqRef, hband]

end

/-- Settles O54: the answer is that of the state the arrival has reached, which has left the port, the band and, where
the motor is driven, the integrators to it. -/
theorem feedbackIsAnsweredOnce : Obligations.FeedbackIsAnsweredOnce := by
  unfold Obligations.FeedbackIsAnsweredOnce
  intro m f s hlaw u torqued
  have htorqued : arrivalTorque m f s = torqued := by simp [arrivalTorque, isPace, torqued, u]
  obtain ⟨hseq, -⟩ := arrivalTorque_measured m f s
  have hdriven := arrivalEnd_driven m f s
  refine ⟨arrivalEnd m f s, answerCommand m (arrivalTorque m f s), exec_feedback m f s, arrivalEnd_vcmds m f s hlaw, ?_⟩
  cases hd : driven (arrivalTorque m f s) m with
  | false =>
    obtain ⟨hv, hreg, hband, hlog⟩ := arrivalEnd_answersBlocking hd
    rw [hd, driven] at hdriven
    rw [hv, hdriven]
    refine ⟨hseq, by rw [hreg]; rfl, by rw [hreg]; rfl, rfl,
      fun _ => ⟨rfl, rfl, by rw [hreg], by rw [hreg], hband, fun hq => ?_⟩, nofun⟩
    rw [arrivalEnd_log hq, hlog, htorqued]
  | true =>
    obtain ⟨hv, hreg, hlog⟩ := arrivalEnd_answersWorking hd
    rw [hd, driven] at hdriven
    rw [hv, hdriven]
    refine ⟨hseq, by rw [hreg], by rw [hreg], rfl, nofun, fun _ g hg => ?_⟩
    obtain ⟨hband, hdAxis, hqAxis⟩ := arrivalEnd_axes hd hg
    obtain ⟨hbelow, habove⟩ := bandOf_first hband
    rw [natCast_mag] at hbelow habove
    intro b iqRef d q clipped
    have hdq : dAxis (arrivalTorque m f s) m = d ∧ qAxis (arrivalTorque m f s) m = q := ⟨hdAxis, hqAxis⟩
    have hb : ((arrivalEnd m f s).reg m).band = bandAt (arrivalTorque m f s) m := by rw [hreg]
    rw [hdq.1, hdq.2, ← hb, htorqued] at hlog
    rw [hdq.1, hdq.2]
    refine ⟨hbelow, habove, rfl, rfl, by rw [hreg, hdq.1], by rw [hreg, hdq.2], piAxis_v_le _ _ _ _ _,
      piAxis_v_le _ _ _ _ _, fun hq => (arrivalEnd_log hq).trans ?_⟩
    rw [htorqued]
    exact hlog

end Sys2Proof.Machine

/-! The watch law (O7): the delivered derate is the least factor of the channels that count, and a channel is OFF
exactly while it is not enabled.  A channel's record is replaced by one that fits its enable bit, and every change of a
channel's state is followed by a delivery; everything else leaves alone what the law reads. -/

namespace Sys2Proof.Machine

/-! ### States that agree for the law -/

/-- The watch, its table and the delivered derate stand as they were. -/
structure SameWatch (s t : State) : Prop where
  vib : t.vib = s.vib
  table : t.tab.vib = s.tab.vib
  derate : t.lim.stack.vibDerate = s.lim.stack.vibDerate

namespace SameWatch

variable {s t u : State}

/-- The blocks in which the states agree; the frame lemmas give them. -/
theorem of_blocks (vib : t.vib = s.vib := by simp) (table : t.tab.vib = s.tab.vib := by simp)
    (derate : t.lim.stack.vibDerate = s.lim.stack.vibDerate := by simp) : SameWatch s t :=
  ⟨vib, table, derate⟩

/-- Whatever a feedback arrival does behind its intake leaves the watch alone, and so do the operations of the drive
it is made of. -/
theorem of_arrival (h : ArrivalKeeps s t) : SameWatch s t := ⟨h.vib, by rw [h.tab], h.vibDerate⟩

theorem refl (s : State) : SameWatch s s := of_blocks

theorem trans (h : SameWatch s t) (k : SameWatch t u) : SameWatch s u :=
  ⟨k.vib.trans h.vib, k.table.trans h.table, k.derate.trans h.derate⟩

end SameWatch

/-- What the rules of the watch read of the table (R84). -/
theorem channelConfig_congr {s t : State} (h : t.tab.vib = s.tab.vib) (c : Fin 6) :
    channelConfig t c = channelConfig s c := by
  simp [channelConfig, activeVib, h]

theorem channelEnabled_congr {s t : State} (h : t.tab.vib = s.tab.vib) (c : Fin 6) :
    channelEnabled t c = channelEnabled s c := by
  rw [channelEnabled, channelEnabled, channelConfig_congr h]

/-- The derate is a matter of the table and of the channels' states (R82). -/
theorem derateNow_congr {s t : State} (h : t.tab.vib = s.tab.vib)
    (hs : ∀ c : Fin 6, t.vib.channels[c].state = s.vib.channels[c].state) : derateNow t = derateNow s := by
  have hv : activeVib t = activeVib s := by simp [activeVib, h]
  have hd (c : Fin 6) (required : Bool) :
      t.vib.channels[c].derates required = s.vib.channels[c].derates required := by simp only [Channel.derates, hs]
  unfold derateNow
  rw [hv]
  cases activeVib s with
  | none => rfl
  | some v => simp only [vibrationDerate, hd]

theorem derateNow_setChannel {c : Fin 6} {x : Channel} {s : State} (hx : x.state = s.vib.channels[c].state) :
    derateNow (setChannel c x s) = derateNow s := by
  refine derateNow_congr (by simp) fun k => ?_
  rw [setChannel_channel]
  split
  · next hk => rw [hx, hk]
  · rfl

/-! ### The parts of the law -/

/-- A channel is OFF exactly while it is not enabled, and an OFF channel runs no silence timer (R73, R83, R85). -/
def Channel.fits (x : Channel) (enabled : Bool) : Prop :=
  (x.state = .off ↔ enabled = false) ∧ (x.silenceTimer.runs → x.state ≠ .off)

def ChannelsLaw (s : State) : Prop := ∀ c : Fin 6, s.vib.channels[c].fits (channelEnabled s c)

theorem watchLaw_iff (s : State) :
    WatchLaw s ↔ ChannelsLaw s ∧ s.lim.stack.vibDerate = derateNow s ∧ s.vib.derate = s.lim.stack.vibDerate :=
  ⟨fun h => ⟨fun c => ⟨h.off c, h.silence c⟩, h.derate, h.delivered⟩,
    fun ⟨hc, hd, he⟩ => ⟨hd, he, fun c => (hc c).1, fun c => (hc c).2⟩⟩

theorem WatchLaw.channels {s : State} (h : WatchLaw s) : ChannelsLaw s := ((watchLaw_iff s).mp h).1

theorem WatchLaw.of_same {s t : State} (h : WatchLaw s) (k : SameWatch s t) : WatchLaw t where
  derate := by rw [k.derate, h.derate, derateNow_congr k.table fun c => by rw [k.vib]]
  delivered := by rw [k.vib, k.derate, h.delivered]
  off c := by rw [k.vib, channelEnabled_congr k.table]; exact h.off c
  silence c := by rw [k.vib]; exact h.silence c

/-- A delivery makes the derate what the channels give (R82). -/
theorem ChannelsLaw.delivered {s : State} (h : ChannelsLaw s) : WatchLaw (deliverVibDerate s) :=
  (watchLaw_iff _).mpr ⟨h, rfl, rfl⟩

/-- Only one channel's record is changed, into one that fits. -/
theorem ChannelsLaw.of_channel {s t : State} (h : ChannelsLaw s) (c : Fin 6)
    (hother : ∀ k, k ≠ c → t.vib.channels[k] = s.vib.channels[k]) (hown : t.vib.channels[c].fits (channelEnabled s c))
    (htab : t.tab = s.tab := by simp) : ChannelsLaw t := by
  intro k
  have he : channelEnabled t k = channelEnabled s k := channelEnabled_congr (by rw [htab]) k
  rw [he]
  by_cases hk : k = c
  · rw [hk]
    exact hown
  · rw [hother k hk]
    exact h k

/-! ### Changes of a channel (R73 to R83) -/

/-- A channel's record changes in what the derate does not read. -/
theorem WatchLaw.setChannel {s : State} (h : WatchLaw s) {c : Fin 6} {x : Channel}
    (hs : x.state = s.vib.channels[c].state) (ht : x.silenceTimer.runs → s.vib.channels[c].state ≠ .off) :
    WatchLaw (setChannel c x s) := by
  refine (watchLaw_iff _).mpr ⟨h.channels.of_channel c (fun k hk => by rw [setChannel_channel, if_neg hk]) ?_, ?_, ?_⟩
  · rw [setChannel_channel, if_pos rfl, Channel.fits, hs]
    exact ⟨h.off c, ht⟩
  · rw [derateNow_setChannel hs, setChannel_frame c x s |>.2.1, h.derate]
  · simpa using h.delivered

/-- A channel that is enabled changes to a state that is not OFF (R78, R81). -/
theorem ChannelsLaw.changeChannel {s : State} (h : ChannelsLaw s) {c : Fin 6} (hc : s.vib.channels[c].state ≠ .off)
    {new : ChannelState} (hnew : new ≠ .off) (x : VibReason) (n : Nat) : ChannelsLaw (changeChannel c new x n s) := by
  refine h.of_channel c (fun k hk => by rw [changeChannel_channel, if_neg hk]) ?_
  rw [changeChannel_channel, if_pos rfl]
  exact ⟨iff_of_false hnew fun he => hc ((h c).1.mpr he), fun _ => hnew⟩

theorem sameWatch_deliverCause (d : Delivery) (c : CauseId) (v : DWord) (s : State) :
    SameWatch s (deliverCause d c v s) := .of_arrival (arrivalKeeps_deliverCause d c v s)

/-- VIB_DANGER and its cause change no state (R79). -/
theorem WatchLaw.enterDanger {s : State} (h : WatchLaw s) (c : Fin 6) (n : Nat) : WatchLaw (enterDanger c n s) := by
  have hset : WatchLaw (Machine.setChannel c { s.vib.channels[c] with danger := true } s) :=
    h.setChannel rfl (h.silence c)
  have hdanger : WatchLaw (setVibDanger c true s) := hset.of_same (.of_blocks rfl rfl rfl)
  exact hdanger.of_same (sameWatch_deliverCause _ _ _ _)

/-- No window makes a channel OFF (R78). -/
theorem stateAfterWindow_ne_off (cfg : ChannelConfig) {x : ChannelState} (hx : x ≠ .off) (count level : Nat) :
    stateAfterWindow cfg x count level ≠ .off := by
  unfold stateAfterWindow
  (repeat' split) <;> first | exact absurd rfl hx | decide

theorem judgeWindow_eq (c : Fin 6) (cfg : ChannelConfig) (s : State) :
    judgeWindow c cfg s =
      let x := s.vib.channels[c]
      let count := persistAfter cfg x.persist (x.level cfg)
      let new := stateAfterWindow cfg x.state count (x.level cfg)
      let u := setChannel c { x with lastLevel := x.level cfg, persist := count } s
      let changed := deliverVibDerate (changeChannel c new .window (x.level cfg) u)
      if x.state = new then u else if new = .danger then enterDanger c (x.level cfg) changed else changed := rfl

theorem WatchLaw.judgeWindow {s : State} (h : WatchLaw s) {c : Fin 6} (hc : s.vib.channels[c].state ≠ .off)
    (cfg : ChannelConfig) : WatchLaw (judgeWindow c cfg s) := by
  rw [judgeWindow_eq]
  extract_lets x count new u changed
  have hu : WatchLaw u := h.setChannel rfl (h.silence c)
  have huc : u.vib.channels[c].state ≠ .off := by
    rw [setChannel_channel, if_pos rfl]
    exact hc
  have hchanged : WatchLaw changed :=
    (hu.channels.changeChannel huc (stateAfterWindow_ne_off cfg hc _ _) _ _).delivered
  split
  · exact hu
  · split
    · exact hchanged.enterDanger c _
    · exact hchanged

/-- What a window leaves for the next one is in the same state, with the same timer (R75). -/
theorem Channel.nextWindow_kept (x : Channel) (gap : Nat) :
    (x.nextWindow gap).state = x.state ∧ (x.nextWindow gap).silenceTimer = x.silenceTimer := by
  unfold Channel.nextWindow
  split <;> exact ⟨rfl, rfl⟩

theorem Channel.skipped_state (x : Channel) (gap : Nat) : (x.skipped gap).state = x.state := by
  unfold Channel.skipped
  split <;> rfl

/-- A frame is taken by a channel that is not OFF (R73). -/
theorem WatchLaw.takeFrame {s : State} (h : WatchLaw s) {c : Fin 6} (hc : s.vib.channels[c].state ≠ .off)
    (cfg : ChannelConfig) (samples : Vector Word 8) : WatchLaw (takeFrame c cfg samples s) := by
  unfold Machine.takeFrame
  dsimp only
  split
  · have hg : WatchLaw (Machine.setChannel c (Channel.gathered
        { s.vib.channels[c] with silenceTimer := .running cfg.silenceTime } samples) s) :=
      h.setChannel rfl fun _ => hc
    split
    · have hj := hg.judgeWindow (c := c) (by rw [setChannel_channel, if_pos rfl]; exact hc) cfg
      obtain ⟨hstate, htimer⟩ := Channel.nextWindow_kept (Machine.judgeWindow c cfg (Machine.setChannel c
        (Channel.gathered { s.vib.channels[c] with silenceTimer := .running cfg.silenceTime } samples) s)).vib.channels[c]
        cfg.gap
      exact hj.setChannel hstate (by rw [htimer]; exact hj.silence c)
    · exact hg
  · exact h.setChannel (Channel.skipped_state _ _) fun _ => hc

/-! ### Restarts and commits (R83, R85) -/

/-- A channel's record with its working state cleared, in a given state (R83, R85). -/
def Channel.restarted (x : Channel) (into : ChannelState) : Channel :=
  { x.cleared with
    state := into
    danger := if x.state = .danger ∧ into ≠ .danger then false else x.danger }

theorem Channel.restarted_fits (x : Channel) {into : ChannelState} {enabled : Bool}
    (h : into = .off ↔ enabled = false) : (x.restarted into).fits enabled :=
  ⟨h, fun hr => absurd rfl hr⟩

theorem restartChannel_channel (c k : Fin 6) (into : ChannelState) (x : VibReason) (s : State) :
    (restartChannel c into x s).vib.channels[k] =
      if k = c then s.vib.channels[c].restarted into else s.vib.channels[k] := by
  rw [restartChannel, setChannel_channel, changeChannel_channel, changeChannel_channel, if_pos rfl]
  split <;> rfl

/-- The state a VIB commit puts a channel into (R85). -/
def committedState (s : State) (c : Fin 6) : ChannelState := if channelEnabled s c then .silent else .off

theorem committedState_off (s : State) (c : Fin 6) : committedState s c = .off ↔ channelEnabled s c = false := by
  unfold committedState
  cases channelEnabled s c <;> decide

theorem committedState_ne_danger (s : State) (c : Fin 6) : committedState s c ≠ .danger := by
  unfold committedState
  split <;> decide

theorem setUpChannel_channel (c k : Fin 6) (s : State) :
    (setUpChannel c s).vib.channels[k] =
      if k = c then s.vib.channels[c].restarted (committedState s c) else s.vib.channels[k] :=
  restartChannel_channel c k _ _ s

theorem Channel.restarted_restarted (x : Channel) (into : ChannelState) :
    (x.restarted into).restarted into = x.restarted into := by
  simp [Channel.restarted, Channel.cleared, Channel.emptyWindow]

/-- The channels that have been set up are restarted, the others stand. -/
theorem foldl_setUpChannel_channel (l : List (Fin 6)) (s : State) (k : Fin 6) :
    (l.foldl (fun s c => setUpChannel c s) s).vib.channels[k] =
      if k ∈ l then s.vib.channels[k].restarted (committedState s k) else s.vib.channels[k] := by
  induction l generalizing s with
  | nil => simp
  | cons c l ih =>
    have hstate : committedState (setUpChannel c s) k = committedState s k := by
      rw [committedState, committedState, channelEnabled_congr (s := s) (by simp)]
    rw [List.foldl_cons, ih, hstate, setUpChannel_channel]
    by_cases hk : k = c
    · subst hk
      simp [Channel.restarted_restarted]
    · simp [hk]

theorem vibCommit_channel (s : State) (k : Fin 6) :
    (vibCommit s).vib.channels[k] = s.vib.channels[k].restarted (committedState s k) := by
  have hall : k ∈ allChannels := by revert k; decide
  exact (foldl_setUpChannel_channel allChannels s k).trans (if_pos hall)

/-- A VIB commit establishes the law, whatever stood before (R85). -/
theorem watchLaw_vibCommit (s : State) : WatchLaw (vibCommit s) := by
  refine ChannelsLaw.delivered fun c => ?_
  have hk : (vibCommit s).vib.channels[c].fits (channelEnabled s c) := by
    rw [vibCommit_channel]
    exact Channel.restarted_fits _ (committedState_off s c)
  rwa [channelEnabled_congr (s := s) (by simp [allChannels])]

theorem WatchLaw.fallSilent {s : State} (h : WatchLaw s) {c : Fin 6} (hc : s.vib.channels[c].state ≠ .off) :
    WatchLaw (fallSilent c s) := by
  unfold Machine.fallSilent
  split
  · exact h
  · exact (h.channels.changeChannel hc (by decide) _ _).delivered

theorem WatchLaw.vibRestart {s : State} (h : WatchLaw s) (args : List Byte) : WatchLaw (vibRestart args s).state := by
  simp only [Machine.vibRestart, vibRestartChannel, refuse]
  (repeat' split)
  · next he =>
    refine ChannelsLaw.delivered (h.channels.of_channel _ (fun k hk => by rw [restartChannel_channel, if_neg hk]) ?_)
    rw [restartChannel_channel, if_pos rfl]
    exact Channel.restarted_fits _ (by simp [he])
  · exact h.channels.delivered
  · exact h
  · exact h

/-! ### Requests -/

/-- RESTART keeps the watch (R187). -/
theorem sameWatch_restartAll (s : State) : SameWatch s (restartAll s) := by
  have hrecord (d : DriveState) (u : State) :
      (restartRecord d u).lim.stack.vibDerate = u.lim.stack.vibDerate := by
    unfold restartRecord
    split <;> simp [compute_lim_kept]
  have hcleared : SameWatch s (restartCleared s) :=
    .of_blocks (derate := by simp [restartCleared, restartLimiter, restartRecorder, hrecord, restartRun])
  rw [restartAll_eq]
  exact hcleared.trans (.of_arrival (arrivalKeeps_evaluateReady _))

theorem sameWatch_acceptTripReset (s : State) : SameWatch s (acceptTripReset s) :=
  .of_blocks (derate := by simp [acceptTripReset, compute_lim_kept, enterReadyOrOff])

/-- A VIB commit sets the watch up, the commit of another table leaves it alone (R171). -/
theorem WatchLaw.acceptCommit {s : State} (h : WatchLaw s) (n : Bool) (b : Staging) (fields : List Int) (k : Nat) :
    WatchLaw (acceptCommit n b fields k s) := by
  unfold Machine.acceptCommit
  dsimp only
  have hraise (u : State) : SameWatch u (raiseTable b.table b.version k u) := .of_blocks
  refine WatchLaw.of_same ?_ (hraise _)
  have hshell (u : State) : SameWatch u (shellCommit u) := .of_blocks
  by_cases ht : b.table = .vib
  · rw [ht]
    dsimp only [informOwners]
    exact (watchLaw_vibCommit _).of_same (hshell _)
  · have hact : SameWatch s { s with tab := (s.tab.activate b.table b.version fields).setBuffer n none } :=
      .of_blocks (table := by cases hb : b.table <;> simp_all [TableManager.activate])
    obtain ⟨hvib, -, hderate⟩ := informOwners_vib ht (eventTable s).alertMode
      { s with tab := (s.tab.activate b.table b.version fields).setBuffer n none }
    exact h.of_same (hact.trans (.of_blocks (vib := hvib) (derate := hderate)))

theorem WatchLaw.tableCommit {s : State} (h : WatchLaw s) (args : List Byte) :
    WatchLaw (tableCommit args s).state := by
  have hbuffer (n : Bool) (b : Staging) : WatchLaw (commitBuffer n b s).state := by
    unfold commitBuffer
    split
    · exact h
    · split
      · exact h
      · split
        · exact h
        · split
          · exact h
          · exact h.acceptCommit _ _ _ _
  unfold Machine.tableCommit
  (repeat' split)
  · exact hbuffer _ _
  · exact h
  · exact h

theorem WatchLaw.restart {s : State} (h : WatchLaw s) (args : List Byte) : WatchLaw (restart args s).state := by
  simp only [Machine.restart, refuse]
  (repeat' split)
  · exact h
  · exact h
  · exact h.of_same (sameWatch_restartAll s)
  · exact h

theorem WatchLaw.tripReset {s : State} (h : WatchLaw s) (args : List Byte) : WatchLaw (tripReset args s).state := by
  simp only [Machine.tripReset, refuse]
  (repeat' split)
  · exact h
  · exact h
  · exact h.of_same (sameWatch_acceptTripReset s)
  · exact h
  · exact h

theorem Aside.sameWatch {s t : State} (h : Aside s t) : SameWatch s t := by
  obtain ⟨-, hlim, -, -, hvib, -, -, ⟨-, -, htable, -, -⟩, -⟩ := h
  exact ⟨hvib, htable, by rw [hlim]⟩

/-- Whatever request a code names, its owner keeps the law (R184). -/
theorem WatchLaw.requestOwner {s : State} (h : WatchLaw s) (code : Byte) (args : List Byte) :
    WatchLaw (requestOwner code args s).state := by
  by_cases hr : code.toNat = 3
  · simpa only [Machine.requestOwner, hr] using h.restart args
  by_cases hc : code.toNat = 6
  · simpa only [Machine.requestOwner, hc] using h.tableCommit args
  by_cases ht : code.toNat = 11
  · simpa only [Machine.requestOwner, ht] using h.tripReset args
  by_cases hv : code.toNat = 19
  · simpa only [Machine.requestOwner, hv] using h.vibRestart args
  · exact h.of_same (aside_requestOwner hr hc ht hv args s).sameWatch

/-- The request cycle accepts the frame, asks the owner, and places the answer in the link (R183). -/
theorem WatchLaw.serve {s : State} (h : WatchLaw s) (code : Byte) (r : Request) :
    WatchLaw (serve code r (Machine.requestOwner code r.args) s) := by
  have ha : WatchLaw (acceptFrame .S 0 r.seq s) := h.of_same .of_blocks
  cases hslot : s.link.slot with
  | none =>
    rw [serve_answered _ _ _ _ hslot]
    exact (ha.requestOwner code r.args).of_same .of_blocks
  | some a =>
    rw [serve_overrun _ _ _ _ a hslot]
    exact ha.of_same .of_blocks

/-! ### Arrivals -/

theorem sameWatch_execSetpoint {seq : Seq} {mode flags : Byte} {q : Word} {u : DWord} {s t : State}
    (he : execSetpoint seq mode flags q u s = .next t) : SameWatch s t := by
  obtain rfl := Host.Outcome.next.inj he
  obtain ⟨hlim, -⟩ := handOver_blocks (extTripOf flags) (modeIsRun mode)
    (storeSetpoint q u (acceptFrame .S 0 seq s))
  have hhand : SameWatch s (handOver (extTripOf flags) (modeIsRun mode) (storeSetpoint q u (acceptFrame .S 0 seq s))) :=
    .of_blocks (derate := by rw [hlim]; simp [storeSetpoint])
  exact hhand.trans (.of_arrival (arrivalKeeps_compute _))

theorem sameWatch_execFeedback {m : Motor} {f : FeedbackFrame} {s t : State} (he : execFeedback m f s = .next t) :
    SameWatch s t := by
  obtain rfl := Host.Outcome.next.inj ((exec_feedback m f s).symm.trans he)
  have htaken : SameWatch s (arrivalTaken m f s) := .of_blocks (derate := by rw [arrivalTaken_lim])
  have hcauses : SameWatch (arrivalTaken m f s) (arrivalCauses m f s) := by
    have hheld := held_judged m (arrivalTaken m f s)
    simp only [heldOf, Prod.mk.injEq] at hheld
    obtain ⟨-, -, -, -, hderate, -, -, -, -, hvib, htab, -⟩ := hheld
    exact ⟨hvib, congrArg TableManager.vib htab, hderate⟩
  exact (htaken.trans hcauses).trans (.of_arrival (arrivalKeeps_end m f s))

/-- An OFF channel and one without a table discard the frame (R73). -/
theorem execVibSample_discarded {c : Fin 6} {s : State}
    (h : s.vib.channels[c].state = .off ∨ channelConfig s c = none) (seq : Seq) (samples : Vector Word 8) :
    execVibSample c seq samples s = .next (acceptFrame .H (c.castLE (by decide)) seq s) := by
  have hg (k : Fin 8) : channelConfig (acceptFrame .H k seq s) c = channelConfig s c := channelConfig_congr (by simp) c
  have hv (k : Fin 8) : (acceptFrame .H k seq s).vib = s.vib := by simp
  unfold execVibSample
  dsimp only
  rw [hg, hv]
  split
  · rfl
  · rfl
  · next hsome hoff =>
    obtain h | h := h
    · exact absurd h hoff
    · exact absurd hsome (by simp [h])

/-- Any other channel takes it (R73). -/
theorem execVibSample_taken {c : Fin 6} {s : State} {cfg : ChannelConfig} (h : s.vib.channels[c].state ≠ .off)
    (hg : channelConfig s c = some cfg) (seq : Seq) (samples : Vector Word 8) :
    execVibSample c seq samples s
      = .next (takeFrame c cfg samples (acceptFrame .H (c.castLE (by decide)) seq s)) := by
  have he (k : Fin 8) : channelConfig (acceptFrame .H k seq s) c = some cfg :=
    (channelConfig_congr (by simp) c).trans hg
  have hv (k : Fin 8) : (acceptFrame .H k seq s).vib = s.vib := by simp
  unfold execVibSample
  dsimp only
  rw [he, hv]
  split
  · next hoff => exact absurd hoff h
  · next hn _ => exact absurd hn nofun
  · next hs _ => rw [Option.some.inj hs]; rfl

theorem WatchLaw.execVibSample {s t : State} (h : WatchLaw s) {c : Fin 6} {seq : Seq} {x : Vector Word 8}
    (he : execVibSample c seq x s = .next t) : WatchLaw t := by
  have ha : WatchLaw (acceptFrame .H (c.castLE (by decide)) seq s) := h.of_same .of_blocks
  by_cases hd : s.vib.channels[c].state = .off ∨ channelConfig s c = none
  · obtain rfl := Host.Outcome.next.inj ((execVibSample_discarded hd seq x).symm.trans he)
    exact ha
  · obtain ⟨hc, hn⟩ := not_or.mp hd
    obtain ⟨cfg, hg⟩ := Option.ne_none_iff_exists'.mp hn
    obtain rfl := Host.Outcome.next.inj ((execVibSample_taken hc hg seq x).symm.trans he)
    exact ha.takeFrame (by simpa using hc) cfg x

theorem sameWatch_execPosition {seq : Seq} {a : Word} {s t : State} (he : execPosition seq a s = .next t) :
    SameWatch s t := by
  unfold Machine.execPosition at he
  dsimp only at he
  split at he <;> obtain rfl := Host.Outcome.next.inj he <;> exact .of_blocks

/-- A refused frame is counted; one that passes the checks is taken as the arrival it is (R178). -/
theorem WatchLaw.execRefusedFrame {s t : State} (h : WatchLaw s) {p : Port} {bytes : List Byte}
    (he : execRefusedFrame p bytes s = .next t) : WatchLaw t := by
  unfold Machine.execRefusedFrame at he
  split at he
  · obtain rfl := Host.Outcome.next.inj he
    exact h.of_same .of_blocks
  · next a _ _ =>
    cases a with
    | setpoint seq mode flags q u => exact h.of_same (sameWatch_execSetpoint he)
    | request code r =>
      obtain rfl := Host.Outcome.next.inj he
      exact h.serve code r
    | feedback m f => exact h.of_same (sameWatch_execFeedback he)
    | vibSample c seq x => exact h.execVibSample he
    | position seq a => exact h.of_same (sameWatch_execPosition he)
  · obtain rfl := Host.Outcome.next.inj he
    exact h

/-! ### Timers and the ends of work -/

/-- The timers of the run controller, the torque limiter and the regulators reach the watch neither themselves nor by
the causes they deliver. -/
theorem sameWatch_expiries {s t : State} :
    (execBrkTimeExpiry s = .next t → SameWatch s t) ∧ (execBrkRestExpiry s = .next t → SameWatch s t)
      ∧ (execStopTimeExpiry s = .next t → SameWatch s t) ∧ (execStallTimerExpiry s = .next t → SameWatch s t)
      ∧ (execSetpointTimerExpiry s = .next t → SameWatch s t)
      ∧ (∀ m, execFeedbackTimerExpiry m s = .next t → SameWatch s t) := by
  refine ⟨fun he => ?_, fun he => ?_, fun he => ?_, fun he => ?_, fun he => ?_, fun m he => ?_⟩
  · unfold execBrkTimeExpiry at he
    split at he <;> obtain rfl := Host.Outcome.next.inj he
    · exact .refl s
    · dsimp only
      split
      · exact .trans (.of_blocks (t := changeDrive .resting _ _)) (.of_arrival (arrivalKeeps_compute _))
      · exact .trans (.of_blocks (t := raiseBrkEnd .fail _)) (sameWatch_deliverCause _ _ _ _)
  · unfold execBrkRestExpiry at he
    split at he <;> obtain rfl := Host.Outcome.next.inj he
    · exact .refl s
    · exact .trans (.of_blocks (derate := by simp [beginAttempt])) (.of_arrival (arrivalKeeps_compute _))
  · unfold execStopTimeExpiry at he
    split at he <;> obtain rfl := Host.Outcome.next.inj he
    · exact .refl s
    · exact .of_arrival (arrivalKeeps_endStop _ _ s)
  · unfold execStallTimerExpiry at he
    split at he <;> obtain rfl := Host.Outcome.next.inj he
    · exact .refl s
    · exact .trans (.of_blocks (t := { s with lim := { s.lim with stallTimer := .stopped } }))
        (sameWatch_deliverCause _ _ _ _)
  · unfold execSetpointTimerExpiry at he
    split at he <;> obtain rfl := Host.Outcome.next.inj he
    · exact .refl s
    · have hmiss : SameWatch s (countSetpointMiss s) := .of_blocks (derate := rfl)
      unfold checkSupLost
      split
      · exact (hmiss.trans .of_blocks).trans (sameWatch_deliverCause _ _ _ _)
      · exact hmiss
  · unfold execFeedbackTimerExpiry at he
    split at he <;> obtain rfl := Host.Outcome.next.inj he
    · exact .refl s
    · have hlost : SameWatch s (checkFbLost m (countFeedbackMiss m s)) := by
        unfold checkFbLost
        split
        · exact .trans (.of_blocks (t := setFbLost m true (countFeedbackMiss m s))) (sameWatch_deliverCause _ _ _ _)
        · exact .of_blocks
      split
      · exact hlost.trans (.of_arrival (arrivalKeeps_evaluateReady _))
      · exact hlost

/-- A silence timer runs on a channel that is not OFF (R73, R81). -/
theorem WatchLaw.execSilenceTimerExpiry {c : Fin 6} {s t : State} (h : WatchLaw s)
    (he : execSilenceTimerExpiry c s = .next t) : WatchLaw t := by
  unfold Machine.execSilenceTimerExpiry at he
  split at he <;> obtain rfl := Host.Outcome.next.inj he
  · exact h
  · next hrun =>
    have hc : s.vib.channels[c].state ≠ .off := h.silence c (by rw [hrun]; simp)
    have hquiet : WatchLaw (Machine.setChannel c
        { s.vib.channels[c].emptyWindow with persist := 0, silenceTimer := .stopped } s) :=
      h.setChannel rfl fun _ => hc
    refine hquiet.fallSilent ?_
    rw [setChannel_channel, if_pos rfl]
    exact hc

/-- The ends of a pulse, of a position, of a post part and of store work leave the watch alone. -/
theorem sameWatch_completions {s t : State} :
    (execPositionTimerExpiry s = .next t → SameWatch s t) ∧ (execPostLimitExpiry s = .next t → SameWatch s t)
      ∧ (execPulseTimerExpiry s = .next t → SameWatch s t) ∧ (execScanEnd s = .next t → SameWatch s t)
      ∧ (∀ x, execProgramCompletion x s = .next t → SameWatch s t)
      ∧ (∀ x, execEraseCompletion x s = .next t → SameWatch s t)
      ∧ (execBlankCheckCompletion s = .next t → SameWatch s t) := by
  refine ⟨fun he => ?_, fun he => ?_, fun he => ?_, fun he => ?_, fun x he => ?_, fun x he => ?_, fun he => ?_⟩
  · unfold execPositionTimerExpiry at he
    split at he <;> obtain rfl := Host.Outcome.next.inj he <;> exact .of_blocks
  · unfold execPostLimitExpiry at he
    split at he <;> obtain rfl := Host.Outcome.next.inj he <;> exact .of_blocks
  · unfold execPulseTimerExpiry at he
    split at he <;> obtain rfl := Host.Outcome.next.inj he <;> exact .of_blocks
  · unfold execScanEnd at he
    split at he <;> obtain rfl := Host.Outcome.next.inj he <;> exact .of_blocks
  · unfold execProgramCompletion at he
    split at he <;> obtain rfl := Host.Outcome.next.inj he <;> exact .of_blocks
  · unfold execEraseCompletion at he
    split at he <;> obtain rfl := Host.Outcome.next.inj he <;> exact .of_blocks
  · unfold execBlankCheckCompletion at he
    split at he <;> obtain rfl := Host.Outcome.next.inj he <;> exact .of_blocks

/-! ### Every command -/

/-- The law holds at every reset state (R188). -/
theorem watchLaw_afterReset (nv : Vector NvBank 4) (k : Nat) (line : Bool) (q : List Instr) :
    WatchLaw (State.afterReset nv k line q) :=
  reset_watchLaw.of_same ⟨rfl, rfl, rfl⟩

/-- Every command keeps the law. -/
theorem WatchLaw.exec {s t : State} (h : WatchLaw s) (i : Instr) (he : exec i s = .next t) : WatchLaw t := by
  obtain ⟨hbrk, hrest, hstop, hstall, hset, hfb⟩ := sameWatch_expiries (s := s) (t := t)
  obtain ⟨hpos, hpost, hpulse, hscan, hprog, herase, hblank⟩ := sameWatch_completions (s := s) (t := t)
  cases hr : Laws.requestParts i with
  | some p =>
    obtain rfl := Host.Outcome.next.inj ((exec_request hr s).symm.trans he)
    exact h.serve p.1 p.2
  | none =>
    cases i with
    | setpoint seq mode flags q u => exact h.of_same (sameWatch_execSetpoint he)
    | feedback m f => exact h.of_same (sameWatch_execFeedback he)
    | vibSample c seq x => exact h.execVibSample he
    | position seq a => exact h.of_same (sameWatch_execPosition he)
    | refusedFrame p bytes => exact h.execRefusedFrame he
    | hardwareReset =>
      obtain rfl := Host.Outcome.next.inj he
      exact watchLaw_afterReset _ _ _ _
    | lockLineChange asserted =>
      obtain rfl := Host.Outcome.next.inj he
      exact h.of_same .of_blocks
    | brkTimeExpiry => exact h.of_same (hbrk he)
    | brkRestExpiry => exact h.of_same (hrest he)
    | stopTimeExpiry => exact h.of_same (hstop he)
    | stallTimerExpiry => exact h.of_same (hstall he)
    | setpointTimerExpiry => exact h.of_same (hset he)
    | feedbackTimerExpiry m => exact h.of_same (hfb m he)
    | silenceTimerExpiry c => exact h.execSilenceTimerExpiry he
    | positionTimerExpiry => exact h.of_same (hpos he)
    | postLimitExpiry => exact h.of_same (hpost he)
    | pulseTimerExpiry => exact h.of_same (hpulse he)
    | scanEnd => exact h.of_same (hscan he)
    | programCompletion took => exact h.of_same (hprog took he)
    | eraseCompletion verified => exact h.of_same (herase verified he)
    | blankCheckCompletion => exact h.of_same (hblank he)
    | transmissionEnd =>
      obtain rfl := Host.Outcome.next.inj he
      exact h.of_same .of_blocks
    | vcmdTransmissionEnd m =>
      obtain rfl := Host.Outcome.next.inj he
      exact h.of_same .of_blocks
    | _ => simp [Laws.requestParts] at hr

/-- Settles O7: a channel changes state only with a delivery behind it, and all else leaves watch, table and derate
alone. -/
theorem stepKeepsWatchLaw : Obligations.StepKeepsWatchLaw := by
  unfold Obligations.StepKeepsWatchLaw
  intro s t h he
  unfold step at he
  split at he
  · obtain rfl := Host.Outcome.next.inj he
    exact h
  · next c rest _ => exact (h.of_same (t := s.withPending rest) .of_blocks).exec c he

end Sys2Proof.Machine

/-! The records of the vibration watch, and O59: a channel's change of state leaves VIB_STATE and, out of DANGER, its
condition; a silent channel and a restarted one are cleared. -/

namespace Sys2Proof.Machine

/-! ### States in which the watch leaves the same records (R80, R95, R158) -/

/-- The ALERT inputs read of a channel its state alone (R158). -/
theorem alertInputs_congr {s t : State} (latch : s.trip.latch = t.trip.latch)
    (ring : s.load.ringAlert = t.load.ringAlert)
    (states : ∀ k : Fin 6, s.vib.channels[k].state = t.vib.channels[k].state) : alertInputs s = alertInputs t := by
  have hany (v : Vector Channel 6) :
      v.toList.any (fun c => c.state.alerts) = (v.map Channel.state).toList.any ChannelState.alerts := by
    simp
  have hmap : s.vib.channels.map Channel.state = t.vib.channels.map Channel.state :=
    Vector.ext fun k hk => by simpa using states ⟨k, hk⟩
  rw [alertInputs, alertInputs, latch, ring, hany, hany, hmap]

/-- Two states in which a change of a channel or of the ring alert leaves the same log. -/
structure SameRecords (s t : State) : Prop where
  log : s.log = t.log
  event : s.tab.event = t.tab.event
  latch : s.trip.latch = t.trip.latch
  ring : s.load.ringAlert = t.load.ringAlert
  states : ∀ k : Fin 6, s.vib.channels[k].state = t.vib.channels[k].state
  pace : s.link.paceCount = t.link.paceCount

namespace SameRecords

variable {s t u : State}

theorem toSameLog (h : SameRecords s t) : SameLog s t :=
  ⟨h.log, by simp [eventTable, h.event], alertInputs_congr h.latch h.ring h.states, h.pace⟩

theorem refl (s : State) : SameRecords s s := ⟨rfl, rfl, rfl, rfl, fun _ => rfl, rfl⟩

theorem trans (h : SameRecords s t) (k : SameRecords t u) : SameRecords s u :=
  ⟨h.log.trans k.log, h.event.trans k.event, h.latch.trans k.latch, h.ring.trans k.ring,
    fun c => (h.states c).trans (k.states c), h.pace.trans k.pace⟩

theorem raise (h : SameRecords s t) (k : EventKind) (o : Source) (f : Word) (a b : DWord) :
    SameRecords (raise k o f a b s) (raise k o f a b t) :=
  { h with log := (h.toSameLog.raise k o f a b).log }

theorem judgeAlert (h : SameRecords s t) : SameRecords (judgeAlert s) (judgeAlert t) :=
  { h with log := h.toSameLog.judgeAlert.log }

/-- A VIB_STATE record reads of the channel its state alone (R80). -/
theorem vibStateRecord (h : SameRecords s t) (c : Fin 6) (new : ChannelState) (reason level : Nat) :
    SameRecords (vibStateRecord c new reason level s) (vibStateRecord c new reason level t) := by
  have hset : SameRecords (setChannel c { s.vib.channels[c] with state := new } s)
      (setChannel c { t.vib.channels[c] with state := new } t) := by
    refine { h with states := fun k => ?_ }
    rw [setChannel_channel, setChannel_channel]
    split
    · rfl
    · exact h.states k
  unfold Machine.vibStateRecord
  dsimp only
  rw [h.states c]
  exact hset.judgeAlert.raise _ _ _ _ _

/-- A RING_STATE record of a ring alert that changes (R95). -/
theorem ringStateRecord (h : SameRecords s t) (on : Bool) (reason ecc : Nat) :
    SameRecords (ringStateRecord on reason ecc s) (ringStateRecord on reason ecc t) := by
  have hset : SameRecords { s with load := { s.load with ringAlert := on } }
      { t with load := { t.load with ringAlert := on } } := { h with ring := rfl }
  unfold Machine.ringStateRecord
  rw [h.ring]
  split
  · exact h
  · exact hset.judgeAlert.raise _ _ _ _ _

end SameRecords

/-- What a channel gathers is in no record. -/
theorem sameRecords_setChannel {c : Fin 6} {x : Channel} {s : State} (hx : x.state = s.vib.channels[c].state) :
    SameRecords (setChannel c x s) s := by
  refine { SameRecords.refl s with states := fun k => ?_ }
  rw [setChannel_channel]
  split
  · next hk => rw [hx, hk]
  · rfl

/-! ### A channel changes its state (R78, R80) -/

theorem changeChannel_stays {c : Fin 6} {new : ChannelState} {s : State} (h : s.vib.channels[c].state = new)
    (x : VibReason) (n : Nat) : changeChannel c new x n s = s := by
  rw [changeChannel_eq, if_pos h]

/-- A change of state touches the channels, the record of it, and the set of conditions where it leaves DANGER. -/
theorem changeChannel_changes {c : Fin 6} {new : ChannelState} {s : State} (h : s.vib.channels[c].state ≠ new)
    (x : VibReason) (n : Nat) :
    changeChannel c new x n s = { s with
      vib := (changeChannel c new x n s).vib
      log := (vibStateRecord c new x.code n s).log
      trip := { s.trip with active :=
        if s.vib.channels[c].state = .danger then removeCondition ⟨.vibDanger, .channel c⟩ s.trip.active
        else s.trip.active } } := by
  rw [changeChannel_eq, if_neg h]
  by_cases hd : s.vib.channels[c].state = .danger
  · rw [if_pos hd, if_pos hd]
    rfl
  · rw [if_neg hd, if_neg hd]
    rfl

/-- The record of a change of state. -/
theorem sameRecords_changeChannel (c : Fin 6) (new : ChannelState) (x : VibReason) (n : Nat) (s : State) :
    SameRecords (changeChannel c new x n s)
      (if s.vib.channels[c].state = new then s else vibStateRecord c new x.code n s) := by
  by_cases h : s.vib.channels[c].state = new
  · rw [changeChannel_stays h, if_pos h]
    exact .refl s
  · rw [if_neg h]
    have hv (k : Fin 6) : (changeChannel c new x n s).vib.channels[k].state
        = (vibStateRecord c new x.code n s).vib.channels[k].state := by
      rw [changeChannel_channel, show (vibStateRecord c new x.code n s).vib.channels[k] = _ from
        channelMoved_channel c k new x n s]
      split <;> rfl
    have he := changeChannel_changes h x n
    rw [he]
    exact ⟨rfl, rfl, rfl, rfl, hv, rfl⟩

/-- The list and the latch do not know the conditions (R101). -/
theorem changeChannel_trip (c : Fin 6) (new : ChannelState) (x : VibReason) (n : Nat) (s : State) :
    (changeChannel c new x n s).trip = { s.trip with active := (changeChannel c new x n s).trip.active } := by
  by_cases h : s.vib.channels[c].state = new
  · rw [changeChannel_stays h]
  · rw [changeChannel_changes h]

/-- A condition its owner holds inactive is not in the set (R101). -/
theorem ConditionLaw.not_mem_vibDanger {s : State} (h : ConditionLaw s) {c : Fin 6}
    (hd : s.vib.channels[c].danger = false) : ⟨.vibDanger, .channel c⟩ ∉ s.trip.active := by
  rw [h.set, List.mem_filter, conditionHolds_vibDanger, hd]
  simp

/-- A delivered derate is the one the channels give (R82). -/
theorem derateNow_deliverVibDerate (s : State) : derateNow (deliverVibDerate s) = derateNow s := rfl

/-! ### Silence (R81) -/

/-- The channel whose silence timer has expired, before its change of state (R81). -/
def silenced (c : Fin 6) (s : State) : State :=
  setChannel c { s.vib.channels[c].emptyWindow with persist := 0, silenceTimer := .stopped } s

theorem silenced_channel (c k : Fin 6) (s : State) :
    (silenced c s).vib.channels[k] =
      if k = c then { s.vib.channels[c].emptyWindow with persist := 0, silenceTimer := .stopped }
      else s.vib.channels[k] := setChannel_channel c k _ s

/-- Out of a state that meets the condition law no condition is left (R79, R81). -/
theorem Channel.silenced_eq {x : Channel} (hd : x.danger = (x.state == .danger)) :
    { x.emptyWindow with
      persist := 0, silenceTimer := .stopped, state := .silent
      danger := if x.emptyWindow.state = .danger then false else x.emptyWindow.danger } =
    { x with
      state := .silent, phase := .gather, acc := 0, frames := 0, overrange := false, persist := 0
      silenceTimer := .stopped, danger := false } := by
  simp [Channel.emptyWindow, hd]

theorem execSilenceTimerExpiry_running {c : Fin 6} {s : State} {n : Nat}
    (h : s.vib.channels[c].silenceTimer = .running n) :
    exec (.silenceTimerExpiry c) s = .next (fallSilent c (silenced c s)) := by
  show execSilenceTimerExpiry c s = _
  rw [execSilenceTimerExpiry, h]
  rfl

theorem fallSilent_channel (c k : Fin 6) (s : State) :
    (fallSilent c s).vib.channels[k] =
      if k = c then { s.vib.channels[c] with
        state := .silent
        danger := if s.vib.channels[c].state = .danger then false else s.vib.channels[c].danger }
      else s.vib.channels[k] := by
  have hv : (fallSilent c s).vib.channels
      = (changeChannel c .silent .silence s.vib.channels[c].lastLevel s).vib.channels := by
    unfold fallSilent
    split
    · next h => rw [changeChannel_stays h]
    · rfl
  rw [hv, changeChannel_channel]
  simp

theorem fallSilent_trip (c : Fin 6) (s : State) :
    (fallSilent c s).trip = { s.trip with active := (fallSilent c s).trip.active } := by
  unfold fallSilent
  split
  · rfl
  · exact changeChannel_trip c _ _ _ s

theorem fallSilent_log (c : Fin 6) (s : State) :
    (fallSilent c s).log =
      (if s.vib.channels[c].state = .silent then s
        else vibStateRecord c .silent 1 s.vib.channels[c].lastLevel s).log := by
  unfold fallSilent
  split
  · rfl
  · next h =>
    have hr := (sameRecords_changeChannel c .silent .silence s.vib.channels[c].lastLevel s).log
    rwa [if_neg h] at hr

/-- The derate is delivered with the change (R81). -/
theorem fallSilent_derate {c : Fin 6} {s : State} (h : s.vib.channels[c].state ≠ .silent) :
    (fallSilent c s).lim.stack.vibDerate = derateNow (fallSilent c s)
      ∧ (fallSilent c s).vib.derate = derateNow (fallSilent c s) := by
  unfold fallSilent
  rw [if_neg h]
  exact ⟨rfl, rfl⟩

theorem silenceClearsTheChannel (c : Fin 6) (s : State) (n : Nat) (hlaw : ConditionLaw s)
    (hrun : s.vib.channels[c].silenceTimer = .running n) :
    ∃ t, exec (.silenceTimerExpiry c) s = .next t
      ∧ t.vib.channels[c] = { s.vib.channels[c] with
          state := .silent, phase := .gather, acc := 0, frames := 0, overrange := false, persist := 0,
          silenceTimer := .stopped, danger := false }
      ∧ (∀ k : Fin 6, k ≠ c → t.vib.channels[k] = s.vib.channels[k])
      ∧ ⟨.vibDanger, .channel c⟩ ∉ t.trip.active ∧ t.trip.list = s.trip.list
      ∧ (s.vib.channels[c].state ≠ .silent →
          t.lim.stack.vibDerate = derateNow t ∧ t.vib.derate = derateNow t)
      ∧ t.log = (if s.vib.channels[c].state = .silent then s
          else vibStateRecord c .silent 1 s.vib.channels[c].lastLevel s).log
      ∧ (s.vib.channels[c].state = .silent → t = { s with vib := t.vib })
      ∧ t = { s with vib := t.vib, lim := t.lim, trip := t.trip, log := t.log } := by
  have hexec := execSilenceTimerExpiry_running hrun
  have hu : (silenced c s).vib.channels[c]
      = { s.vib.channels[c].emptyWindow with persist := 0, silenceTimer := .stopped } :=
    (silenced_channel c c s).trans (if_pos rfl)
  have hstate : (silenced c s).vib.channels[c].state = s.vib.channels[c].state := by rw [hu]; rfl
  have hlevel : (silenced c s).vib.channels[c].lastLevel = s.vib.channels[c].lastLevel := by rw [hu]; rfl
  have hsame : SameRecords (silenced c s) s := sameRecords_setChannel rfl
  have hchannel : (fallSilent c (silenced c s)).vib.channels[c] = { s.vib.channels[c] with
      state := .silent, phase := .gather, acc := 0, frames := 0, overrange := false, persist := 0,
      silenceTimer := .stopped, danger := false } := by
    rw [fallSilent_channel, if_pos rfl, hu]
    exact Channel.silenced_eq (hlaw.danger c)
  refine ⟨_, hexec, hchannel, fun k hk => ?_, ?_, ?_, fun hs => ?_, ?_, fun hs => ?_, ?_⟩
  · rw [fallSilent_channel, if_neg hk, silenced_channel, if_neg hk]
  · exact (hlaw.execSilenceTimerExpiry hexec).not_mem_vibDanger (by rw [hchannel])
  · rw [fallSilent_trip]
    rfl
  · exact fallSilent_derate (by rwa [hstate])
  · rw [fallSilent_log, hstate, hlevel]
    split
    · rfl
    · exact (hsame.vibStateRecord c .silent 1 _).log
  · rw [fallSilent, if_pos (hstate.trans hs)]
    rfl
  · exact State.ext_blocks (by simp [silenced]) rfl (by simp [silenced]) (by simp [silenced]) rfl (by simp [silenced])
      rfl (by simp [silenced]) (by simp [silenced]) rfl (by simp [silenced]) (by simp [silenced]) (by simp [silenced])

/-! ### Restarts (R83) -/

/-- The state in which a restart is answered (R83). -/
def vibRestarted (c : Fin 6) (s : State) : State :=
  deliverVibDerate (if channelEnabled s c then restartChannel c .silent .restart s else s)

theorem exec_vibRestart {r : Request} {s : State} {n : Byte} {c : Fin 6} (hs : s.link.slot = none) (hr : r.args = [n])
    (hc : n.toNat = c.val) :
    exec (.vibRestart r) s = .next (answerPlaced 19 r .ok
      (BitVec.ofNat 8 (vibRestarted c (requestTaken r s)).vib.channels[c].state.code
        :: bytes16 (BitVec.ofInt 16 (derateNow (vibRestarted c (requestTaken r s)))))
      (vibRestarted c (requestTaken r s))) := by
  have hlt : n.toNat < 6 := hc ▸ c.isLt
  obtain rfl : (⟨n.toNat, hlt⟩ : Fin 6) = c := Fin.ext hc
  have howner : vibRestart r.args (requestTaken r s) = vibRestartChannel ⟨n.toNat, hlt⟩ (requestTaken r s) := by
    rw [hr, vibRestart, dif_pos hlt]
  show Host.Outcome.next (serve 19 r (vibRestart r.args) s) = _
  rw [serve_reply 19 r _ hs, howner]
  rfl

theorem vibRestarted_channel (c k : Fin 6) (s : State) :
    (vibRestarted c s).vib.channels[k] =
      if channelEnabled s c = true ∧ k = c then s.vib.channels[c].restarted .silent else s.vib.channels[k] := by
  have hv (u : State) : (deliverVibDerate u).vib.channels = u.vib.channels := rfl
  rw [vibRestarted, hv]
  cases channelEnabled s c
  · rw [if_neg (by decide), if_neg (by simp)]
  · rw [if_pos rfl, restartChannel_channel]
    simp

theorem vibRestarted_trip (c : Fin 6) (s : State) :
    (vibRestarted c s).trip = { s.trip with active := (vibRestarted c s).trip.active } := by
  unfold vibRestarted
  cases channelEnabled s c
  · rfl
  · exact changeChannel_trip c .silent .restart _ s

/-- The records of a channel put into a state, its level the one held before (R80). -/
theorem sameRecords_restartChannel (c : Fin 6) (into : ChannelState) (x : VibReason) (s : State) :
    SameRecords (restartChannel c into x s)
      (if s.vib.channels[c].state = into then s
        else vibStateRecord c into x.code s.vib.channels[c].lastLevel s) :=
  .trans (sameRecords_setChannel rfl) (sameRecords_changeChannel c into x _ s)

theorem vibRestarted_log (c : Fin 6) (s : State) :
    (vibRestarted c s).log =
      (if channelEnabled s c = true ∧ s.vib.channels[c].state ≠ .silent then
        vibStateRecord c .silent 2 s.vib.channels[c].lastLevel s else s).log := by
  have hr := (sameRecords_restartChannel c .silent .restart s).log
  unfold vibRestarted
  by_cases he : channelEnabled s c = true
  · rw [if_pos he]
    by_cases hs : s.vib.channels[c].state = .silent
    · rw [if_neg fun h => h.2 hs]
      rwa [if_pos hs] at hr
    · rw [if_pos ⟨he, hs⟩]
      rwa [if_neg hs] at hr
  · rw [if_neg he, if_neg fun h => he h.1]
    rfl

/-- Out of a state that meets the condition law a restarted channel is as at reset but for its state (R83). -/
theorem Channel.restarted_eq {x : Channel} (hd : x.danger = (x.state == .danger)) {into : ChannelState}
    (hinto : into ≠ .danger) :
    x.restarted into =
      { state := into, phase := .gather, acc := 0, frames := 0, overrange := false, persist := 0, lastLevel := 0,
        silenceTimer := .stopped, danger := false } := by
  simp [Channel.restarted, Channel.cleared, Channel.emptyWindow, hd, hinto]

theorem restartClearsTheChannel (r : Request) (s : State) (n : Byte) (c : Fin 6) (hlaw : ConditionLaw s)
    (hs : s.link.slot = none) (hr : r.args = [n]) (hc : n.toNat = c.val) :
    ∃ t, exec (.vibRestart r) s = .next (answerPlaced 19 r .ok
          (BitVec.ofNat 8 t.vib.channels[c].state.code :: bytes16 (BitVec.ofInt 16 (derateNow t))) t)
      ∧ (channelEnabled s c = true → t.vib.channels[c] =
          { state := .silent, phase := .gather, acc := 0, frames := 0, overrange := false, persist := 0,
            lastLevel := 0, silenceTimer := .stopped, danger := false })
      ∧ (channelEnabled s c = false → t.vib.channels = s.vib.channels)
      ∧ (∀ k : Fin 6, k ≠ c → t.vib.channels[k] = s.vib.channels[k])
      ∧ t.lim.stack.vibDerate = derateNow t ∧ t.vib.derate = derateNow t
      ∧ t.log = (if channelEnabled s c = true ∧ s.vib.channels[c].state ≠ .silent then
            vibStateRecord c .silent 2 s.vib.channels[c].lastLevel (requestTaken r s)
          else requestTaken r s).log
      ∧ t = { requestTaken r s with vib := t.vib, lim := t.lim, trip := t.trip, log := t.log } := by
  have hv : (requestTaken r s).vib = s.vib := by simp
  have hen : channelEnabled (requestTaken r s) c = channelEnabled s c := channelEnabled_congr (by simp) c
  refine ⟨vibRestarted c (requestTaken r s), exec_vibRestart hs hr hc, fun he => ?_, fun he => ?_, fun k hk => ?_, rfl,
    rfl, ?_, ?_⟩
  · rw [vibRestarted_channel, hv, if_pos ⟨hen.trans he, rfl⟩]
    exact Channel.restarted_eq (hlaw.danger c) (by decide)
  · rw [vibRestarted, hen, he]
    exact (congrArg VibWatch.channels hv :)
  · rw [vibRestarted_channel, hv, if_neg fun h => hk h.2]
  · rw [vibRestarted_log, hv, hen]
  · have hframe (u : State) : vibRestarted c u = { u with
        vib := (vibRestarted c u).vib, lim := (vibRestarted c u).lim, trip := (vibRestarted c u).trip
        log := (vibRestarted c u).log } := by
      unfold vibRestarted
      cases channelEnabled u c
      · rfl
      · exact State.ext_blocks (by simp) rfl (by simp) (by simp) rfl (by simp) rfl (by simp) (by simp) rfl (by simp)
          (by simp) (by simp)
    exact hframe _

/-- Settles O59: the expiry and the restart each put one channel into SILENT, with the record of its change. -/
theorem silenceAndRestartClearTheChannel : Obligations.SilenceAndRestartClearTheChannel :=
  ⟨silenceClearsTheChannel, restartClearsTheChannel⟩

end Sys2Proof.Machine

/-! O24: requests with a wrong number of argument bytes, with an argument out of range, of an unknown code, or of a FREE
buffer are refused with BAD_REQUEST. -/

namespace Sys2Proof.Machine

/-- A request whose owner refuses it is answered so (R184). -/
theorem exec_refused {i : Instr} {code : Byte} {r : Request} {s : State} {a : AnswerCode} {data : List Byte}
    (hi : Laws.requestParts i = some (code, r)) (hs : s.link.slot = none)
    (ho : requestOwner code r.args (requestTaken r s) = refuse a data (requestTaken r s)) :
    exec i s = .next (answerPlaced code r a data (requestTaken r s)) := by
  rw [exec_request hi, serve_refused hs ho]

/-! ### Wrong numbers of argument bytes (R184) -/

/-- An owner that takes no argument refuses any. -/
theorem refuses_arguments {f : List Byte → State → Reply}
    (hf : ∀ a args s, f (a :: args) s = refuse .badRequest [] s) {args : List Byte} (h : (args.length == 0) = false)
    (s : State) : f args s = refuse .badRequest [] s := by
  cases args with
  | nil => simp at h
  | cons a args => exact hf a args s

/-- An owner that takes one argument byte refuses every other number. -/
theorem refuses_not_one {f : List Byte → State → Reply} (hn : ∀ s, f [] s = refuse .badRequest [] s)
    (hf : ∀ a b args s, f (a :: b :: args) s = refuse .badRequest [] s) {args : List Byte}
    (h : (args.length == 1) = false) (s : State) : f args s = refuse .badRequest [] s := by
  match args with
  | [] => exact hn s
  | [_] => simp at h
  | a :: b :: args => exact hf a b args s

theorem requestOwner_wrongCount {code : Byte} {args : List Byte} (h : argumentCount code.toNat args.length = false)
    (s : State) : requestOwner code args s = refuse .badRequest [] s := by
  show (fun f : State → Reply => f s = refuse .badRequest [] s) (requestOwner code args)
  have hcount (k : Nat) (hc : code.toNat = k) : argumentCount k args.length = false := hc ▸ h
  unfold requestOwner
  split
  · next hc => exact refuses_arguments (f := identify) (fun _ _ _ => rfl) (hcount _ hc) s
  · next hc => exact refuses_arguments (f := statusClear) (fun _ _ _ => rfl) (hcount _ hc) s
  · next hc => exact refuses_arguments (f := restart) (fun _ _ _ => rfl) (hcount _ hc) s
  · next hc =>
    unfold tableOpen
    split
    · exact absurd (hcount _ hc) (by simp [argumentCount])
    · rfl
  · next hc =>
    unfold tableWrite
    split
    · have hlen := hcount _ hc
      refine if_neg fun hb => ?_
      simp only [argumentCount, List.length_cons, Bool.and_eq_false_iff, decide_eq_false_iff_not] at hlen
      omega
    · rfl
  · next hc => exact refuses_not_one (f := tableCommit) (fun _ => rfl) (fun _ _ _ _ => rfl) (hcount _ hc) s
  · next hc => exact refuses_not_one (f := tableAbort) (fun _ => rfl) (fun _ _ _ _ => rfl) (hcount _ hc) s
  · next hc =>
    unfold tableRead
    split
    · exact absurd (hcount _ hc) (by simp [argumentCount])
    · rfl
  · next hc => exact refuses_not_one (f := lockSet) (fun _ => rfl) (fun _ _ _ _ => rfl) (hcount _ hc) s
  · next hc => exact refuses_not_one (f := lockClear) (fun _ => rfl) (fun _ _ _ _ => rfl) (hcount _ hc) s
  · next hc => exact refuses_arguments (f := tripReset) (fun _ _ _ => rfl) (hcount _ hc) s
  · next hc =>
    unfold tripRead
    split
    · exact absurd (hcount _ hc) (by simp [argumentCount])
    · rfl
  · next hc => exact refuses_arguments (f := storeTrim) (fun _ _ _ => rfl) (hcount _ hc) s
  · next hc => exact refuses_arguments (f := storeEraseAll) (fun _ _ _ => rfl) (hcount _ hc) s
  · next hc => exact refuses_not_one (f := storeBlankCheck) (fun _ => rfl) (fun _ _ _ _ => rfl) (hcount _ hc) s
  · next hc => exact refuses_arguments (f := storeStatus) (fun _ _ _ => rfl) (hcount _ hc) s
  · next hc => exact refuses_arguments (f := eventRead) (fun _ _ _ => rfl) (hcount _ hc) s
  · next hc =>
    unfold eventMark
    split
    · exact absurd (hcount _ hc) (by simp [argumentCount])
    · rfl
  · next hc => exact refuses_not_one (f := vibRestart) (fun _ => rfl) (fun _ _ _ _ => rfl) (hcount _ hc) s
  · rfl

/-! ### Arguments out of range (R83, R144, R147, R157, R166 to R169, R173, R174) -/

/-- A byte of 2 or more names no buffer (R168, R169). -/
theorem bufferOfByte_none {n : Byte} (h : 2 ≤ n.toNat) : bufferOfByte n = none := by
  unfold bufferOfByte
  split
  · omega
  · omega
  · rfl

theorem fillingBuffer_none {n : Byte} (h : 2 ≤ n.toNat) (s : State) : fillingBuffer s n = none := by
  rw [fillingBuffer, bufferOfByte_none h]

theorem requestOwner_outOfRange {code : Byte} {args : List Byte} (h : argumentOutOfRange code.toNat args = true)
    (s : State) : requestOwner code args s = refuse .badRequest [] s := by
  unfold argumentOutOfRange at h
  split at h
  · next n _ _ l1 l0 hc =>
    simp only [requestOwner, hc, tableOpen]
    cases ht : TableId.ofByte n with
    | none => rfl
    | some t =>
      rw [ht] at h
      have hl : lengthOk t (be16 l1 l0).toNat = false := by simpa using h
      simp [hl]
  · next n hc => simp [requestOwner, hc, tableCommit, fillingBuffer_none (of_decide_eq_true h)]
  · next n hc => simp [requestOwner, hc, tableAbort, fillingBuffer_none (of_decide_eq_true h)]
  · next n o hc => simp [requestOwner, hc, tableRead, Option.isNone_iff_eq_none.mp h]
  · next n hc => simp [requestOwner, hc, lockSet, Option.isNone_iff_eq_none.mp h]
  · next n hc => simp [requestOwner, hc, lockClear, Option.isNone_iff_eq_none.mp h]
  · next o1 o0 l hc =>
    have hout : ¬((l.toNat = 8 ∨ l.toNat = 16) ∧ (be16 o1 o0).toNat < slotWords) := by
      simp only [BitVec.ofNat_eq_ofNat, Bool.or_eq_true, Bool.and_eq_true, bne_iff_ne, ne_eq, ← BitVec.toNat_inj,
        BitVec.toNat_ofNat, Nat.reducePow, Nat.reduceMod, decide_eq_true_eq] at h
      simp only [slotWords]
      omega
    simp only [requestOwner, hc, tripRead, if_neg hout]
  · next n hc => simp [requestOwner, hc, storeBlankCheck, Nat.not_lt.mpr (of_decide_eq_true h)]
  · next n _ _ _ _ _ _ _ _ hc =>
    have hn : ¬n.toNat ≤ 15 := by have := of_decide_eq_true h; omega
    simp only [requestOwner, hc, eventMark, if_neg hn]
  · next n hc => simp [requestOwner, hc, vibRestart, Nat.not_lt.mpr (of_decide_eq_true h)]
  · exact absurd h (by decide)

/-- A code that names no request (R184). -/
theorem requestOwner_unknown {code : Byte} (h : code.toNat = 0 ∨ 19 < code.toNat) (args : List Byte) (s : State) :
    requestOwner code args s = refuse .badRequest [] s := by
  refine requestOwner_wrongCount ?_ s
  obtain h | h := h
  · rw [h]
    rfl
  · obtain ⟨k, hk⟩ := Nat.exists_eq_add_of_lt h
    rw [hk, show 19 + k + 1 = k + 20 by omega]
    rfl

/-! ### FREE buffers (R167 to R169) -/

theorem fillingBuffer_free {n : Bool} {s : State} (h : s.tab.buffer n = none) :
    fillingBuffer s (if n then 1 else 0) = none := by
  rw [fillingBuffer, bufferOfByte_number]
  simp [h]

/-- Bit 7 of a position byte is its place among 128 and more (R167). -/
theorem positionBuffer_eq (pos : Byte) : positionBuffer pos = decide (128 ≤ pos.toNat) := by
  have h : ∀ b : Byte, b.getLsbD 7 = decide (128 ≤ b.toNat) := by decide
  exact h pos

theorem tableWrite_free {pos : Byte} {s : State} (h : s.tab.buffer (decide (128 ≤ pos.toNat)) = none)
    (bytes : List Byte) : tableWrite (pos :: bytes) s = refuse .badRequest [] s := by
  simp only [tableWrite, writeTable, positionBuffer_eq, h]
  split <;> rfl

/-- Settles O24: whatever the owner refuses is answered, and nothing else is done. -/
theorem badRequestsChangeNothing : Obligations.BadRequestsChangeNothing := by
  unfold Obligations.BadRequestsChangeNothing
  refine ⟨fun code r s hs h => ?_, fun code r s hs h => ?_, fun code r s hs h => ?_,
    fun r s hs => ⟨fun n hr hb => ⟨?_, ?_⟩, fun pos bytes hr hb => ?_⟩⟩
  · exact exec_refused (Laws.requestParts_requestCommand code r) hs (requestOwner_wrongCount h _)
  · exact exec_refused (Laws.requestParts_requestCommand code r) hs (requestOwner_outOfRange h _)
  · exact exec_refused rfl hs (requestOwner_unknown h _ _)
  · have hf : fillingBuffer (requestTaken r s) (if n then 1 else 0) = none := fillingBuffer_free (by simpa using hb)
    refine exec_refused rfl hs ?_
    show tableCommit r.args (requestTaken r s) = _
    simp only [hr, tableCommit, hf]
  · have hf : fillingBuffer (requestTaken r s) (if n then 1 else 0) = none := fillingBuffer_free (by simpa using hb)
    refine exec_refused rfl hs ?_
    show tableAbort r.args (requestTaken r s) = _
    simp only [hr, tableAbort, hf]
  · refine exec_refused rfl hs ?_
    show tableWrite r.args (requestTaken r s) = _
    rw [hr]
    exact tableWrite_free (by simpa using hb) bytes

end Sys2Proof.Machine

/-! O58: VIBSAMPLE gathers a window, and its last frame sets level, count and state.  The window a channel begins next
changes nothing that the delivery of VIB_DANGER reads, so the delivery can be stated of the state behind it. -/

namespace Sys2Proof.Machine

/-! ### The arithmetic of a window (R74, R75) -/

theorem sumSquares_eq (samples : Vector Word 8) :
    sumSquares samples = (samples.toList.map fun w => w.toInt.natAbs ^ 2).sum := by
  rw [sumSquares, List.sum_eq_foldl, List.foldl_map]
  simp [sq]

/-- Each bit halves the interval in which the root lies (R75, step 2). -/
theorem sqrtBits_spec (n k r : Nat) (hlow : r * r ≤ n) (hhigh : n < (r + 2 ^ k) * (r + 2 ^ k)) :
    sqrtBits n k r * sqrtBits n k r ≤ n ∧ n < (sqrtBits n k r + 1) * (sqrtBits n k r + 1) := by
  induction k generalizing r with
  | zero =>
    have hr : sqrtBits n 0 r = r := rfl
    rw [hr]
    exact ⟨hlow, by simpa using hhigh⟩
  | succ k ih =>
    unfold sqrtBits
    split
    · next hbit =>
      have hsum : r + 2 ^ k + 2 ^ k = r + 2 ^ (k + 1) := by omega
      exact ih _ hbit (by rwa [hsum])
    · next hbit => exact ih _ hlow (Nat.lt_of_not_le hbit)

theorem isqrt_spec {n : Nat} (h : n < 2 ^ 32) : isqrt n * isqrt n ≤ n ∧ n < (isqrt n + 1) * (isqrt n + 1) :=
  sqrtBits_spec n 16 0 (Nat.zero_le n) (by simpa using h)

theorem liftLevel_eq (beyond : Bool) (alert root : Nat) :
    liftLevel beyond alert root = if beyond then max root alert else root := by
  unfold liftLevel
  cases beyond
  · simp
  · by_cases h : root < alert
    · simp [h, Nat.max_eq_right h.le]
    · simp [h, Nat.max_eq_left (Nat.le_of_not_lt h)]

/-- The state after a window, by level and count (R78). -/
theorem stateAfterWindow_eq {cfg : ChannelConfig} (hclear : cfg.clear ≤ cfg.alert) {x : ChannelState}
    (hx : x ≠ .off) (count level : Nat) :
    stateAfterWindow cfg x count level =
      if cfg.danger ≤ level then (if x = .danger ∨ count = cfg.persist then .danger else .alert)
      else if cfg.alert ≤ level then .alert
      else if cfg.clear ≤ level ∧ (x = .alert ∨ x = .danger) then .alert
      else .normal := by
  have hle : cfg.alert ≤ level → cfg.clear ≤ level := hclear.trans
  by_cases ha : cfg.alert ≤ level
  · cases x with
    | off => exact absurd rfl hx
    | _ => simp [stateAfterWindow, ha, hle ha]
  · cases x with
    | off => exact absurd rfl hx
    | _ => simp [stateAfterWindow, ha]

/-! ### A window's outcome (R75, R77, R78) -/

/-- The persistence count a window leaves (R77). -/
def Channel.newCount (x : Channel) (cfg : ChannelConfig) : Nat := persistAfter cfg x.persist (x.level cfg)

/-- The state a window leaves (R78). -/
def Channel.newState (x : Channel) (cfg : ChannelConfig) : ChannelState :=
  stateAfterWindow cfg x.state (x.newCount cfg) (x.level cfg)

/-- A channel with the level and count of its window stored (R75, step 4). -/
def Channel.measured (x : Channel) (cfg : ChannelConfig) : Channel :=
  { x with lastLevel := x.level cfg, persist := x.newCount cfg }

/-- A channel behind the judgement of its window, its condition following its state (R75, R78, R79). -/
def Channel.judged (x : Channel) (cfg : ChannelConfig) : Channel :=
  { x.measured cfg with
    state := x.newState cfg
    danger :=
      if x.state = x.newState cfg then x.danger
      else if x.newState cfg = .danger then true
      else if x.state = .danger then false
      else x.danger }

/-- The state in which a channel's level and count are stored. -/
def windowMeasured (c : Fin 6) (cfg : ChannelConfig) (s : State) : State :=
  setChannel c (s.vib.channels[c].measured cfg) s

/-- The change of state a window brings, with its record and the derate (R78). -/
def windowChanged (c : Fin 6) (cfg : ChannelConfig) (s : State) : State :=
  deliverVibDerate (changeChannel c (s.vib.channels[c].newState cfg) .window (s.vib.channels[c].level cfg)
    (windowMeasured c cfg s))

section

variable {c : Fin 6} {cfg : ChannelConfig} {s : State}

theorem judgeWindow_stays (h : s.vib.channels[c].state = s.vib.channels[c].newState cfg) :
    judgeWindow c cfg s = windowMeasured c cfg s :=
  (judgeWindow_eq c cfg s).trans (if_pos h)

theorem judgeWindow_moves (h : s.vib.channels[c].state ≠ s.vib.channels[c].newState cfg)
    (hd : s.vib.channels[c].newState cfg ≠ .danger) : judgeWindow c cfg s = windowChanged c cfg s :=
  (judgeWindow_eq c cfg s).trans ((if_neg h).trans (if_neg hd))

theorem judgeWindow_enters (h : s.vib.channels[c].state ≠ s.vib.channels[c].newState cfg)
    (hd : s.vib.channels[c].newState cfg = .danger) :
    judgeWindow c cfg s = enterDanger c (s.vib.channels[c].level cfg) (windowChanged c cfg s) :=
  (judgeWindow_eq c cfg s).trans ((if_neg h).trans (if_pos hd))

theorem windowMeasured_channel (k : Fin 6) :
    (windowMeasured c cfg s).vib.channels[k] =
      if k = c then s.vib.channels[c].measured cfg else s.vib.channels[k] := setChannel_channel c k _ s

theorem windowChanged_channel (k : Fin 6) :
    (windowChanged c cfg s).vib.channels[k] =
      if k = c then { s.vib.channels[c].measured cfg with
        state := s.vib.channels[c].newState cfg
        danger := if s.vib.channels[c].state = .danger ∧ s.vib.channels[c].newState cfg ≠ .danger then false
          else s.vib.channels[c].danger }
      else s.vib.channels[k] := by
  have hv : (windowChanged c cfg s).vib.channels
      = (changeChannel c (s.vib.channels[c].newState cfg) .window (s.vib.channels[c].level cfg)
          (windowMeasured c cfg s)).vib.channels := rfl
  rw [hv, changeChannel_channel, windowMeasured_channel, windowMeasured_channel, if_pos rfl]
  split <;> rfl

theorem enterDanger_channel (k : Fin 6) (n : Nat) :
    (enterDanger c n s).vib.channels[k] =
      if k = c then { s.vib.channels[c] with danger := true } else s.vib.channels[k] := by
  have hv : (enterDanger c n s).vib = (setVibDanger c true s).vib := by simp [enterDanger]
  rw [hv, setVibDanger_channel]

theorem judgeWindow_channel (k : Fin 6) :
    (judgeWindow c cfg s).vib.channels[k] =
      if k = c then s.vib.channels[c].judged cfg else s.vib.channels[k] := by
  by_cases h : s.vib.channels[c].state = s.vib.channels[c].newState cfg
  · rw [judgeWindow_stays h, windowMeasured_channel, Channel.judged, if_pos h, ← h]
    rfl
  · by_cases hd : s.vib.channels[c].newState cfg = .danger
    · rw [judgeWindow_enters h hd, enterDanger_channel, windowChanged_channel, windowChanged_channel, if_pos rfl,
        Channel.judged, if_neg h, if_pos hd]
      split <;> rfl
    · rw [judgeWindow_moves h hd, windowChanged_channel, Channel.judged, if_neg h, if_neg hd]
      simp only [ne_eq, hd, not_false_eq_true, and_true]

@[simp] theorem windowChanged_frame (c : Fin 6) (cfg : ChannelConfig) (s : State) :
    (windowChanged c cfg s).run = s.run ∧ (windowChanged c cfg s).regA = s.regA
      ∧ (windowChanged c cfg s).regB = s.regB ∧ (windowChanged c cfg s).load = s.load
      ∧ (windowChanged c cfg s).recorder = s.recorder ∧ (windowChanged c cfg s).store = s.store
      ∧ (windowChanged c cfg s).tab = s.tab ∧ (windowChanged c cfg s).link = s.link
      ∧ (windowChanged c cfg s).pending = s.pending := by
  simp [windowChanged, windowMeasured]

/-- The derate is delivered, and nothing else of the torque limiter changes (R82). -/
theorem windowChanged_lim (c : Fin 6) (cfg : ChannelConfig) (s : State) :
    (windowChanged c cfg s).lim =
      { s.lim with stack := { s.lim.stack with vibDerate := derateNow (windowChanged c cfg s) } } := by
  have hl : (changeChannel c (s.vib.channels[c].newState cfg) .window (s.vib.channels[c].level cfg)
      (windowMeasured c cfg s)).lim = s.lim := by simp [windowMeasured]
  exact congrArg (fun l : TorqueLimiter =>
    { l with stack := { l.stack with vibDerate := derateNow (windowChanged c cfg s) } }) hl

theorem windowMeasured_state : (windowMeasured c cfg s).vib.channels[c].state = s.vib.channels[c].state := by
  rw [windowMeasured_channel, if_pos rfl]
  rfl

theorem windowChanged_log (h : s.vib.channels[c].state ≠ s.vib.channels[c].newState cfg) :
    (windowChanged c cfg s).log =
      (vibStateRecord c (s.vib.channels[c].newState cfg) 0 (s.vib.channels[c].level cfg) s).log := by
  have hr := sameRecords_changeChannel c (s.vib.channels[c].newState cfg) .window (s.vib.channels[c].level cfg)
    (windowMeasured c cfg s)
  rw [windowMeasured_state, if_neg h] at hr
  have hm : SameRecords (windowMeasured c cfg s) s := sameRecords_setChannel rfl
  exact (hr.trans (hm.vibStateRecord c _ 0 _)).log

/-- A DANGER left makes the condition inactive (R78). -/
theorem windowChanged_trip (h : s.vib.channels[c].state ≠ s.vib.channels[c].newState cfg) :
    (windowChanged c cfg s).trip = { s.trip with active :=
      if s.vib.channels[c].state = .danger then removeCondition ⟨.vibDanger, .channel c⟩ s.trip.active
      else s.trip.active } := by
  have he := changeChannel_changes (s := windowMeasured c cfg s) (by rwa [windowMeasured_state]) .window
    (s.vib.channels[c].level cfg)
  rw [windowMeasured_state] at he
  exact congrArg State.trip he

end

/-! ### The derate behind a window (R82) -/

/-- The derate of the channels is delivered. -/
def Derated (s : State) : Prop := s.lim.stack.vibDerate = derateNow s ∧ s.vib.derate = derateNow s

theorem Derated.of_same {s t : State} (h : Derated s) (k : SameWatch s t) : Derated t := by
  rw [Derated, k.derate, k.vib, derateNow_congr k.table fun c => by rw [k.vib]]
  exact h

theorem Derated.setChannel {s : State} (h : Derated s) {c : Fin 6} {x : Channel}
    (hx : x.state = s.vib.channels[c].state) : Derated (setChannel c x s) := by
  rw [Derated, derateNow_setChannel hx]
  exact h

theorem derated_judgeWindow {c : Fin 6} {cfg : ChannelConfig} {s : State}
    (h : s.vib.channels[c].state ≠ s.vib.channels[c].newState cfg) : Derated (judgeWindow c cfg s) := by
  have hchanged : Derated (windowChanged c cfg s) := ⟨rfl, rfl⟩
  by_cases hd : s.vib.channels[c].newState cfg = .danger
  · rw [judgeWindow_enters h hd]
    have hset : Derated (setVibDanger c true (windowChanged c cfg s)) :=
      Derated.of_same (hchanged.setChannel (x := { (windowChanged c cfg s).vib.channels[c] with danger := true }) rfl)
        (.of_blocks rfl rfl rfl)
    exact hset.of_same (sameWatch_deliverCause _ _ _ _)
  · rw [judgeWindow_moves h hd]
    exact hchanged

/-! ### A delivery reads of the watch the channels' states alone (R102, R103, R158) -/

section

variable {s : State} {w : VibWatch} (h : ∀ k : Fin 6, w.channels[k].state = s.vib.channels[k].state)

include h

theorem sameRecords_withVib : SameRecords { s with vib := w } s := { SameRecords.refl s with states := h }

theorem raise_withVib (k : EventKind) (o : Source) (f : Word) (a b : DWord) :
    raise k o f a b { s with vib := w } = { raise k o f a b s with vib := w } :=
  State.ext_blocks rfl rfl rfl rfl rfl rfl rfl rfl rfl ((sameRecords_withVib h).raise k o f a b).log rfl rfl rfl

theorem appendCause_withVib (c : CauseId) (v : DWord) :
    appendCause c v { s with vib := w } = { appendCause c v s with vib := w } := by
  unfold appendCause
  dsimp only
  split
  · rfl
  · split
    · exact raise_withVib (s := { s with trip := { s.trip with list := s.trip.list ++ [causeEntry c v s] } }) h
        _ _ _ _ _
    · split
      · rfl
      · exact raise_withVib (s := { s with trip := { s.trip with
          overflowSet := s.trip.overflowSet ++ [c], overflowCount := s.trip.overflowCount + 1 } }) h _ _ _ _ _

theorem latchTrip_withVib (d : Delivery) (c : CauseId) (v : DWord) :
    latchTrip d c v { s with vib := w } = { latchTrip d c v s with vib := w } := by
  have hlim : (latchTrip d c v { s with vib := w }).lim = (latchTrip d c v s).lim := by
    rw [latchTrip_lim, latchTrip_lim]
    have hc : (compute (trippedFrom { s with vib := w })).lim = (compute (trippedFrom s)).lim :=
      compute_lim_congr rfl rfl rfl rfl
    rw [hc]
  have hreg (m : Motor) : (latchTrip d c v { s with vib := w }).reg m = (latchTrip d c v s).reg m := by
    rw [latchTrip_reg, latchTrip_reg]
    cases m <;> rfl
  have hlink : (latchTrip d c v { s with vib := w }).link = (latchTrip d c v s).link := by
    rw [latchTrip_link, latchTrip_link]
    have hb : (blockBoth d.own { s with vib := w }).link = (blockBoth d.own s).link :=
      blockBoth_link_congr _ rfl rfl rfl
    rw [hb]
    rfl
  have hrecorder : (latchTrip d c v { s with vib := w }).recorder = (latchTrip d c v s).recorder := by
    rw [latchTrip_recorder, latchTrip_recorder, hlim]
    rfl
  have hlog : (latchTrip d c v { s with vib := w }).log = (latchTrip d c v s).log :=
    ((sameLog_latchTrip d c v _).trans (((sameRecords_withVib h).toSameLog.latchRecords rfl rfl c v).trans
      (sameLog_latchTrip d c v s).symm)).log
  exact State.ext_blocks (by rw [latchTrip_run, latchTrip_run]) hlim (hreg .A) (hreg .B) (by simp) (by simp)
    (by rw [latchTrip_trip, latchTrip_trip]; rfl) hrecorder (by simp) hlog (by simp) hlink (by simp)

theorem deliverCause_withVib (d : Delivery) (c : CauseId) (v : DWord) :
    deliverCause d c v { s with vib := w } = { deliverCause d c v s with vib := w } := by
  cases hl : s.trip.latch
  · rw [deliverCause_clear (s := { s with vib := w }) hl, deliverCause_clear hl]
    exact latchTrip_withVib h d c v
  · rw [deliverCause_latched (s := { s with vib := w }) hl, deliverCause_latched hl]
    exact appendCause_withVib h c v

end

/-! ### A frame taken (R73 to R76) -/

/-- The channel with the frame's squares added, its timer started (R73, R74). -/
def gatheredChannel (cfg : ChannelConfig) (samples : Vector Word 8) (x : Channel) : Channel :=
  Channel.gathered { x with silenceTimer := .running cfg.silenceTime } samples

theorem gatheredChannel_eq (cfg : ChannelConfig) (samples : Vector Word 8) (x : Channel) :
    gatheredChannel cfg samples x = { x with
      acc := x.acc + (samples.toList.map fun w => w.toInt.natAbs ^ 2).sum
      overrange := x.overrange || samples.toList.any fun w => w.toInt == -32768 || w.toInt == 32767
      frames := x.frames + 1
      silenceTimer := .running cfg.silenceTime } := by
  rw [← sumSquares_eq]
  rfl

section

variable {c : Fin 6} {cfg : ChannelConfig} {s : State}

theorem takeFrame_eq (samples : Vector Word 8) :
    takeFrame c cfg samples s =
      match s.vib.channels[c].phase with
      | .gather =>
        if s.vib.channels[c].frames + 1 = cfg.window then
          evaluateWindow c cfg (setChannel c (gatheredChannel cfg samples s.vib.channels[c]) s)
        else setChannel c (gatheredChannel cfg samples s.vib.channels[c]) s
      | .skip =>
        setChannel c (Channel.skipped { s.vib.channels[c] with silenceTimer := .running cfg.silenceTime } cfg.gap) s :=
  rfl

theorem takeFrame_gathers (hp : s.vib.channels[c].phase = .gather) (hw : s.vib.channels[c].frames + 1 ≠ cfg.window)
    (samples : Vector Word 8) :
    takeFrame c cfg samples s = setChannel c (gatheredChannel cfg samples s.vib.channels[c]) s := by
  rw [takeFrame_eq, hp]
  exact if_neg hw

theorem takeFrame_evaluates (hp : s.vib.channels[c].phase = .gather) (hw : s.vib.channels[c].frames + 1 = cfg.window)
    (samples : Vector Word 8) :
    takeFrame c cfg samples s
      = evaluateWindow c cfg (setChannel c (gatheredChannel cfg samples s.vib.channels[c]) s) := by
  rw [takeFrame_eq, hp]
  exact if_pos hw

theorem takeFrame_skips (hp : s.vib.channels[c].phase = .skip) (samples : Vector Word 8) :
    takeFrame c cfg samples s = setChannel c
      (if cfg.gap ≤ s.vib.channels[c].frames + 1 then
        { s.vib.channels[c] with
          phase := .gather, acc := 0, frames := 0, overrange := false, silenceTimer := .running cfg.silenceTime }
      else { s.vib.channels[c] with
        frames := s.vib.channels[c].frames + 1, silenceTimer := .running cfg.silenceTime }) s := by
  rw [takeFrame_eq, hp]
  rfl

theorem evaluateWindow_channel (k : Fin 6) :
    (evaluateWindow c cfg s).vib.channels[k] =
      if k = c then (s.vib.channels[c].judged cfg).nextWindow cfg.gap else s.vib.channels[k] := by
  unfold evaluateWindow
  dsimp only
  rw [setChannel_channel, judgeWindow_channel, judgeWindow_channel, if_pos rfl]
  split <;> rfl

/-- A frame reaches its own channel alone (R73). -/
theorem takeFrame_other {k : Fin 6} (hk : k ≠ c) (samples : Vector Word 8) :
    (takeFrame c cfg samples s).vib.channels[k] = s.vib.channels[k] := by
  cases hp : s.vib.channels[c].phase with
  | gather =>
    by_cases hw : s.vib.channels[c].frames + 1 = cfg.window
    · rw [takeFrame_evaluates hp hw, evaluateWindow_channel, if_neg hk, setChannel_channel, if_neg hk]
    · rw [takeFrame_gathers hp hw, setChannel_channel, if_neg hk]
  | skip => rw [takeFrame_skips hp, setChannel_channel, if_neg hk]

end

/-! ### A window evaluated (R75, R78, R79) -/

section

variable {c : Fin 6} {cfg : ChannelConfig} {s : State} {y : Channel}

/-- The state behind the last frame of a window: the channel gathered `y`, and its window is judged. -/
def windowClosed (c : Fin 6) (cfg : ChannelConfig) (y : Channel) (s : State) : State :=
  evaluateWindow c cfg (setChannel c y s)

theorem setChannel_channel_self (c : Fin 6) (y : Channel) (s : State) : (setChannel c y s).vib.channels[c] = y :=
  (setChannel_channel c c y s).trans (if_pos rfl)

theorem windowClosed_channel : (windowClosed c cfg y s).vib.channels[c] = (y.judged cfg).nextWindow cfg.gap := by
  rw [windowClosed, evaluateWindow_channel, if_pos rfl, setChannel_channel_self]

/-- The next window begins in the state the last one left, so that the derate stands. -/
theorem nextWindow_state : ((judgeWindow c cfg s).vib.channels[c].nextWindow cfg.gap).state
    = (judgeWindow c cfg s).vib.channels[c].state := (Channel.nextWindow_kept _ _).1

theorem windowClosed_stays (h : y.state = y.newState cfg) :
    windowClosed c cfg y s = { s with vib := (windowClosed c cfg y s).vib } := by
  have hy := setChannel_channel_self c y s
  unfold windowClosed evaluateWindow
  rw [judgeWindow_stays (by rw [hy]; exact h)]
  rfl

theorem windowClosed_derated (h : y.state ≠ y.newState cfg) : Derated (windowClosed c cfg y s) :=
  (derated_judgeWindow (by rw [setChannel_channel_self]; exact h)).setChannel nextWindow_state

/-- A change of state that is no entry into DANGER, block by block (R78, R80, R82). -/
theorem windowClosed_moves (hy : y.state = s.vib.channels[c].state) (h : y.state ≠ y.newState cfg)
    (hd : y.newState cfg ≠ .danger) :
    (windowClosed c cfg y s).log = (vibStateRecord c (y.newState cfg) 0 (y.level cfg) s).log
      ∧ (windowClosed c cfg y s).trip.active = (if y.state = .danger then
          removeCondition ⟨.vibDanger, .channel c⟩ s.trip.active else s.trip.active)
      ∧ windowClosed c cfg y s = { s with
          vib := (windowClosed c cfg y s).vib
          log := (windowClosed c cfg y s).log
          lim := { s.lim with stack := { s.lim.stack with vibDerate := derateNow (windowClosed c cfg y s) } }
          trip := { s.trip with active := (windowClosed c cfg y s).trip.active } } := by
  have hc := setChannel_channel_self c y s
  have hj : judgeWindow c cfg (setChannel c y s) = windowChanged c cfg (setChannel c y s) :=
    judgeWindow_moves (by rw [hc]; exact h) (by rw [hc]; exact hd)
  have hlog := windowChanged_log (c := c) (cfg := cfg) (s := setChannel c y s) (by rw [hc]; exact h)
  have htrip := windowChanged_trip (c := c) (cfg := cfg) (s := setChannel c y s) (by rw [hc]; exact h)
  have hlim := windowChanged_lim c cfg (setChannel c y s)
  have hnow : derateNow (windowClosed c cfg y s) = derateNow (judgeWindow c cfg (setChannel c y s)) :=
    derateNow_setChannel nextWindow_state
  have hsame := (sameRecords_setChannel hy).vibStateRecord c (y.newState cfg) 0 (y.level cfg)
  rw [hc] at hlog htrip
  rw [← hj] at hlog htrip hlim
  rw [← hnow] at hlim
  refine ⟨hlog.trans hsame.log, congrArg TripController.active htrip, ?_⟩
  have hactive : (windowClosed c cfg y s).trip
      = { s.trip with active := (windowClosed c cfg y s).trip.active } :=
    htrip.trans (congrArg (fun e => { s.trip with active := e }) (congrArg TripController.active htrip).symm)
  exact State.ext_blocks (by simp [windowClosed, evaluateWindow, hj]) hlim (by simp [windowClosed, evaluateWindow, hj])
    (by simp [windowClosed, evaluateWindow, hj]) rfl (by simp [windowClosed]) hactive
    (by simp [windowClosed, evaluateWindow, hj]) (by simp [windowClosed]) rfl (by simp [windowClosed])
    (by simp [windowClosed, evaluateWindow, hj]) (by simp [windowClosed])

/-- The state in which VIB_DANGER is delivered, the window already closed: the change recorded, the derate delivered,
the condition in the set (R78, R79). -/
def dangerEntered (c : Fin 6) (cfg : ChannelConfig) (y : Channel) (s : State) : State :=
  { vibStateRecord c .danger 0 (y.level cfg) s with
    vib := (windowClosed c cfg y s).vib
    lim := { s.lim with stack := { s.lim.stack with vibDerate := derateNow (windowClosed c cfg y s) } }
    trip := { s.trip with active := addCondition ⟨.vibDanger, .channel c⟩ s.trip.active } }

/-- An entry into DANGER ends in the delivery of its cause (R79, R102, R103). -/
theorem windowClosed_enters (hy : y.state = s.vib.channels[c].state) (h : y.state ≠ y.newState cfg)
    (hd : y.newState cfg = .danger) :
    windowClosed c cfg y s = deliverCause { own := none, inSetpoint := false } ⟨.vibDanger, .channel c⟩
      (BitVec.ofNat 32 (y.level cfg)) (dangerEntered c cfg y s) := by
  have hc := setChannel_channel_self c y s
  let u := windowChanged c cfg (setChannel c y s)
  let x := setVibDanger c true u
  have hj : judgeWindow c cfg (setChannel c y s) = enterDanger c (y.level cfg) u := by
    have he := judgeWindow_enters (c := c) (cfg := cfg) (s := setChannel c y s) (by rw [hc]; exact h)
      (by rw [hc]; exact hd)
    rwa [hc] at he
  have hclosed : windowClosed c cfg y s = { enterDanger c (y.level cfg) u with vib := (windowClosed c cfg y s).vib } := by
    unfold windowClosed evaluateWindow
    rw [hj]
    rfl
  have hstates (k : Fin 6) : (windowClosed c cfg y s).vib.channels[k].state = x.vib.channels[k].state := by
    have hset : (setChannel c ((enterDanger c (y.level cfg) u).vib.channels[c].nextWindow cfg.gap)
        (enterDanger c (y.level cfg) u)).vib.channels[k].state = (enterDanger c (y.level cfg) u).vib.channels[k].state :=
      (sameRecords_setChannel (Channel.nextWindow_kept _ _).1).states k
    have hvib : (enterDanger c (y.level cfg) u).vib = x.vib := by simp [enterDanger, x]
    rw [← hvib, ← hset]
    unfold windowClosed evaluateWindow
    rw [hj]
  have hnow : derateNow u = derateNow (windowClosed c cfg y s) := by
    refine derateNow_congr (by simp [u, windowChanged, windowMeasured, windowClosed]) fun k => ?_
    rw [hstates k]
    exact ((sameRecords_setChannel rfl : SameRecords (setChannel c { u.vib.channels[c] with danger := true } u) u).states
      k).symm
  have hentered : { x with vib := (windowClosed c cfg y s).vib } = dangerEntered c cfg y s := by
    have hlog := windowChanged_log (c := c) (cfg := cfg) (s := setChannel c y s) (by rw [hc]; exact h)
    have htrip := windowChanged_trip (c := c) (cfg := cfg) (s := setChannel c y s) (by rw [hc]; exact h)
    have hlim : u.lim = _ := windowChanged_lim c cfg (setChannel c y s)
    have hsame := (sameRecords_setChannel hy).vibStateRecord c .danger 0 (y.level cfg)
    rw [hc, if_neg (by rw [← hd]; exact h)] at htrip
    rw [hc, hd] at hlog
    have hactive : x.trip = { u.trip with active := addCondition ⟨.vibDanger, .channel c⟩ u.trip.active } := rfl
    have hu : u.trip = (setChannel c y s).trip := htrip
    rw [hu] at hactive
    rw [show derateNow (windowChanged c cfg (setChannel c y s)) = _ from hnow] at hlim
    exact State.ext_blocks (by simp [x, u, dangerEntered, vibStateRecord]) hlim
      (by simp [x, u, dangerEntered, vibStateRecord]) (by simp [x, u, dangerEntered, vibStateRecord]) rfl
      (by simp [x, u, dangerEntered, vibStateRecord]) hactive (by simp [x, u, dangerEntered, vibStateRecord])
      (by simp [x, u, dangerEntered, vibStateRecord]) (hlog.trans hsame.log)
      (by simp [x, u, dangerEntered, vibStateRecord]) (by simp [x, u, dangerEntered, vibStateRecord])
      (by simp [x, u, dangerEntered, vibStateRecord])
  rw [hclosed, ← hentered, deliverCause_withVib hstates]
  rfl

end

/-! ### VIBSAMPLE -/

section

variable {g : ChannelConfig} {y : Channel}

/-- What a channel holds once its next window begins (R75, R76). -/
theorem Channel.nextWindow_fields (y : Channel) (gap : Nat) :
    (y.nextWindow gap).lastLevel = y.lastLevel ∧ (y.nextWindow gap).persist = y.persist
      ∧ (y.nextWindow gap).state = y.state ∧ (y.nextWindow gap).danger = y.danger
      ∧ (if 0 < gap then (y.nextWindow gap).phase = .skip
        else (y.nextWindow gap).phase = .gather ∧ (y.nextWindow gap).acc = 0
          ∧ (y.nextWindow gap).overrange = false)
      ∧ (y.nextWindow gap).frames = 0 ∧ (y.nextWindow gap).silenceTimer = y.silenceTimer := by
  unfold Channel.nextWindow
  by_cases h : 0 < gap
  · simp [h]
  · simp [h, Channel.emptyWindow]

theorem Channel.judged_danger_of_stays (h : y.newState g = y.state) : (y.judged g).danger = y.danger := if_pos h.symm

theorem Channel.judged_danger_of_leaves (h : y.newState g ≠ y.state) (hd : y.newState g ≠ .danger)
    (hy : y.state = .danger) : (y.judged g).danger = false :=
  (if_neg (Ne.symm h)).trans ((if_neg hd).trans (if_pos hy))

theorem Channel.judged_danger_of_enters (h : y.state ≠ y.newState g) (hd : y.newState g = .danger) :
    (y.judged g).danger = true := (if_neg h).trans (if_pos hd)

end

theorem vibDanger_mem_conditionOrder (c : Fin 6) : ⟨.vibDanger, .channel c⟩ ∈ conditionOrder := by
  revert c
  decide

section

variable {c : Fin 6} {cfg : ChannelConfig} {s : State} {y : Channel}

/-- An entry into DANGER leaves the condition in the set, and the latch set (R79, R102). -/
theorem windowClosed_enters_trip (hy : y.state = s.vib.channels[c].state) (h : y.state ≠ y.newState cfg)
    (hd : y.newState cfg = .danger) :
    (windowClosed c cfg y s).trip.active = addCondition ⟨.vibDanger, .channel c⟩ s.trip.active
      ∧ (windowClosed c cfg y s).trip.latch = true := by
  rw [windowClosed_enters hy h hd]
  exact ⟨(deliverCause_conditions _ _ _ _).1, deliverCause_latch _ _ _ _⟩

end

/-- Settles O58: the frame is gathered, skipped or completes its window, and a window's change of state is one of no
change, a change outside DANGER's entry, and an entry into DANGER. -/
theorem vibSampleGathersAndEvaluates : Obligations.VibSampleGathersAndEvaluates := by
  refine ⟨fun c seq samples s hg => execVibSample_discarded (.inr hg) seq samples,
    fun c seq samples s g hg hclear => ?_⟩
  intro x a acc beyond
  have hvib : a.vib = s.vib := by simp [a]
  have hlim : a.lim = s.lim := by simp [a]
  have htrip : a.trip = s.trip := by simp [a]
  have hx : a.vib.channels[c] = x := by rw [hvib]
  by_cases hoff : x.state = .off
  · exact ⟨a, execVibSample_discarded (.inl hoff) seq samples, fun k _ => by rw [hvib], by simp [a], by simp [a],
      by simp [a], by simp [a], fun _ => rfl, fun h => absurd hoff h, fun h => absurd hoff h,
      fun h => absurd hoff h⟩
  refine ⟨takeFrame c g samples a, execVibSample_taken hoff hg seq samples,
    fun k hk => by rw [takeFrame_other hk, hvib], by simp [a], by simp [a], by simp [a], by simp [a],
    fun h => absurd h hoff, fun _ hp hw => ?gathers, fun _ hp => ?skips, fun _ hp hw hacc => ?evaluates⟩
  case gathers =>
    rw [takeFrame_gathers (by rw [hx]; exact hp) (by rw [hx]; exact hw), hx, gatheredChannel_eq]
    exact ⟨setChannel_channel_self c _ a, rfl⟩
  case skips =>
    rw [takeFrame_skips (by rw [hx]; exact hp), hx]
    exact ⟨setChannel_channel_self c _ a, rfl⟩
  case evaluates =>
    let y := gatheredChannel g samples x
    have hy : y = { x with
        acc := acc, overrange := beyond, frames := x.frames + 1, silenceTimer := .running g.silenceTime } :=
      gatheredChannel_eq g samples x
    have hystate : y.state = a.vib.channels[c].state := by rw [hy, hx]
    have ht : takeFrame c g samples a = windowClosed c g y a := by
      rw [takeFrame_evaluates (by rw [hx]; exact hp) (by rw [hx]; exact hw), hx]
      rfl
    have hstate : y.state = x.state := by rw [hy]
    have hdanger : y.danger = x.danger := by rw [hy]
    clear_value a y acc beyond
    rw [ht, windowClosed_channel, ← hstate, ← hdanger]
    rw [← hstate] at hoff
    obtain ⟨hlevel, hpersist, hnew, hnewDanger, hphase, hframes, htimer⟩ :=
      Channel.nextWindow_fields (y.judged g) g.gap
    obtain ⟨hlow, hhigh⟩ := isqrt_spec hacc
    refine ⟨isqrt (acc / (8 * g.window)), y.level g, y.newCount g, y.newState g, hlow, hhigh, ?_, ?_, ?_, hlevel,
      hpersist, hnew, hphase, hframes, ?_, fun h => ⟨?_, ?_⟩, fun h => ?_, fun h hd => ⟨?_, fun hleft => ⟨?_, ?_⟩, ?_⟩,
      fun hd hold => ?_⟩
    · rw [← liftLevel_eq, Channel.level, hy]
      rfl
    · rw [Channel.newCount, persistAfter, hy]
    · exact stateAfterWindow_eq hclear hoff _ _
    · rw [htimer, Channel.judged, Channel.measured, hy]
    · exact windowClosed_stays h.symm
    · exact hnewDanger.trans (Channel.judged_danger_of_stays h)
    · exact windowClosed_derated (Ne.symm h)
    · exact (windowClosed_moves hystate (Ne.symm h) hd).1
    · exact hnewDanger.trans (Channel.judged_danger_of_leaves h hd hleft)
    · rw [(windowClosed_moves hystate (Ne.symm h) hd).2.1, if_pos hleft, mem_removeCondition]
      simp
    · rw [← hlim, ← htrip]
      exact (windowClosed_moves hystate (Ne.symm h) hd).2.2
    · have hchange : y.state ≠ y.newState g := fun he => hold (he.trans hd)
      obtain ⟨hactive, hlatch⟩ := windowClosed_enters_trip hystate hchange hd
      rw [← hlim, ← htrip, hactive, hd]
      refine ⟨hnewDanger.trans (Channel.judged_danger_of_enters hchange hd), ?_, hlatch,
        fun k hk => mem_addCondition _ hk, windowClosed_enters hystate hchange hd⟩
      exact (mem_addCondition _ (vibDanger_mem_conditionOrder c)).mpr (.inr rfl)

end Sys2Proof.Machine

/-! O37: a VIB commit sets up the channels in their order, each with the record of its change, then judges the ring
alert (R85, R97). -/

namespace Sys2Proof.Machine

/-! ### The channels under a new image (R82, R85) -/

theorem derated_deliverVibDerate (s : State) : Derated (deliverVibDerate s) := ⟨rfl, rfl⟩

/-- A commit ends with the delivery of the derate (R85). -/
theorem derated_vibCommit (s : State) : Derated (vibCommit s) := derated_deliverVibDerate _

section

variable {s : State} {g : VibTable} (hg : activeVib s = some g)

include hg

theorem channelEnabled_of_active (c : Fin 6) : channelEnabled s c = g.channels[c].enable := by
  rw [channelEnabled, channelConfig, hg]
  rfl

theorem committedState_of_active (c : Fin 6) :
    committedState s c = if g.channels[c].enable then .silent else .off := by
  rw [committedState, channelEnabled_of_active hg]

/-- A channel just set up counts toward the derate where it is enabled and required (R72, R82). -/
theorem derates_committedState {x : Channel} {c : Fin 6} (hx : x.state = committedState s c) (required : Bool) :
    x.derates required = (g.channels[c].enable && required) := by
  rw [Channel.derates, hx, committedState_of_active hg]
  cases g.channels[c].enable <;> rfl

theorem vibCommit_derate : derateNow (vibCommit s) =
    ((List.finRange 6).filter fun c => g.channels[c].enable && g.channels[c].required).foldl
      (fun d c => min d g.channels[c].factor) 4096 := by
  have hact : activeVib (vibCommit s) = some g := by
    rw [activeVib, show (vibCommit s).tab = s.tab by simp]
    exact hg
  have hder (c : Fin 6) (required : Bool) :
      (vibCommit s).vib.channels[c].derates required = (g.channels[c].enable && required) :=
    derates_committedState hg (by rw [vibCommit_channel]; rfl) required
  rw [derateNow, hact, List.foldl_filter]
  simp only [vibrationDerate, hder]
  rfl

end

/-! ### The records of a commit (R80, R95, R97) -/

/-- Each channel in turn leaves the record of its change, with the level it held (R85). -/
theorem sameRecords_setUpChannels (v : Vector Channel 6) (state : Fin 6 → ChannelState) (l : List (Fin 6))
    (hl : l.Nodup) {u x : State} (hsame : SameRecords u x) (hkept : ∀ c ∈ l, u.vib.channels[c] = v[c])
    (hstate : ∀ c, committedState u c = state c) :
    SameRecords (l.foldl (fun s c => setUpChannel c s) u)
      (l.foldl (fun x c => if v[c].state = state c then x else vibStateRecord c (state c) 3 v[c].lastLevel x) x) := by
  induction l generalizing u x with
  | nil => exact hsame
  | cons c l ih =>
    obtain ⟨hc, hl⟩ := List.nodup_cons.mp hl
    refine ih hl ?_ (fun k hk => ?_) fun k => ?_
    · have hr : SameRecords (setUpChannel c u) _ := sameRecords_restartChannel c (committedState u c) .commit u
      rw [hstate, hkept c List.mem_cons_self] at hr
      dsimp only
      split
      · next he => exact (by rwa [if_pos he] at hr : SameRecords _ u).trans hsame
      · next he =>
        rw [if_neg he] at hr
        exact hr.trans (hsame.vibStateRecord c _ 3 _)
    · rw [setUpChannel_channel, if_neg fun he : k = c => hc (he ▸ hk), hkept k (List.mem_cons_of_mem c hk)]
    · rw [committedState, channelEnabled_congr (s := u) (by simp)]
      exact hstate k

theorem sameRecords_deliverVibDerate (s : State) : SameRecords (deliverVibDerate s) s :=
  ⟨rfl, rfl, rfl, rfl, fun _ => rfl, rfl⟩

theorem setRingAlert_eq (on : Bool) (x : RingReason) (s : State) :
    setRingAlert on x s = ringStateRecord on x.code s.load.ecc s := by
  have hon : count32 (bit on 0) = if on then 1 else 0 := by cases on <;> rfl
  rw [setRingAlert, hon]
  rfl

theorem ringStateRecord_load (on : Bool) (reason ecc : Nat) (s : State) :
    (ringStateRecord on reason ecc s).load = { s.load with ringAlert := on } := by
  unfold ringStateRecord
  split
  · next h => rw [← h]
  · rfl

/-- The ring alert alone is judged, against the new thresholds (R97). -/
theorem shellCommit_eq {s : State} {g : VibTable} (hg : activeVib s = some g) :
    shellCommit s = ringStateRecord (ringAlertAfter g s.load) 2 s.load.ecc s := by
  rw [shellCommit, hg]
  exact setRingAlert_eq _ _ _

/-! ### TABLE_COMMIT of the VIB table -/

theorem imageActive_vib {b : Staging} (hb : b.table = .vib) (r : Request) (n : Bool) (fields : List Int) (s : State) :
    (imageActive r n b fields s).tab.vib = some { version := b.version, table := VibTable.ofFields fields } := by
  cases n <;> simp [hb, TableManager.activate, TableManager.setBuffer]

/-- The state in which an accepted VIB commit is answered (R171). -/
def vibCommitted (r : Request) (n : Bool) (b : Staging) (fields : List Int) (k : Nat) (s : State) : State :=
  raise .table (.table .vib) (if 0 < k then 1 else 0) (b.version.setWidth 32) (BitVec.ofNat 32 k)
    (shellCommit (vibCommit (imageActive r n b fields s)))

section

variable {r : Request} {n : Bool} {b : Staging} {fields : List Int} {k : Nat} {s : State}

theorem acceptCommit_vib (hb : b.table = .vib) :
    acceptCommit n b fields k (requestTaken r s) = vibCommitted r n b fields k s := by
  unfold acceptCommit
  dsimp only
  rw [raiseTable_eq, hb]
  simp only [informOwners, vibCommitted, imageActive, requestTaken_frame, hb]

theorem exec_tableCommit_vib (hs : s.link.slot = none) (hr : r.args = [if n then 1 else 0])
    (hb : s.tab.buffer n = some b) (ht : b.table = .vib) (hfull : ∀ i < b.length, Cells.read b.cells i ≠ none)
    (hlock : ¬(s.tab.locks[2] = true ∧ s.tab.lockLine = true)) (hv : validate .vib b.length b.image = .good fields k) :
    exec (.tableCommit r) s = .next (answerPlaced 6 r (if k = 0 then .ok else .adjusted)
      (if k = 0 then [] else bytes16 (BitVec.ofNat 16 k)) (vibCommitted r n b fields k s)) := by
  have howner := tableCommit_accepted (s := requestTaken r s) (by simpa using hb) hfull
    (by simpa [ht, TableId.index] using hlock) (by simp [ht]) (by rwa [ht])
  change Host.Outcome.next (serve 6 r (tableCommit r.args) s) = _
  rw [serve_reply 6 r _ hs, hr, howner, acceptCommit_vib ht]
  rfl

/-- The conditions stand as their owners hold them (R101). -/
theorem vibCommitted_conditions (h : ConditionLaw s) (hb : b.table = .vib) :
    ConditionLaw (vibCommitted r n b fields k s) := by
  rw [← acceptCommit_vib hb]
  have htaken : ConditionLaw (requestTaken r s) := h.of_same .of_blocks
  exact htaken.acceptCommit n b fields k

theorem imageActive_active (hb : b.table = .vib) :
    activeVib (imageActive r n b fields s) = some (VibTable.ofFields fields) :=
  congrArg (Option.map Active.table) (imageActive_vib hb r n fields s)

/-- What the ring alert and the record of the commit leave alone (R97, R171). -/
theorem vibCommitted_blocks (r : Request) (n : Bool) (b : Staging) (fields : List Int) (k : Nat) (s : State) :
    (vibCommitted r n b fields k s).tab = (imageActive r n b fields s).tab
      ∧ (vibCommitted r n b fields k s).vib = (vibCommit (imageActive r n b fields s)).vib
      ∧ (vibCommitted r n b fields k s).lim = (vibCommit (imageActive r n b fields s)).lim := by
  simp [vibCommitted]

/-- The commit as far as the ring alert, which is judged of the load profile as it stood (R97). -/
theorem vibCommitted_eq (hb : b.table = .vib) :
    vibCommitted r n b fields k s =
      raise .table (.table .vib) (if 0 < k then 1 else 0) (b.version.setWidth 32) (BitVec.ofNat 32 k)
        (ringStateRecord (ringAlertAfter (VibTable.ofFields fields) s.load) 2 s.load.ecc
          (vibCommit (imageActive r n b fields s))) := by
  have hload : (vibCommit (imageActive r n b fields s)).load = s.load := by simp
  have hact : activeVib (vibCommit (imageActive r n b fields s)) = some (VibTable.ofFields fields) := by
    rw [activeVib, show (vibCommit (imageActive r n b fields s)).tab = (imageActive r n b fields s).tab by simp]
    exact imageActive_active hb
  rw [vibCommitted, shellCommit_eq hact, hload]

theorem vibCommitted_load (hb : b.table = .vib) :
    (vibCommitted r n b fields k s).load =
      { s.load with ringAlert := ringAlertAfter (VibTable.ofFields fields) s.load } := by
  have hload : (vibCommit (imageActive r n b fields s)).load = s.load := by simp
  rw [vibCommitted_eq hb]
  simp only [raise_frame, ringStateRecord_load, hload]

theorem vibCommitted_ringAlert (hb : b.table = .vib) :
    ringAlertAfter (VibTable.ofFields fields) s.load = (vibCommitted r n b fields k s).load.ringAlert :=
  (congrArg LoadProfile.ringAlert (vibCommitted_load hb)).symm

/-- The records come behind the request and the table (R171). -/
theorem vibCommitted_base (r : Request) (n : Bool) (b : Staging) (fields : List Int) (k : Nat) (s : State) :
    imageActive r n b fields s = { requestTaken r s with tab := (vibCommitted r n b fields k s).tab } := by
  rw [(vibCommitted_blocks r n b fields k s).1]
  rfl

theorem vibCommitted_log (hb : b.table = .vib) :
    (vibCommitted r n b fields k s).log =
      (raise .table (.table .vib) (if 0 < k then 1 else 0) (b.version.setWidth 32) (BitVec.ofNat 32 k)
        (ringStateRecord (vibCommitted r n b fields k s).load.ringAlert 2 s.load.ecc
          (allChannels.foldl (fun x c =>
              if s.vib.channels[c].state = committedState (imageActive r n b fields s) c then x
              else vibStateRecord c (committedState (imageActive r n b fields s) c) 3 s.vib.channels[c].lastLevel x)
            { requestTaken r s with tab := (vibCommitted r n b fields k s).tab }))).log := by
  have hvib : (imageActive r n b fields s).vib = s.vib := by simp
  have hchannels := sameRecords_setUpChannels s.vib.channels (committedState (imageActive r n b fields s)) allChannels
    (by decide) (.refl (imageActive r n b fields s)) (fun c _ => by rw [hvib]) fun _ => rfl
  have hcommit := (sameRecords_deliverVibDerate _).trans hchannels
  rw [← vibCommitted_ringAlert hb, ← vibCommitted_base, vibCommitted_eq hb]
  exact ((hcommit.ringStateRecord _ 2 _).raise _ _ _ _ _).log

theorem vibCommitted_channel (h : ConditionLaw s) (c : Fin 6) :
    (vibCommitted r n b fields k s).vib.channels[c] =
      { state := committedState (imageActive r n b fields s) c, phase := .gather, acc := 0, frames := 0,
        overrange := false, persist := 0, lastLevel := 0, silenceTimer := .stopped, danger := false } := by
  obtain ⟨-, hvib, -⟩ := vibCommitted_blocks r n b fields k s
  have hs : (imageActive r n b fields s).vib = s.vib := by simp
  rw [hvib, vibCommit_channel, hs]
  exact Channel.restarted_eq (h.danger c) (committedState_ne_danger _ c)

/-- The derate of the new factors is delivered (R82, R85). -/
theorem vibCommitted_derate (hb : b.table = .vib) :
    (vibCommitted r n b fields k s).lim.stack.vibDerate =
        ((List.finRange 6).filter fun c =>
            (VibTable.ofFields fields).channels[c].enable && (VibTable.ofFields fields).channels[c].required).foldl
          (fun d c => min d (VibTable.ofFields fields).channels[c].factor) 4096
      ∧ (vibCommitted r n b fields k s).vib.derate = (vibCommitted r n b fields k s).lim.stack.vibDerate := by
  obtain ⟨-, hvib, hlim⟩ := vibCommitted_blocks r n b fields k s
  obtain ⟨hstack, hwatch⟩ := derated_vibCommit (imageActive r n b fields s)
  rw [hvib, hlim, hstack, hwatch]
  exact ⟨vibCommit_derate (imageActive_active hb), rfl⟩

end

/-- Settles O37, block by block: the channels, the conditions, the derate, the load profile, the log. -/
theorem vibCommitRestartsEveryChannel : Obligations.VibCommitRestartsEveryChannel := by
  intro r s n b fields k hs hlaw hr hb ht hfull hlock hv state
  have hstate : committedState (imageActive r n b fields s) = state :=
    funext fun c => committedState_of_active (imageActive_active ht) c
  obtain ⟨htab, -, -⟩ := vibCommitted_blocks r n b fields k s
  obtain ⟨hderate, hwatch⟩ := vibCommitted_derate (r := r) (n := n) (fields := fields) (k := k) (s := s) ht
  have htable := imageActive_vib ht r n fields s
  rw [← htab] at htable
  have hchannel (c : Fin 6) := vibCommitted_channel (r := r) (n := n) (b := b) (fields := fields) (k := k) hlaw c
  have hlog := vibCommitted_log (r := r) (n := n) (fields := fields) (k := k) (s := s) ht
  rw [hstate] at hlog hchannel
  have hinactive (c : Fin 6) : ⟨.vibDanger, .channel c⟩ ∉ (vibCommitted r n b fields k s).trip.active :=
    (vibCommitted_conditions hlaw ht).not_mem_vibDanger (by rw [hchannel])
  have hload := vibCommitted_load (r := r) (n := n) (fields := fields) (k := k) (s := s) ht
  have hexec := exec_tableCommit_vib hs hr hb ht hfull hlock hv
  generalize vibCommitted r n b fields k s = t at hexec htable hchannel hinactive hderate hwatch hload hlog
  exact ⟨_, VibTable.ofFields fields, hexec, htable, rfl, hchannel, hinactive, hderate, hwatch, hload, hlog⟩

end Sys2Proof.Machine

/-! O60: POSITION and its timer change the load profile alone, and a ring alert that changes leaves its record (R89 to
R95). -/

namespace Sys2Proof.Machine

/-! ### A revolution's averages and their spread (R91) -/

theorem LoadProfile.complete_iff (l : LoadProfile) : l.complete = true ↔ ∀ k : Fin 16, 0 < l.cnt[k] := by
  simp only [LoadProfile.complete, List.all_eq_true, Vector.mem_toList_iff, decide_eq_true_eq]
  constructor
  · exact fun h k => h _ (Vector.getElem_mem k.isLt)
  · intro h n hn
    obtain ⟨k, hk, rfl⟩ := Vector.getElem_of_mem hn
    exact h ⟨k, hk⟩

theorem LoadProfile.averages_sector (l : LoadProfile) (k : Fin 16) : l.averages[k] = l.acc[k] / l.cnt[k] :=
  Vector.getElem_ofFn k.isLt

/-- The spread is the difference of two sectors, a greatest and a least (R91). -/
theorem spread_eq (avg : Vector Nat 16) : ∃ j k : Fin 16,
    spread avg = avg[j] - avg[k] ∧ (∀ i : Fin 16, avg[i] ≤ avg[j]) ∧ ∀ i : Fin 16, avg[k] ≤ avg[i] := by
  have hne : avg.toList ≠ [] := List.ne_nil_of_length_pos (by simp)
  have hsector {x : Nat} (hx : x ∈ avg.toList) : ∃ k : Fin 16, avg[k] = x := by
    obtain ⟨k, hk, he⟩ := Vector.getElem_of_mem (Vector.mem_toList_iff.mp hx)
    exact ⟨⟨k, hk⟩, he⟩
  have hmem (i : Fin 16) : avg[i] ∈ avg.toList := Vector.mem_toList_iff.mpr (Vector.getElem_mem i.isLt)
  obtain ⟨hmax, hle⟩ := List.max?_eq_some_iff.mp (List.max?_eq_some_max hne)
  obtain ⟨hmin, hge⟩ := List.min?_eq_some_iff.mp (List.min?_eq_some_min hne)
  obtain ⟨j, hj⟩ := hsector hmax
  obtain ⟨k, hk⟩ := hsector hmin
  refine ⟨j, k, ?_, fun i => hj ▸ hle _ (hmem i), fun i => hk ▸ hge _ (hmem i)⟩
  have hfirst : avg.toList.min hne ≤ avg[0] := hge _ (hmem 0)
  rw [spread, List.foldl_max, List.foldl_min, List.max?_eq_some_max hne, List.min?_eq_some_min hne, hj, hk,
    Option.getD_some, Option.getD_some, Nat.zero_max, min_eq_right hfirst]

/-! ### The load profile's part of a step (R95, R158) -/

theorem setRingAlert_load (on : Bool) (reason : RingReason) (s : State) :
    (setRingAlert on reason s).load = { s.load with ringAlert := on } := by
  rw [setRingAlert_eq, ringStateRecord_load]

/-- A step of the load profile: it works on the profile and the log, and the log's only record is that of a ring alert
that changes. -/
structure ShellStep (reason : RingReason) (s t : State) : Prop where
  frame : t = { s with load := t.load, log := t.log }
  log : t.log = (ringStateRecord t.load.ringAlert reason.code t.load.ecc s).log

namespace ShellStep

variable {reason : RingReason} {s t : State}

theorem refl (reason : RingReason) (s : State) : ShellStep reason s s := ⟨rfl, by rw [ringStateRecord, if_pos rfl]⟩

/-- What is in no record may change (R95). -/
theorem withLoad (h : ShellStep reason s t) {l : LoadProfile} (ring : l.ringAlert = t.load.ringAlert)
    (ecc : l.ecc = t.load.ecc) : ShellStep reason s { t with load := l } where
  frame := by rw [h.frame]
  log := by
    rw [ring, ecc]
    exact h.log

/-- The ring alert judged on a profile with the ring alert as it was. -/
theorem judged {l : LoadProfile} (h : l.ringAlert = s.load.ringAlert) (on : Bool) :
    ShellStep reason s (setRingAlert on reason { s with load := l }) where
  frame := by
    unfold setRingAlert
    split <;> rfl
  log := by
    have hsame : SameRecords { s with load := l } s := ⟨rfl, rfl, rfl, h, fun _ => rfl, rfl⟩
    rw [setRingAlert_load, setRingAlert_eq]
    exact (hsame.ringStateRecord on reason.code l.ecc).log

end ShellStep

/-! ### An arrival under a VIB table (R89 to R92) -/

theorem angleStep_eq_forward {a p : Word} :
    angleStep a p = .forward ↔ a.toNat < p.toNat ∧ 32768 < p.toNat - a.toNat := by
  unfold angleStep
  split_ifs <;> simp <;> omega

theorem angleStep_eq_reverse {a p : Word} :
    angleStep a p = .reverse ↔ p.toNat < a.toNat ∧ 32768 < a.toNat - p.toNat := by
  unfold angleStep
  split_ifs <;> simp <;> omega

theorem angleStep_eq_step {a p : Word} (hforward : angleStep a p ≠ .forward) (hreverse : angleStep a p ≠ .reverse) :
    angleStep a p = .step := by
  cases h : angleStep a p with
  | forward => exact absurd h hforward
  | reverse => exact absurd h hreverse
  | step => rfl

section

variable {g : VibTable} {a : Word} {s : State}

/-- At every arrival the timer is started, and there is a reference when it ends (R89). -/
def LoadProfile.timed (l : LoadProfile) (g : VibTable) : LoadProfile :=
  { l with refPresent := true, posTimer := .running g.posTimeout }

/-- A complete revolution forms averages and ECC (R91). -/
def LoadProfile.revolved (l : LoadProfile) : LoadProfile :=
  { l with avg := l.averages, ecc := spread l.averages, eccValid := true }

/-- The ring alert a complete revolution leaves (R95). -/
theorem ringAlertAfter_revolved (l : LoadProfile) : ringAlertAfter g l.revolved =
    if g.ringAlert ≤ l.revolved.ecc then true
    else if l.revolved.ecc < g.ringClear then false
    else l.ringAlert := by
  unfold ringAlertAfter
  exact if_congr (and_iff_right rfl) rfl rfl

theorem takePosition_referenced (h : s.load.refPresent = true) :
    takePosition g a s = judgeAngle g a { s with load := s.load.timed g } := by
  rw [takePosition, if_pos h, LoadProfile.timed, ← h]

/-- The first angle, or a later one that is a step (R89, R90). -/
theorem takePosition_kept
    (h : s.load.refPresent = false
      ∨ s.load.refPresent = true ∧ angleStep a s.load.lastAngle = .step) :
    takePosition g a s = { s with load := { s.load.timed g with lastAngle := a } } := by
  obtain hfirst | ⟨href, hstep⟩ := h
  · rw [takePosition, if_neg (by simp [hfirst])]
    rfl
  · have hlast : (s.load.timed g).lastAngle = s.load.lastAngle := rfl
    rw [takePosition_referenced href, judgeAngle]
    simp only [hlast, hstep]

/-- After a reverse wrap, or a revolution in which a sector gathered nothing, the sums begin anew (R91, R92). -/
theorem takePosition_cleared (h : s.load.refPresent = true)
    (hdrop : angleStep a s.load.lastAngle = .reverse
      ∨ angleStep a s.load.lastAngle = .forward ∧ ¬s.load.complete = true) :
    takePosition g a s = { s with load := { (s.load.timed g).clearSums with lastAngle := a } } := by
  have hcnt : (s.load.timed g).complete = s.load.complete := rfl
  have hlast : (s.load.timed g).lastAngle = s.load.lastAngle := rfl
  rw [takePosition_referenced h, judgeAngle]
  obtain hreverse | ⟨hforward, hempty⟩ := hdrop
  · simp only [hlast, hreverse]
  · simp only [hlast, hforward, closeRevolution, hcnt, if_neg hempty]

/-- A complete revolution forms averages and ECC, has the ring alert judged on them, and begins the sums anew (R91,
R95). -/
theorem takePosition_complete (h : s.load.refPresent = true) (hforward : angleStep a s.load.lastAngle = .forward)
    (hfull : s.load.complete = true) : takePosition g a s =
      { setRingAlert (ringAlertAfter g (s.load.timed g).revolved) .revolution
          { s with load := (s.load.timed g).revolved } with
        load := { (s.load.timed g).revolved.clearSums with
          lastAngle := a, ringAlert := ringAlertAfter g (s.load.timed g).revolved } } := by
  have hcnt : (s.load.timed g).complete = s.load.complete := rfl
  have hlast : (s.load.timed g).lastAngle = s.load.lastAngle := rfl
  rw [takePosition_referenced h, judgeAngle]
  simp only [hlast, hforward, closeRevolution, hcnt, if_pos hfull, judgeRing, setRingAlert_load]
  rfl

/-- An arrival keeps the sums, clears them, or closes a revolution (R89 to R92). -/
theorem position_cases (a : Word) (l : LoadProfile) :
    (l.refPresent = false ∨ l.refPresent = true ∧ angleStep a l.lastAngle = .step)
      ∨ l.refPresent = true
        ∧ ((angleStep a l.lastAngle = .reverse ∨ angleStep a l.lastAngle = .forward ∧ ¬l.complete = true)
          ∨ angleStep a l.lastAngle = .forward ∧ l.complete = true) := by
  cases l.refPresent <;> cases angleStep a l.lastAngle <;> simp [or_comm]

theorem takePosition_shellStep (g : VibTable) (a : Word) (s : State) :
    ShellStep .revolution s (takePosition g a s) := by
  obtain hkept | ⟨href, hdrop | ⟨hforward, hfull⟩⟩ := position_cases a s.load
  · rw [takePosition_kept hkept]
    exact (ShellStep.refl .revolution s).withLoad rfl rfl
  · rw [takePosition_cleared href hdrop]
    exact (ShellStep.refl .revolution s).withLoad rfl rfl
  · rw [takePosition_complete href hforward hfull]
    have hjudged : ShellStep .revolution s (setRingAlert (ringAlertAfter g (s.load.timed g).revolved) .revolution
        { s with load := (s.load.timed g).revolved }) := .judged (by rfl) _
    exact hjudged.withLoad (by rw [setRingAlert_load]) (by rw [setRingAlert_load, LoadProfile.clearSums])

/-- The arrival becomes the last angle and starts the timer (R89). -/
theorem takePosition_located (g : VibTable) (a : Word) (s : State) :
    (takePosition g a s).load.lastAngle = a ∧ (takePosition g a s).load.refPresent = true
      ∧ (takePosition g a s).load.posTimer = .running g.posTimeout := by
  obtain hkept | ⟨href, hdrop | ⟨hforward, hfull⟩⟩ := position_cases a s.load
  · rw [takePosition_kept hkept]
    exact ⟨rfl, rfl, rfl⟩
  · rw [takePosition_cleared href hdrop]
    exact ⟨rfl, rfl, rfl⟩
  · rw [takePosition_complete href hforward hfull]
    exact ⟨rfl, rfl, rfl⟩

theorem takePosition_step_load (h : s.load.refPresent = true) (hstep : angleStep a s.load.lastAngle = .step) :
    (takePosition g a s).load = { s.load with lastAngle := a, posTimer := .running g.posTimeout } := by
  rw [takePosition_kept (.inr ⟨h, hstep⟩), LoadProfile.timed, ← h]

/-- Either wrap leaves the sums empty (R91, R92). -/
theorem takePosition_sums (h : s.load.refPresent = true) (hwrap : angleStep a s.load.lastAngle ≠ .step) (k : Fin 16) :
    (takePosition g a s).load.acc[k] = 0 ∧ (takePosition g a s).load.cnt[k] = 0 := by
  have hzero : (Vector.replicate 16 0)[k] = 0 := Vector.getElem_replicate k.isLt
  obtain (hfirst | ⟨-, hstep⟩) | ⟨-, hdrop | ⟨hforward, hfull⟩⟩ := position_cases a s.load
  · exact absurd (h.symm.trans hfirst) nofun
  · exact absurd hstep hwrap
  · rw [takePosition_cleared h hdrop]
    exact ⟨hzero, hzero⟩
  · rw [takePosition_complete h hforward hfull]
    exact ⟨hzero, hzero⟩

/-- The averages of the revolution before stand (R91, R92). -/
theorem takePosition_cleared_averages (h : s.load.refPresent = true)
    (hdrop : angleStep a s.load.lastAngle = .reverse
      ∨ angleStep a s.load.lastAngle = .forward ∧ ¬s.load.complete = true) :
    (takePosition g a s).load.avg = s.load.avg ∧ (takePosition g a s).load.ecc = s.load.ecc
      ∧ (takePosition g a s).load.eccValid = s.load.eccValid
      ∧ (takePosition g a s).load.ringAlert = s.load.ringAlert := by
  rw [takePosition_cleared h hdrop]
  exact ⟨rfl, rfl, rfl, rfl⟩

/-- The averages, ECC as their spread, and the ring alert against it (R91, R95). -/
theorem takePosition_complete_load (h : s.load.refPresent = true)
    (hforward : angleStep a s.load.lastAngle = .forward) (hfull : s.load.complete = true) :
    let l := (takePosition g a s).load
    (∀ k : Fin 16, l.avg[k] = s.load.acc[k] / s.load.cnt[k])
      ∧ (∀ j k : Fin 16, l.avg[j] - l.avg[k] ≤ l.ecc)
      ∧ (∃ j k : Fin 16, l.ecc = l.avg[j] - l.avg[k])
      ∧ l.eccValid = true
      ∧ l.ringAlert = (if g.ringAlert ≤ l.ecc then true
          else if l.ecc < g.ringClear then false else s.load.ringAlert) := by
  obtain ⟨j, k, hspread, hmax, hmin⟩ := spread_eq s.load.averages
  rw [takePosition_complete h hforward hfull]
  refine ⟨s.load.averages_sector, fun x y => ?_, ⟨j, k, hspread⟩, rfl, ringAlertAfter_revolved _⟩
  calc s.load.averages[x] - s.load.averages[y]
    _ ≤ s.load.averages[j] - s.load.averages[k] := tsub_le_tsub (hmax x) (hmin y)
    _ = spread s.load.averages := hspread.symm

end

/-! ### The two events (R89, R94) -/

theorem exec_position (seq : Seq) (a : Word) (s : State) : exec (.position seq a) s =
    .next ((activeVib s).elim (acceptFrame .H 7 seq s) fun g => takePosition g a (acceptFrame .H 7 seq s)) := by
  have htable : activeVib (acceptFrame .H 7 seq s) = activeVib s := by simp [activeVib]
  change execPosition seq a s = _
  rw [execPosition, htable]
  cases activeVib s <;> rfl

theorem exec_positionTimerExpiry {s : State} {n : Nat} (h : s.load.posTimer = .running n) :
    exec .positionTimerExpiry s = .next (losePosition s) := by
  change execPositionTimerExpiry s = _
  simp only [execPositionTimerExpiry, h]

/-- The position lost (R94). -/
theorem losePosition_load (s : State) : (losePosition s).load =
    { s.load.clearSums with refPresent := false, posTimer := .stopped, eccValid := false, ringAlert := false } := by
  rw [losePosition, setRingAlert_load]

theorem losePosition_shellStep (s : State) : ShellStep .timeout s (losePosition s) := by
  rw [losePosition]
  exact .judged (by rfl) false

/-- Settles O60: POSITION by the kind of the arrival, then the expiry of its timer. -/
theorem positionFollowsTheShell : Obligations.PositionFollowsTheShell := by
  refine ⟨fun seq a s => ⟨_, exec_position seq a s, ?_⟩, fun s n hn => ⟨_, exec_positionTimerExpiry hn, ?_⟩⟩
  · have hload : (acceptFrame .H 7 seq s).load = s.load := by simp
    rw [← hload]
    generalize acceptFrame .H 7 seq s = u
    cases activeVib s with
    | none =>
      obtain ⟨hframe, hlog⟩ := ShellStep.refl .revolution u
      exact ⟨hframe, hlog, fun _ => rfl, nofun⟩
    | some g =>
      obtain ⟨hframe, hlog⟩ := takePosition_shellStep g a u
      obtain ⟨hangle, href, htimer⟩ := takePosition_located g a u
      refine ⟨hframe, hlog, nofun, fun v hv => ?_⟩
      obtain rfl := Option.some.inj hv
      refine ⟨hangle, href, htimer, fun hfirst => ?_, fun hpresent => ?_⟩
      · exact congrArg State.load (takePosition_kept (.inl hfirst))
      · dsimp only
        rw [← angleStep_eq_forward, ← angleStep_eq_reverse]
        refine ⟨fun hnf hnr => ?_, fun hwrap => ?_, fun hdrop => ?_, fun hforward hfull => ?_⟩
        · exact takePosition_step_load hpresent (angleStep_eq_step hnf hnr)
        · exact takePosition_sums hpresent (by obtain h | h := hwrap <;> simp [h])
        · exact takePosition_cleared_averages hpresent (by simpa [LoadProfile.complete_iff] using hdrop)
        · exact takePosition_complete_load hpresent hforward ((LoadProfile.complete_iff _).mpr hfull)
  · obtain ⟨hframe, hlog⟩ := losePosition_shellStep s
    have hload := losePosition_load s
    rw [hload] at hlog
    exact ⟨hload, hlog, hframe⟩

end Sys2Proof.Machine

/-! What the store's operations leave of the offer and of the program in flight, for the recorder's law (O9) and for the
offer of a frozen record (O41). -/

namespace Sys2Proof.Machine

/-! ### The store's own operations (R129, R139 to R141) -/

/-- A number mark touches the memory and the index of its bank alone (R139). -/
theorem TripStore.markForRetry_frame (t : TripStore) (n : DWord) :
    ∃ nv banks, t.markForRetry n = { t with nv := nv, banks := banks } := by
  unfold TripStore.markForRetry
  split <;> exact ⟨_, _, rfl⟩

/-- A new record that is missed marks its number as a retry does, and consumes it where it is marked (R139). -/
theorem TripStore.consumeForMiss_eq {t : TripStore} (h : t.nextNumber ≠ 0) :
    t.consumeForMiss = { t.markForRetry t.nextNumber with
      nextNumber := if t.markHolder.isSome then t.nextNumber + 1 else t.nextNumber } := by
  unfold TripStore.consumeForMiss TripStore.markForRetry
  rw [if_neg h]
  cases t.markHolder <;> rfl

theorem TripStore.consumeForMiss_exhausted {t : TripStore} (h : t.nextNumber = 0) : t.consumeForMiss = t := by
  simp [TripStore.consumeForMiss, h]

/-- A store that works on as before: the same offer, the same program, and PROGRAMMING where it was. -/
structure SameWork (t u : TripStore) : Prop where
  offer : u.offer = t.offer
  program : u.program = t.program
  programming : u.activity = .programming ↔ t.activity = .programming

namespace SameWork

variable {t u v : TripStore}

theorem refl (t : TripStore) : SameWork t t := ⟨rfl, rfl, .rfl⟩

theorem of_eq (offer : u.offer = t.offer := by rfl) (program : u.program = t.program := by rfl)
    (activity : u.activity = t.activity := by rfl) : SameWork t u :=
  ⟨offer, program, by rw [activity]⟩

theorem trans (h : SameWork t u) (k : SameWork u v) : SameWork t v :=
  ⟨k.offer.trans h.offer, k.program.trans h.program, k.programming.trans h.programming⟩

end SameWork

theorem sameWork_join (t : TripStore) (b : Fin 4) : SameWork t (t.join b) := by
  unfold TripStore.join
  split <;> exact .of_eq

/-- A bank is taken up for its erase only where no program runs (R140). -/
theorem TripStore.takeHead_leaves (t : TripStore) (b : Fin 4) (rest : List (Fin 4)) :
    (t.takeHead b rest).offer = t.offer ∧ (t.takeHead b rest).program = t.program
      ∧ (t.takeHead b rest).activity ≠ .programming := by
  unfold TripStore.takeHead
  (repeat' split) <;> exact ⟨rfl, rfl, nofun⟩

/-- The choice of the next work begins and ends no program (R140). -/
theorem sameWork_chooseWork (t : TripStore) : SameWork t t.chooseWork := by
  unfold TripStore.chooseWork
  split
  · next hidle =>
    split
    · exact ⟨rfl, rfl, by simp [TripStore.resume, hidle]⟩
    · split
      · next b rest _ =>
        obtain ⟨hoffer, hprogram, hactivity⟩ := t.takeHead_leaves b rest
        exact ⟨hoffer, hprogram, by simp [hactivity, hidle]⟩
      · exact ⟨rfl, rfl, by simp [TripStore.goIdle, hidle]⟩
  all_goals exact .refl t

theorem queueOverwrite_store (b : Fin 4) (s : State) :
    (queueOverwrite b s).store = { s.store.join b with
      overwritten := riseBy s.store.overwritten s.store.banks[b].validCount } := by
  simp [queueOverwrite]

theorem sameWork_queueOverwrite (b : Fin 4) (s : State) : SameWork s.store (queueOverwrite b s).store := by
  rw [queueOverwrite_store]
  exact (sameWork_join s.store b).trans .of_eq

/-- Pre-erase may queue a bank (R141). -/
theorem sameWork_preErase (s : State) : SameWork s.store (preErase s).store := by
  unfold preErase
  (repeat' split)
  · exact .refl _
  · exact .refl _
  · exact sameWork_queueOverwrite _ s
  · exact sameWork_queueOverwrite _ s
  · exact sameWork_join _ _
  · exact .refl _
  · exact .refl _

/-! ### An offer taken (R133 to R139) -/

/-- A retry goes where its selection ends (R136, R138, R139). -/
def placeRetry (n : DWord) (x : Selection) (s : State) : State :=
  match x with
  | .slot b k => acceptRetry n b k s
  | .wait => s
  | .queueErase b => { s with store := s.store.join b }
  | .queueOverwrite b => queueOverwrite b s
  | .miss => missRetry n s

theorem takeOffer_retry {s : State} {n : DWord} (h : s.store.offer = .retry n) :
    takeOffer s = placeRetry n (s.store.select (storeMode s)) s := by
  simp only [takeOffer, h]
  cases s.store.select (storeMode s) <;> rfl

theorem takeOffer_none {s : State} (h : s.store.offer = .none) : takeOffer s = s := by
  simp only [takeOffer, h]

theorem countMiss_store (n : DWord) (s : State) :
    (countMiss n s).store = { s.store with missed := riseBy s.store.missed 1, offer := .none } := by
  simp [countMiss]

/-- A miss ends the offer and leaves the store's work (R139). -/
theorem missNew_work (s : State) :
    (missNew s).store.offer = .none ∧ (missNew s).store.program = s.store.program
      ∧ (missNew s).store.activity = s.store.activity := by
  have hconsumed : s.store.consumeForMiss.program = s.store.program
      ∧ s.store.consumeForMiss.activity = s.store.activity := by
    by_cases h : s.store.nextNumber = 0
    · rw [TripStore.consumeForMiss_exhausted h]
      exact ⟨rfl, rfl⟩
    · obtain ⟨nv, banks, hm⟩ := s.store.markForRetry_frame s.store.nextNumber
      rw [TripStore.consumeForMiss_eq h, hm]
      exact ⟨rfl, rfl⟩
  have hstore : (missNew s).store = (countMiss s.store.missNumber { s with store := s.store.consumeForMiss }).store :=
    rfl
  rw [hstore, countMiss_store]
  exact ⟨rfl, hconsumed⟩

theorem missRetry_work (n : DWord) (s : State) :
    (missRetry n s).store.offer = .none ∧ (missRetry n s).store.program = s.store.program
      ∧ (missRetry n s).store.activity = s.store.activity := by
  obtain ⟨nv, banks, hm⟩ := s.store.markForRetry_frame n
  have hstore : (missRetry n s).store = (countMiss n { s with store := s.store.markForRetry n }).store := rfl
  rw [hstore, countMiss_store, hm]
  exact ⟨rfl, rfl, rfl⟩

end Sys2Proof.Machine

/-! The recorder law (O9): the recorder's state, ring, timer and record agree with the latch and with the record's way
into the store.  A cause triggers an ARMED recorder, a pace arrival fills its ring and freezes it, the store's work
moves a record on, RESTART and TRIP_RESET start again; everything else leaves alone what the law reads. -/

namespace Sys2Proof.Machine

/-! ### States that agree for the law -/

/-- Latch, recorder and DRIVE table stand as they were, and the store works on as before. -/
structure SameRecorder (s t : State) : Prop where
  latch : t.trip.latch = s.trip.latch
  recorder : t.recorder = s.recorder
  work : SameWork s.store t.store
  drive : t.tab.drive = s.tab.drive

namespace SameRecorder

variable {s t u : State}

/-- The blocks in which the states agree; the frame lemmas give them. -/
theorem of_blocks (latch : t.trip.latch = s.trip.latch := by simp) (recorder : t.recorder = s.recorder := by simp)
    (store : t.store = s.store := by simp) (drive : t.tab.drive = s.tab.drive := by simp) : SameRecorder s t :=
  ⟨latch, recorder, by rw [store]; exact .refl _, drive⟩

/-- Work of the store that leaves the record where it is. -/
theorem of_work (work : SameWork s.store t.store) (latch : t.trip.latch = s.trip.latch := by simp)
    (recorder : t.recorder = s.recorder := by simp) (drive : t.tab.drive = s.tab.drive := by simp) :
    SameRecorder s t :=
  ⟨latch, recorder, work, drive⟩

/-- States that agree for the drive, and in recorder and store besides. -/
theorem of_drive (h : SameDrive s t) (blocks : t.recorder = s.recorder ∧ t.store = s.store) : SameRecorder s t :=
  of_blocks h.latch blocks.1 blocks.2 h.drive

theorem refl (s : State) : SameRecorder s s := of_blocks

theorem trans (h : SameRecorder s t) (k : SameRecorder t u) : SameRecorder s u :=
  ⟨k.latch.trans h.latch, k.recorder.trans h.recorder, h.work.trans k.work, k.drive.trans h.drive⟩

end SameRecorder

/-! ### The parts of the law -/

/-- The recorder's state says where its record is: with the recorder, offered, in flight or to be tried again, or
settled (R120, R128, R133, R136, R138). -/
structure HandoverLaw (d : RecorderState) (t : TripStore) : Prop where
  frozen : d = .frozen ↔ t.offer = .newRecord
  writing : d = .writing ↔ t.program.isSome = true ∨ t.offer.isRetry = true
  one : t.program.isSome = true → t.offer = .none
  flight : t.program.isSome = true ↔ t.activity = .programming

/-- PRE_COUNT of an active DRIVE table is in its range (R124). -/
def PreCountLaw (s : State) : Prop := ∀ d, activeDrive s = some d → 32 ≤ d.preCount ∧ d.preCount ≤ 224

theorem PreCountLaw.of_drive {s t : State} (h : PreCountLaw s) (k : t.tab.drive = s.tab.drive := by simp) :
    PreCountLaw t := by
  simpa only [PreCountLaw, activeDrive, k] using h

theorem RecorderLaw.handover {s : State} (h : RecorderLaw s) : HandoverLaw s.recorder.state s.store :=
  ⟨h.frozen, h.writing, h.one, h.flight⟩

theorem HandoverLaw.of_same {d : RecorderState} {t u : TripStore} (h : HandoverLaw d t) (k : SameWork t u) :
    HandoverLaw d u := by
  obtain ⟨hoffer, hprogram, hactivity⟩ := k
  constructor
  · rw [hoffer]; exact h.frozen
  · rw [hoffer, hprogram]; exact h.writing
  · rw [hoffer, hprogram]; exact h.one
  · rw [hprogram, hactivity]; exact h.flight

/-- The law reads latch, recorder, the store's work and the DRIVE table. -/
theorem RecorderLaw.of_parts {s t : State} (h : RecorderLaw s) (hl : t.trip.latch = s.trip.latch)
    (hr : t.recorder = s.recorder) (hw : SameWork s.store t.store) (hp : PreCountLaw t) : RecorderLaw t := by
  obtain ⟨hfrozen, hwriting, hone, hflight⟩ := h.handover.of_same hw
  rw [← hr] at hfrozen hwriting
  refine ⟨?_, ?_, ?_, ?_, ?_, hfrozen, hwriting, hone, hflight, hp⟩
  · rw [hl, hr]; exact h.latched
  · rw [hr]; exact h.limit
  · rw [hr]; exact h.ram
  · rw [hr]; exact h.size
  · rw [hr]; exact h.post

theorem RecorderLaw.of_same {s t : State} (h : RecorderLaw s) (k : SameRecorder s t) : RecorderLaw t :=
  h.of_parts k.latch k.recorder k.work (PreCountLaw.of_drive (s := s) h.preCount k.drive)

/-- The law of a recorder that holds a record (R119 to R122). -/
theorem recorderLaw_of_held {s : State} (hd : s.recorder.state.holdsRecord = true) (hl : s.trip.latch = true)
    (htimer : s.recorder.postTimer = .stopped) (hram : s.recorder.ramRecord.isSome = true)
    (hsize : s.recorder.ring.length ≤ historySize) (hh : HandoverLaw s.recorder.state s.store)
    (hp : PreCountLaw s) : RecorderLaw s := by
  have hopen : s.recorder.state ≠ .armed ∧ s.recorder.state ≠ .post := by
    constructor <;> intro h <;> rw [h] at hd <;> exact absurd hd (by decide)
  refine ⟨by simp [hl, hopen], by simp [htimer, Timer.runs, hopen], by rw [hram, hd], hsize,
    fun h => absurd h hopen.2, hh.frozen, hh.writing, hh.one, hh.flight, hp⟩

/-- The law of a recorder between a reset and the next trip (R113, R125). -/
theorem recorderLaw_of_armed {s : State} (hd : s.recorder.state = .armed) (hl : s.trip.latch = false)
    (htimer : s.recorder.postTimer = .stopped) (hram : s.recorder.ramRecord = none)
    (hsize : s.recorder.ring.length ≤ historySize) (hh : HandoverLaw .armed s.store) (hp : PreCountLaw s) :
    RecorderLaw s := by
  refine ⟨by simp [hl, hd], by simp [htimer, Timer.runs, hd], by simp [hram, hd, RecorderState.holdsRecord], hsize,
    fun h => absurd (hd.symm.trans h) nofun, ?_, ?_, hh.one, hh.flight, hp⟩
  · rw [hd]; exact hh.frozen
  · rw [hd]; exact hh.writing

/-- A recorder that holds a record has its latch set and its timer stopped. -/
theorem RecorderLaw.held {s : State} (h : RecorderLaw s) (hd : s.recorder.state.holdsRecord = true) :
    s.trip.latch = true ∧ s.recorder.postTimer = .stopped ∧ s.recorder.ramRecord.isSome = true := by
  have hopen : s.recorder.state ≠ .armed ∧ s.recorder.state ≠ .post := by
    constructor <;> intro h <;> rw [h] at hd <;> exact absurd hd (by decide)
  exact ⟨h.latched.mpr hopen.1, by simpa [Timer.runs, hopen.2] using h.limit, h.ram.trans hd⟩

/-- A record moves on: only the recorder's state and the number in the record change (R120, R121). -/
theorem RecorderLaw.moveOn {s t : State} (h : RecorderLaw s) (hs : s.recorder.state.holdsRecord = true)
    {d : RecorderState} {ram : Option TripRecord} (hd : d.holdsRecord = true)
    (hr : t.recorder = { s.recorder with state := d, ramRecord := ram })
    (hram : ram.isSome = s.recorder.ramRecord.isSome) (hh : HandoverLaw d t.store)
    (hl : t.trip.latch = s.trip.latch := by simp) (hdrive : t.tab.drive = s.tab.drive := by simp) :
    RecorderLaw t := by
  obtain ⟨hlatch, htimer, hsome⟩ := h.held hs
  have hp : PreCountLaw t := PreCountLaw.of_drive (s := s) h.preCount hdrive
  refine recorderLaw_of_held ?_ (hl.trans hlatch) ?_ ?_ ?_ ?_ hp <;> rw [hr]
  · exact hd
  · exact htimer
  · exact hram.trans hsome
  · exact h.size
  · exact hh

/-! ### The store's work (R120, R121, R133 to R142) -/

/-- A program begun: the record is in flight (R136). -/
theorem handoverLaw_begun {t : TripStore} {p : Program} (ho : t.offer = .none) (hp : t.program = some p)
    (ha : t.activity = .programming) : HandoverLaw .writing t := by
  constructor <;> simp [ho, hp, ha]

/-- A store without an offer and without a program: no record is on its way (R128, R133). -/
theorem handoverLaw_idle {d : RecorderState} {t : TripStore} (hf : d ≠ .frozen) (hw : d ≠ .writing)
    (ho : t.offer = .none) (hp : t.program = none) (ha : t.activity ≠ .programming) : HandoverLaw d t := by
  constructor <;> simp [hf, hw, ho, hp, ha, Offer.isRetry]

/-- Without a program the store is not PROGRAMMING (R128). -/
theorem RecorderLaw.no_program {s : State} (h : RecorderLaw s) (hnone : ¬s.store.program.isSome = true) :
    s.store.program = none ∧ s.store.activity ≠ .programming :=
  ⟨by simpa using hnone, fun ha => hnone (h.flight.mpr ha)⟩

/-- An offer stands only where no program is in flight (R133). -/
theorem RecorderLaw.offered {s : State} (h : RecorderLaw s) (ho : s.store.offer ≠ .none) :
    s.store.program = none ∧ s.store.activity ≠ .programming :=
  h.no_program fun hp => ho (h.one hp)

theorem RecorderLaw.placeNew {s : State} (h : RecorderLaw s) (ho : s.store.offer = .newRecord) (x : Selection) :
    RecorderLaw (placeNew x s) := by
  have hfrozen : s.recorder.state = .frozen := h.frozen.mpr ho
  have hheld : s.recorder.state.holdsRecord = true := by rw [hfrozen]; rfl
  obtain ⟨hprogram, hactivity⟩ := h.offered (by simp [ho])
  have hrec := placeNew_recorder x s
  cases x with
  | slot b k =>
    exact h.moveOn hheld (d := .writing) rfl hrec (by simp) (handoverLaw_begun rfl rfl rfl)
      (by simp [Machine.placeNew]) (by simp [Machine.placeNew])
  | wait => exact h
  | queueErase b => exact h.of_same (.of_work (sameWork_join _ _) rfl rfl rfl)
  | queueOverwrite b => exact h.of_same (.of_work (sameWork_queueOverwrite b s) (by simp [Machine.placeNew]) hrec
      (by simp [Machine.placeNew]))
  | miss =>
    obtain ⟨hoffer, hkept, hstill⟩ := missNew_work s
    exact h.moveOn hheld (d := .done) rfl hrec (by simp)
      (handoverLaw_idle nofun nofun hoffer (hkept.trans hprogram) (hstill.trans_ne hactivity))
      (by simp [Machine.placeNew]) (by simp [Machine.placeNew])

theorem RecorderLaw.placeRetry {s : State} (h : RecorderLaw s) {n : DWord} (ho : s.store.offer = .retry n)
    (x : Selection) : RecorderLaw (placeRetry n x s) := by
  have hwriting : s.recorder.state = .writing := h.writing.mpr (.inr (by rw [ho]; rfl))
  have hheld : s.recorder.state.holdsRecord = true := by rw [hwriting]; rfl
  obtain ⟨hprogram, hactivity⟩ := h.offered (by simp [ho])
  cases x with
  | slot b k =>
    exact h.moveOn hheld (d := .writing) rfl (by simp [Machine.placeRetry, ← hwriting]) rfl
      (handoverLaw_begun rfl rfl rfl) (by simp [Machine.placeRetry]) (by simp [Machine.placeRetry])
  | wait => exact h
  | queueErase b => exact h.of_same (.of_work (sameWork_join _ _) rfl rfl rfl)
  | queueOverwrite b => exact h.of_same (.of_work (sameWork_queueOverwrite b s) (by simp [Machine.placeRetry])
      (by simp [Machine.placeRetry]) (by simp [Machine.placeRetry]))
  | miss =>
    obtain ⟨hoffer, hkept, hstill⟩ := missRetry_work n s
    exact h.moveOn hheld (d := .done) rfl (by simp [Machine.placeRetry, missRetry, recorderDone]) rfl
      (handoverLaw_idle nofun nofun hoffer (hkept.trans hprogram) (hstill.trans_ne hactivity))
      (by simp [Machine.placeRetry]) (by simp [Machine.placeRetry])

/-- An offer taken moves the record on, or leaves it waiting (R133 to R139). -/
theorem RecorderLaw.takeOffer {s : State} (h : RecorderLaw s) : RecorderLaw (takeOffer s) := by
  cases ho : s.store.offer with
  | none => rwa [takeOffer_none ho]
  | newRecord => rw [takeOffer_new ho]; exact h.placeNew ho _
  | retry n => rw [takeOffer_retry ho]; exact h.placeRetry ho _

theorem RecorderLaw.chooseWork {s : State} (h : RecorderLaw s) : RecorderLaw (chooseWork s) :=
  h.of_same (.of_work (sameWork_chooseWork s.store))

/-- Work that was no program has ended (R131, R142, R147). -/
theorem sameRecorder_endWork {s : State} (ha : s.store.activity ≠ .programming) :
    SameRecorder s { s with store := s.store.endWork } :=
  .of_work ⟨rfl, rfl, by simp [TripStore.endWork, ha]⟩ rfl rfl rfl

theorem RecorderLaw.endScan {s : State} (h : RecorderLaw s) (ha : s.store.activity = .scanning) :
    RecorderLaw (endScan s) := by
  have hscanned : SameRecorder s { s with store := s.store.scanned } := .of_work .of_eq rfl rfl rfl
  refine RecorderLaw.chooseWork (RecorderLaw.takeOffer ?_)
  refine h.of_same (hscanned.trans (.trans (t := raiseStore .none .scanDone _ _ _) .of_blocks
    (sameRecorder_endWork ?_)))
  simp [TripStore.scanned, ha]

theorem RecorderLaw.endErase {s : State} (h : RecorderLaw s) (ha : s.store.activity = .erasing) (verified : Bool)
    (b : Fin 4) : RecorderLaw (endErase verified b s) := by
  have hended := h.of_same (sameRecorder_endWork (s := s) (by simp [ha]))
  refine RecorderLaw.chooseWork (RecorderLaw.takeOffer ?_)
  split
  · exact hended.of_same (.of_work (by simpa [eraseVerified] using .of_eq))
  · exact hended.of_same (.of_work (by simpa [eraseFailed] using .of_eq))

theorem RecorderLaw.endBlankCheck {s : State} (h : RecorderLaw s) (ha : s.store.activity = .blankChecking)
    (b : Fin 4) : RecorderLaw (endBlankCheck b s) := by
  have hended := h.of_same (sameRecorder_endWork (s := s) (by simp [ha]))
  have hmark (x : Option (Fin 8 × Nat)) (t : TripStore) : SameWork t (markFound b x t) := by
    unfold markFound
    (repeat' split) <;> exact .of_eq
  refine RecorderLaw.chooseWork (RecorderLaw.takeOffer ?_)
  refine hended.of_same (.trans (t := raiseStore (.bank b) .blankCheck _ _ _) .of_blocks
    (.of_work (hmark _ _) rfl rfl rfl))

/-- A program ends with its record written, missed, or offered again with its number (R137, R138). -/
theorem RecorderLaw.endProgram {s : State} (h : RecorderLaw s) {p : Program} (hp : s.store.program = some p)
    (took : Bool) : RecorderLaw (endProgram took p s) := by
  have hwriting : s.recorder.state = .writing := h.writing.mpr (.inl (by simp [hp]))
  have hheld : s.recorder.state.holdsRecord = true := by rw [hwriting]; rfl
  have hoffer : s.store.offer = .none := h.one (by simp [hp])
  have hsettled (t : State) (hr : t.recorder = { s.recorder with state := .done }) (ho : t.store.offer = .none)
      (hq : t.store.program = none) (ha : t.store.activity = .idle) (hl : t.trip.latch = s.trip.latch)
      (hd : t.tab.drive = s.tab.drive) : RecorderLaw t :=
    h.moveOn hheld (d := .done) rfl hr rfl (handoverLaw_idle nofun nofun ho hq (by simp [ha])) hl hd
  refine RecorderLaw.chooseWork (RecorderLaw.of_same ?_ (.of_work (sameWork_preErase _)))
  dsimp only
  split
  · exact hsettled _ (by simp [programVerified, recorderDone]) (by simp [programVerified, TripStore.endWork, hoffer])
      (by simp [programVerified]) (by simp [programVerified, TripStore.endWork]) (by simp) (by simp)
  · unfold afterFailure
    split
    · exact hsettled _ (by simp [recorderDone]) (by simp [programFailed, TripStore.endWork, hoffer])
        (by simp [programFailed]) (by simp [programFailed, TripStore.endWork]) (by simp) (by simp)
    · refine RecorderLaw.takeOffer ?_
      refine h.moveOn hheld (d := .writing) rfl (by simp [← hwriting]) rfl ?_
      constructor <;> simp [programFailed, TripStore.endWork, Offer.isRetry]

/-! ### Causes (R102, R103, R116) -/

theorem RecorderLaw.armed_of_clear {s : State} (h : RecorderLaw s) (hl : s.trip.latch = false) :
    s.recorder.state = .armed := by
  by_contra hd
  rw [h.latched.mpr hd] at hl
  exact absurd hl (by decide)

/-- PRE_COUNT leaves room for a post part, with a DRIVE table and without one (R116, R124). -/
theorem preCountAt_le {s : State} (h : PreCountLaw s) : preCountAt s ≤ 224 := by
  unfold preCountAt
  cases hd : activeDrive s with
  | none => decide
  | some d => exact (h d hd).2

/-- A first cause triggers the ARMED recorder (R116). -/
theorem RecorderLaw.latchTrip {s : State} (h : RecorderLaw s) (hl : s.trip.latch = false) (d : Delivery) (c : CauseId)
    (v : DWord) : RecorderLaw (latchTrip d c v s) := by
  have harmed := h.armed_of_clear hl
  have hpre := preCountAt_le h.preCount
  have hring := length_newest (preCountAt s) s.recorder.ring
  have hrec := latchTrip_recorder d c v s
  rw [if_pos harmed] at hrec
  have hram : s.recorder.ramRecord = none := by
    simpa [harmed, RecorderState.holdsRecord] using h.ram
  have hstore : (Machine.latchTrip d c v s).store = s.store := by simp
  obtain ⟨hfrozen, hwriting, hone, hflight⟩ := h.handover
  refine ⟨?_, ?_, ?_, ?_, fun _ => ?_, ?_, ?_, ?_, ?_, PreCountLaw.of_drive (s := s) h.preCount⟩
  · simp [latchTrip_trip, hrec]
  · simp [hrec, Timer.runs]
  · simp [hrec, hram, RecorderState.holdsRecord]
  · rw [hrec]
    show (newest (preCountAt s) s.recorder.ring).length ≤ historySize
    simp only [historySize]
    omega
  · rw [hrec]
    refine ⟨by simp, ?_, ?_⟩
    · show 0 < 256 - preCountAt s
      omega
    · show (newest (preCountAt s) s.recorder.ring).length + (256 - preCountAt s) ≤ historySize
      simp only [historySize]
      omega
  · rw [hrec, hstore]
    simpa [harmed] using hfrozen
  · rw [hrec, hstore]
    simpa [harmed] using hwriting
  · rw [hstore]
    exact hone
  · rw [hstore]
    exact hflight

theorem sameRecorder_appendCause {s : State} (hl : s.trip.latch = true) (c : CauseId) (v : DWord) :
    SameRecorder s (appendCause c v s) :=
  .of_blocks (by rw [appendCause_latch hl, hl])

/-- A cause delivered triggers an ARMED recorder, and reaches no other (R102, R103). -/
theorem RecorderLaw.deliverCause {s : State} (h : RecorderLaw s) (d : Delivery) (c : CauseId) (v : DWord) :
    RecorderLaw (deliverCause d c v s) := by
  cases hl : s.trip.latch with
  | true =>
    rw [deliverCause_latched hl]
    exact h.of_same (sameRecorder_appendCause hl c v)
  | false =>
    rw [deliverCause_clear hl]
    exact h.latchTrip hl d c v

/-! ### The snapshot and the freeze (R114 to R120) -/

theorem length_appendSnapshot (x : Snapshot) (l : List Snapshot) :
    (appendSnapshot x l).length = min l.length 255 + 1 := by
  simp [appendSnapshot, length_newest, historySize]

/-- The record of a recorder in POST is frozen and offered, whatever the last snapshot brought (R119, R120). -/
theorem RecorderLaw.frozenAt {s t : State} (h : RecorderLaw s) (hs : s.recorder.state = .post) (hl : t.trip = s.trip)
    (hstore : t.store = s.store) (htab : t.tab = s.tab) (hsize : t.recorder.ring.length ≤ historySize)
    (reason : PostReason) : RecorderLaw (frozenAt reason t) := by
  obtain ⟨hopen, hactivity⟩ := h.no_program fun hp => absurd (hs.symm.trans (h.writing.mpr (.inl hp))) nofun
  have hlatch : s.trip.latch = true := h.latched.mpr (by simp [hs])
  refine recorderLaw_of_held rfl ?_ rfl rfl hsize ?_ (PreCountLaw.of_drive (s := s) h.preCount ?_)
  · rw [Machine.frozenAt, hl]
    exact hlatch
  · constructor <;> simp [Machine.frozenAt, hstore, hopen, hactivity, Offer.isRetry]
  · rw [Machine.frozenAt, htab]

/-- A frozen record is offered, and taken at once by an idle or erasing store (R120, R133). -/
theorem RecorderLaw.freeze {s t : State} (h : RecorderLaw s) (hs : s.recorder.state = .post) (hl : t.trip = s.trip)
    (hstore : t.store = s.store) (htab : t.tab = s.tab) (hsize : t.recorder.ring.length ≤ historySize)
    (reason : PostReason) : RecorderLaw (freeze reason t) := by
  have hfrozen := h.frozenAt hs hl hstore htab hsize reason
  by_cases ha : t.store.activity = .idle ∨ t.store.activity = .erasing
  · rw [freeze_taken ha]
    exact hfrozen.takeOffer.chooseWork
  · rw [not_or] at ha
    rwa [freeze_waits ha.1 ha.2]

/-- A snapshot changes the ring and the post count alone, in ARMED and short of the target in POST (R115, R117). -/
theorem RecorderLaw.appended {s t : State} (h : RecorderLaw s)
    (hr : t.recorder = { s.recorder with ring := t.recorder.ring, postCount := t.recorder.postCount })
    (hsize : t.recorder.ring.length ≤ historySize)
    (hpost : s.recorder.state = .post → t.recorder.ring.length = s.recorder.preCount + t.recorder.postCount
      ∧ t.recorder.postCount < s.recorder.postTarget)
    (hl : t.trip = s.trip) (hstore : t.store = s.store) (htab : t.tab = s.tab) : RecorderLaw t := by
  have hstate : t.recorder.state = s.recorder.state := by rw [hr]
  have htimer : t.recorder.postTimer = s.recorder.postTimer := by rw [hr]
  have hram : t.recorder.ramRecord = s.recorder.ramRecord := by rw [hr]
  have hpre : t.recorder.preCount = s.recorder.preCount := by rw [hr]
  have htarget : t.recorder.postTarget = s.recorder.postTarget := by rw [hr]
  refine ⟨?_, ?_, ?_, hsize, fun hp => ?_, ?_, ?_, ?_, ?_, PreCountLaw.of_drive (s := s) h.preCount (by rw [htab])⟩
  · rw [hl, hstate]; exact h.latched
  · rw [htimer, hstate]; exact h.limit
  · rw [hram, hstate]; exact h.ram
  · rw [hstate] at hp
    rw [hpre, htarget]
    exact ⟨(hpost hp).1, (hpost hp).2, (h.post hp).2.2⟩
  · rw [hstate, hstore]; exact h.frozen
  · rw [hstate, hstore]; exact h.writing
  · rw [hstore]; exact h.one
  · rw [hstore]; exact h.flight

theorem RecorderLaw.takeSnapshot {s : State} (h : RecorderLaw s) : RecorderLaw (takeSnapshot s) := by
  have hring := length_appendSnapshot (snapshot s) s.recorder.ring
  have hsize : (appendSnapshot (snapshot s) s.recorder.ring).length ≤ historySize := by
    simp only [historySize]
    omega
  cases hs : s.recorder.state with
  | armed =>
    rw [takeSnapshot_armed hs]
    exact h.appended rfl hsize (fun hp => absurd (hs.symm.trans hp) nofun) rfl rfl rfl
  | post =>
    obtain ⟨hstore, htab, -, htrip⟩ := postAppended_frame s
    have hrec : (postAppended s).recorder = { s.recorder with
        ring := appendSnapshot (snapshot s) s.recorder.ring, postCount := s.recorder.postCount + 1 } := by
      rw [postAppended]
    rw [takeSnapshot_post hs]
    split
    · exact h.freeze hs htrip hstore htab (by rw [hrec]; exact hsize) .target
    · obtain ⟨hlength, hcount, htarget⟩ := h.post hs
      simp only [historySize] at htarget
      refine h.appended (by rw [hrec]) (by rw [hrec]; exact hsize) (fun _ => ?_) htrip hstore htab
      simp only [hrec]
      omega
  | frozen => rwa [takeSnapshot_closed (.inl hs)]
  | writing => rwa [takeSnapshot_closed (.inr (.inl hs))]
  | done => rwa [takeSnapshot_closed (.inr (.inr hs))]

/-! ### A feedback arrival (R51 to R58, R114) -/

theorem RecorderLaw.judgeOvertemp {s : State} (h : RecorderLaw s) (m : Motor) : RecorderLaw (judgeOvertemp m s) := by
  have hset (on : Bool) : RecorderLaw (setOvertemp m on s) := h.of_same (.of_blocks (by simp [setOvertemp]))
  by_cases hh : inDriveSet s m = true ∧ (driveFieldsOf s).thermEnd ≤ (s.reg m).temp
  · rw [judgeOvertemp_hot hh.1 hh.2]
    exact (hset true).deliverCause _ _ _
  · obtain he | he := judgeOvertemp_cool hh <;> rw [he]
    · exact h
    · exact hset false

theorem RecorderLaw.judgeModFault {s : State} (h : RecorderLaw s) (m : Motor) : RecorderLaw (judgeModFault m s) := by
  have hset (on : Bool) : RecorderLaw (setModFault m on s) := h.of_same (.of_blocks (by simp [setModFault]))
  by_cases hf : inDriveSet s m = true ∧ (s.reg m).modState = .fault
  · rw [judgeModFault_fault hf.1 hf.2]
    exact (hset true).deliverCause _ _ _
  · obtain he | he := judgeModFault_sound hf <;> rw [he]
    · exact h
    · exact hset false

theorem RecorderLaw.arrivalTorque {s : State} (h : RecorderLaw s) (m : Motor) (f : FeedbackFrame) :
    RecorderLaw (arrivalTorque m f s) := by
  have htaken : RecorderLaw (arrivalTaken m f s) := h.of_same (.of_blocks (by simp [arrivalTaken, intake]))
  have hcauses : RecorderLaw (arrivalCauses m f s) := (htaken.judgeOvertemp m).judgeModFault m
  have hstart : RecorderLaw (arrivalStart m f s) :=
    hcauses.of_same (.of_blocks (t := runAtArrival m (arrivalCauses m f s)))
  unfold Machine.arrivalTorque
  split
  · obtain ⟨n, ht | ht⟩ := torqueAtArrival_cases m (arrivalStart m f s) <;> rw [ht]
    · exact hstart.of_same (.of_blocks rfl rfl rfl rfl)
    · exact (hstart.of_same (t := torqueFormed n _) (.of_blocks rfl rfl rfl rfl)).deliverCause _ _ _
  · exact hstart

/-- An arrival's causes trigger the recorder, and its snapshot enters the ring (R52). -/
theorem RecorderLaw.arrivalEnd {s : State} (h : RecorderLaw s) (m : Motor) (f : FeedbackFrame) :
    RecorderLaw (arrivalEnd m f s) := by
  have hanswer : RecorderLaw (answerFrame m (Machine.arrivalTorque m f s)) := (h.arrivalTorque m f).of_same .of_blocks
  have hpace (formed : Bool) (u : State) (hu : RecorderLaw u) : RecorderLaw (paceWork formed u) := by
    have hgathered : RecorderLaw (if formed then gatherTorque u else u) := by
      split
      · exact hu.of_same .of_blocks
      · exact hu
    exact hgathered.takeSnapshot.of_same (.of_blocks (t := reportAtArrival _))
  unfold Machine.arrivalEnd
  split
  · exact hpace _ _ hanswer
  · exact hanswer

/-! ### Commits (R124, R169 to R171) -/

/-- The values of a run of fields of two bytes or four, where enough bytes stand (spec 12.4). -/
theorem length_parseFields (fs : List Field) (bs : List Byte)
    (h : (fs.map fun f => if f.form = .u32 then 4 else 2).sum ≤ bs.length) :
    (parseFields fs bs).length = fs.length := by
  induction fs generalizing bs with
  | nil => rfl
  | cons f fs ih =>
    obtain ⟨form, rule⟩ := f
    cases form
    case u32 =>
      match bs, h with
      | [], h | [_], h | [_, _], h | [_, _, _], h => simp at h <;> omega
      | _ :: _ :: _ :: _ :: rest, h => simp [parseFields, ih rest (by simp at h; omega)]
    all_goals
      match bs, h with
      | [], h | [_], h => simp at h <;> omega
      | _ :: _ :: rest, h => simp [parseFields, ih rest (by simp at h; omega)]

/-- An accepted PRE_COUNT has been clamped to its range (R124, R170). -/
theorem validate_drive_preCount {image : List Byte} (hlen : image.length = 66) {len : Nat} {fields : List Int}
    {k : Nat} (h : validate .drive len image = .good fields k) :
    32 ≤ (DriveTable.ofFields fields).preCount ∧ (DriveTable.ofFields fields).preCount ≤ 224 := by
  have hforce (xs : List Int) : fieldAt (forceDrive xs) 24 = fieldAt xs 24 := by
    unfold forceDrive
    dsimp only
    (repeat' split) <;> simp [fieldAt, List.getD_eq_getElem?_getD]
  have hfields : fields = forceDrive (clampFields driveFields (parseFields driveFields (image.drop 6))) := by
    simp only [validate] at h
    split at h
    · exact absurd h (by simp)
    · exact (Validated.good.inj h).1.symm
  have hparsed : (parseFields driveFields (image.drop 6)).length = 29 :=
    length_parseFields driveFields _ (by rw [List.length_drop, hlen]; decide)
  have hvalue : fieldAt (clampFields driveFields (parseFields driveFields (image.drop 6))) 24
      = clamp 32 224 (fieldAt (parseFields driveFields (image.drop 6)) 24) := by
    generalize parseFields driveFields (image.drop 6) = xs at hparsed
    have hx : xs[24]? = some (fieldAt xs 24) := by simp [fieldAt, hparsed]
    have hf : driveFields[24]? = some (s16 32 224) := rfl
    have hz : (clampFields driveFields xs)[24]? = some (clamp 32 224 (fieldAt xs 24)) := by
      rw [clampFields, List.getElem?_zipWith, hf, hx]
      rfl
    rw [fieldAt, List.getD_eq_getElem?_getD, hz, Option.getD_some]
  have hclamp (x : Int) : 32 ≤ clamp 32 224 x ∧ clamp 32 224 x ≤ 224 := by
    unfold clamp
    (repeat' split) <;> omega
  have hrange := hclamp (fieldAt (parseFields driveFields (image.drop 6)) 24)
  show 32 ≤ (fieldAt fields 24).toNat ∧ (fieldAt fields 24).toNat ≤ 224
  rw [hfields, hforce, hvalue]
  omega

/-- A commit's owners leave latch, recorder and store alone; a new DRIVE table has its PRE_COUNT in range (R171). -/
theorem RecorderLaw.acceptCommit {s : State} (h : RecorderLaw s) {n : Bool} {b : Staging} {fields : List Int}
    (hpre : b.table = .drive →
      32 ≤ (DriveTable.ofFields fields).preCount ∧ (DriveTable.ofFields fields).preCount ≤ 224) (k : Nat) :
    RecorderLaw (acceptCommit n b fields k s) := by
  have hactive (ht : b.table = .drive) : ∃ d, activeDrive
      { s with tab := (s.tab.activate b.table b.version fields).setBuffer n none } = some d := by
    rw [ht]
    exact ⟨DriveTable.ofFields fields, by simp [activeDrive, TableManager.activate]⟩
  obtain ⟨hlatch, -⟩ := informOwners_kept hactive (eventTable s).alertMode
  refine h.of_parts ?_ (by simp) ?_ fun d hd => ?_
  · simpa [Machine.acceptCommit] using hlatch
  · rw [acceptCommit_frame n b fields k s |>.2.1]
    exact .refl _
  · have htab : activeDrive (Machine.acceptCommit n b fields k s)
        = (s.tab.activate b.table b.version fields).drive.map Active.table := by
      simp [Machine.acceptCommit, activeDrive]
    rw [htab] at hd
    cases ht : b.table with
    | drive =>
      rw [ht] at hd
      obtain rfl : DriveTable.ofFields fields = d := by simpa [TableManager.activate] using hd
      exact hpre ht
    | gain | limit | vib | event =>
      rw [ht] at hd
      exact h.preCount d hd

theorem Staging.length_image (b : Staging) : b.image.length = b.length := by
  simp [Staging.image]

/-- A buffer FILLING for the DRIVE table has the table's one length (R164, R165). -/
theorem TableLaw.drive_length {m : TableManager} (h : TableLaw m) {n : Bool} {b : Staging} (hb : m.buffer n = some b)
    (ht : b.table = .drive) : b.image.length = 66 := by
  have hl := (h.staging n b hb).length
  rw [ht] at hl
  rw [b.length_image]
  simpa [lengthOk] using hl

theorem fillingBuffer_some {s : State} {x : Byte} {n : Bool} {b : Staging} (h : fillingBuffer s x = some (n, b)) :
    s.tab.buffer n = some b := by
  unfold fillingBuffer at h
  split at h
  · obtain ⟨y, hy, he⟩ := Option.map_eq_some_iff.mp h
    obtain ⟨rfl, rfl⟩ := Prod.mk.inj he
    exact hy
  · exact absurd h nofun

theorem RecorderLaw.tableCommit {s : State} (h : RecorderLaw s) (ht : TableLaw s.tab) (args : List Byte) :
    RecorderLaw (tableCommit args s).state := by
  have hbuffer (n : Bool) (b : Staging) (hb : s.tab.buffer n = some b) : RecorderLaw (commitBuffer n b s).state := by
    unfold commitBuffer
    split
    · exact h
    · split
      · exact h
      · split
        · exact h
        · split
          · exact h
          · next hv =>
            exact h.acceptCommit (fun hd => validate_drive_preCount (ht.drive_length hb hd) (hd ▸ hv)) _
  unfold Machine.tableCommit
  split
  · split
    · next hfill => exact hbuffer _ _ (fillingBuffer_some hfill)
    · exact h
  · exact h

/-! ### Requests -/

/-- RESTART begins anew from any recorder but one whose record is on its way (R126, R187). -/
theorem RecorderLaw.restart {s : State} (h : RecorderLaw s) (args : List Byte) :
    RecorderLaw (restart args s).state := by
  simp only [Machine.restart, refuse]
  (repeat' split)
  · exact h
  · exact h
  · next hholds =>
    have hf : s.recorder.state ≠ .frozen := fun hd => hholds (by rw [hd]; rfl)
    have hw : s.recorder.state ≠ .writing := fun hd => hholds (by rw [hd]; rfl)
    have hcleared : RecorderLaw (restartCleared s) := by
      have hrec : (restartCleared s).recorder = Recorder.reset := by simp
      have hstore : (restartCleared s).store = s.store := by simp
      refine recorderLaw_of_armed (by rw [hrec]; rfl) (by simp [restartCleared_trip]) (by rw [hrec]; rfl)
        (by rw [hrec]; rfl) ?_ ?_ (PreCountLaw.of_drive (s := s) h.preCount)
      · rw [hrec]
        exact Nat.zero_le _
      · rw [hstore]
        exact ⟨iff_of_false nofun fun ho => hf (h.frozen.mpr ho), iff_of_false nofun fun ho => hw (h.writing.mpr ho),
          h.one, h.flight⟩
    exact hcleared.of_same (.of_blocks (t := evaluateReady (restartCleared s)))
  · exact h

/-- TRIP_RESET is accepted where the record is settled, and re-arms (R107, R123). -/
theorem RecorderLaw.tripReset {s : State} (h : RecorderLaw s) (args : List Byte) :
    RecorderLaw (tripReset args s).state := by
  simp only [Machine.tripReset, refuse]
  (repeat' split)
  · exact h
  · exact h
  · next hdone =>
    have hrec : (acceptTripReset s).recorder = _ := (show (acceptTripReset s).recorder = (tripCleared s).recorder by
      simp [acceptTripReset_eq]).trans (tripCleared_recorder s)
    have hstore : (acceptTripReset s).store = s.store := by simp
    obtain ⟨-, htimer, -⟩ := h.held (by rw [hdone]; rfl)
    refine recorderLaw_of_armed (by rw [hrec]) (by simp [acceptTripReset_eq, tripCleared_trip]) ?_ (by rw [hrec]) ?_ ?_
      (PreCountLaw.of_drive (s := s) h.preCount)
    · rw [hrec]
      exact htimer
    · rw [hrec]
      exact Nat.zero_le _
    · rw [hstore]
      have hf := h.frozen
      have hw := h.writing
      rw [hdone] at hf hw
      exact ⟨iff_of_false nofun fun ho => (nomatch hf.mpr ho), iff_of_false nofun fun ho => (nomatch hw.mpr ho),
        h.one, h.flight⟩
  · exact h
  · exact h

theorem sameRecorder_vibRestart (args : List Byte) (s : State) : SameRecorder s (vibRestart args s).state := by
  have hrestart (c : Fin 6) (into : ChannelState) (x : VibReason) : SameRecorder s (restartChannel c into x s) :=
    .of_blocks (sameDrive_restartChannel c into x s).latch
  have hdeliver (u : State) : SameRecorder u (deliverVibDerate u) := .of_blocks
  simp only [vibRestart, vibRestartChannel, refuse]
  (repeat' split)
  · exact (hrestart _ _ _).trans (hdeliver _)
  · exact .of_blocks
  · exact .refl s
  · exact .refl s

/-- A STORE_TRIM accepted queues a bank and chooses work (R145). -/
theorem sameRecorder_storeTrim (args : List Byte) (s : State) : SameRecorder s (storeTrim args s).state := by
  have htrim (b : Fin 4) : SameRecorder s (trimBank b s).state :=
    .of_work ((sameWork_join s.store b).trans (sameWork_chooseWork (s.store.join b))) rfl rfl rfl
  unfold storeTrim
  (repeat' split)
  · exact .refl s
  · exact htrim _
  all_goals exact .refl s

/-- A STORE_ERASE_ALL accepted queues banks and chooses work (R146). -/
theorem sameRecorder_storeEraseAll (args : List Byte) (s : State) : SameRecorder s (storeEraseAll args s).state := by
  simp only [storeEraseAll, eraseAllBanks, refuse]
  (repeat' split)
  case isFalse =>
    exact .of_work (SameWork.trans (u := { s.store with queue := _, eraseAll := true }) .of_eq (sameWork_chooseWork _))
      rfl rfl rfl
  all_goals exact .refl s

/-- A STORE_BLANK_CHECK is accepted by an idle store (R147). -/
theorem sameRecorder_storeBlankCheck (args : List Byte) (s : State) :
    SameRecorder s (storeBlankCheck args s).state := by
  have hcheck (b : Fin 4) : SameRecorder s (checkBank b s).state := by
    simp only [checkBank, refuse]
    (repeat' split)
    · exact .refl s
    · exact .refl s
    · next hidle => exact .of_work ⟨rfl, rfl, by simp [TripStore.beginCheck, hidle]⟩ rfl rfl rfl
    · exact .refl s
  unfold storeBlankCheck
  (repeat' split)
  · exact hcheck _
  · exact .refl s
  · exact .refl s

/-- STATUS_CLEAR clears flags that say nothing of the record (R186). -/
theorem sameRecorder_statusClear (args : List Byte) (s : State) : SameRecorder s (statusClear args s).state := by
  cases args with
  | nil => exact .of_work (t := clearFlags s) .of_eq rfl rfl rfl
  | cons _ _ => exact .refl s

/-- All requests but RESTART, TABLE_COMMIT, TRIP_RESET and VIB_RESTART leave the record where it is (R184). -/
theorem sameRecorder_requestOwner {code : Byte} (hr : code.toNat ≠ 3) (hc : code.toNat ≠ 6) (ht : code.toNat ≠ 11)
    (hv : code.toNat ≠ 19) (args : List Byte) (s : State) : SameRecorder s (requestOwner code args s).state := by
  show (fun f : State → Reply => SameRecorder s (f s).state) (Machine.requestOwner code args)
  unfold Machine.requestOwner
  split
  · cases args <;> exact .refl s
  · exact sameRecorder_statusClear args s
  · next h => exact absurd h hr
  · refine .of_drive (sameDrive_tableOpen args s) ?_
    simp only [tableOpen, openTable, refuse]
    (repeat' split) <;> simp
  · refine .of_drive (sameDrive_tableWrite args s) ?_
    simp only [tableWrite, writeTable, refuse]
    (repeat' split) <;> simp
  · next h => exact absurd h hc
  · refine .of_drive (sameDrive_tableAbort args s) ?_
    simp only [tableAbort, refuse]
    (repeat' split) <;> simp
  · refine .of_drive (sameDrive_tableRead args s) ?_
    simp only [tableRead, readTable, refuse]
    (repeat' split) <;> simp
  · refine .of_drive (sameDrive_lockSet args s) ?_
    simp only [lockSet, refuse]
    (repeat' split) <;> simp
  · refine .of_drive (sameDrive_lockClear args s) ?_
    simp only [lockClear, refuse]
    (repeat' split) <;> simp
  · next h => exact absurd h ht
  · refine .of_drive (sameDrive_tripRead args s) ?_
    simp only [tripRead, readRecord, refuse]
    (repeat' split) <;> simp
  · exact sameRecorder_storeTrim args s
  · exact sameRecorder_storeEraseAll args s
  · exact sameRecorder_storeBlankCheck args s
  · refine .of_drive (sameDrive_storeStatus args s) ?_
    simp only [storeStatus, refuse]
    (repeat' split) <;> simp
  · refine .of_drive (sameDrive_eventRead args s) ?_
    cases args <;> simp [eventRead, refuse]
  · refine .of_drive (sameDrive_eventMark args s) ?_
    simp only [eventMark, refuse]
    (repeat' split) <;> simp
  · next h => exact absurd h hv
  · exact .refl s

/-- Whatever request a code names, its owner keeps the law (R184). -/
theorem RecorderLaw.requestOwner {s : State} (h : RecorderLaw s) (ht : TableLaw s.tab) (code : Byte)
    (args : List Byte) : RecorderLaw (requestOwner code args s).state := by
  by_cases hr : code.toNat = 3
  · simpa only [Machine.requestOwner, hr] using h.restart args
  by_cases hc : code.toNat = 6
  · simpa only [Machine.requestOwner, hc] using h.tableCommit ht args
  by_cases hreset : code.toNat = 11
  · simpa only [Machine.requestOwner, hreset] using h.tripReset args
  by_cases hv : code.toNat = 19
  · simpa only [Machine.requestOwner, hv] using h.of_same (sameRecorder_vibRestart args s)
  · exact h.of_same (sameRecorder_requestOwner hr hc hreset hv args s)

/-- The request cycle accepts the frame, asks the owner, and places the answer in the link (R183). -/
theorem RecorderLaw.serve {s : State} (h : RecorderLaw s) (ht : TableLaw s.tab) (code : Byte) (r : Request) :
    RecorderLaw (serve code r (Machine.requestOwner code r.args) s) := by
  have ha : RecorderLaw (acceptFrame .S 0 r.seq s) := h.of_same .of_blocks
  have hta : TableLaw (acceptFrame .S 0 r.seq s).tab := by simpa using ht
  cases hslot : s.link.slot with
  | none =>
    rw [serve_answered _ _ _ _ hslot]
    exact (ha.requestOwner hta code r.args).of_same (.of_blocks rfl rfl rfl rfl)
  | some a =>
    rw [serve_overrun _ _ _ _ a hslot]
    exact ha.of_same (.of_blocks rfl rfl rfl rfl)

/-! ### Arrivals -/

/-- A setpoint's EXT_TRIP flag delivers a cause; all else of it leaves the record alone (R7, R29). -/
theorem RecorderLaw.execSetpoint {s t : State} (h : RecorderLaw s) {seq : Seq} {mode flags : Byte} {q : Word}
    {u : DWord} (he : execSetpoint seq mode flags q u s = .next t) : RecorderLaw t := by
  obtain rfl := Host.Outcome.next.inj he
  have hstored : RecorderLaw (storeSetpoint q u (acceptFrame .S 0 seq s)) :=
    h.of_same (.of_blocks (by simp [storeSetpoint]))
  have hacted : RecorderLaw (actExtTrip (extTripOf flags) (storeSetpoint q u (acceptFrame .S 0 seq s))) := by
    unfold actExtTrip
    dsimp only
    split
    · exact RecorderLaw.deliverCause (hstored.of_same (.of_blocks)) _ _ _
    · exact hstored.of_same .of_blocks
  have hhanded : RecorderLaw (handOver (extTripOf flags) (modeIsRun mode)
      (storeSetpoint q u (acceptFrame .S 0 seq s))) := by
    unfold handOver
    dsimp only
    split <;> exact hacted.of_same .of_blocks
  exact hhanded.of_same .of_blocks

theorem RecorderLaw.execFeedback {s t : State} (h : RecorderLaw s) {m : Motor} {f : FeedbackFrame}
    (he : execFeedback m f s = .next t) : RecorderLaw t := by
  obtain rfl := Host.Outcome.next.inj ((exec_feedback m f s).symm.trans he)
  exact h.arrivalEnd m f

/-- A window delivers a cause only where its channel enters DANGER (R75, R79). -/
theorem RecorderLaw.judgeWindow {s : State} (h : RecorderLaw s) (c : Fin 6) (cfg : ChannelConfig) :
    RecorderLaw (judgeWindow c cfg s) := by
  have hset (y : Channel) (t : State) : SameRecorder t (setChannel c y t) := .of_blocks
  have hchange (new : ChannelState) (level : Nat) (t : State) :
      SameRecorder t (deliverVibDerate (changeChannel c new .window level t)) :=
    .of_blocks (by simpa using (sameDrive_changeChannel c new .window level t).latch)
  rw [judgeWindow_eq]
  extract_lets x count new u changed
  have hu : RecorderLaw u := h.of_same (hset _ s)
  have hchanged : RecorderLaw changed := hu.of_same (hchange _ _ u)
  split
  · exact hu
  · split
    · exact RecorderLaw.deliverCause (hchanged.of_same (.of_blocks (sameDrive_setVibDanger c true _).latch)) _ _ _
    · exact hchanged

theorem RecorderLaw.execVibSample {s t : State} (h : RecorderLaw s) {c : Fin 6} {seq : Seq} {x : Vector Word 8}
    (he : execVibSample c seq x s = .next t) : RecorderLaw t := by
  have ha : RecorderLaw (acceptFrame .H (c.castLE (by decide)) seq s) := h.of_same .of_blocks
  have hset (y : Channel) {u : State} (hu : RecorderLaw u) : RecorderLaw (setChannel c y u) := hu.of_same .of_blocks
  by_cases hd : s.vib.channels[c].state = .off ∨ channelConfig s c = none
  · obtain rfl := Host.Outcome.next.inj ((execVibSample_discarded hd seq x).symm.trans he)
    exact ha
  · obtain ⟨hc, hn⟩ := not_or.mp hd
    obtain ⟨cfg, hg⟩ := Option.ne_none_iff_exists'.mp hn
    obtain rfl := Host.Outcome.next.inj ((execVibSample_taken hc hg seq x).symm.trans he)
    unfold takeFrame
    dsimp only
    (repeat' split)
    · exact hset _ ((hset _ ha).judgeWindow c cfg)
    · exact hset _ ha
    · exact hset _ ha

theorem sameRecorder_execPosition {seq : Seq} {a : Word} {s t : State} (he : execPosition seq a s = .next t) :
    SameRecorder s t := by
  unfold Machine.execPosition at he
  dsimp only at he
  split at he <;> obtain rfl := Host.Outcome.next.inj he <;> exact .of_blocks

/-- A refused frame is counted; one that passes the checks is taken as the arrival it is (R178). -/
theorem RecorderLaw.execRefusedFrame {s t : State} (h : RecorderLaw s) (ht : TableLaw s.tab) {p : Port}
    {bytes : List Byte} (he : execRefusedFrame p bytes s = .next t) : RecorderLaw t := by
  unfold Machine.execRefusedFrame at he
  split at he
  · obtain rfl := Host.Outcome.next.inj he
    exact h.of_same .of_blocks
  · next a _ _ =>
    cases a with
    | setpoint seq mode flags q u => exact h.execSetpoint he
    | request code r =>
      obtain rfl := Host.Outcome.next.inj he
      exact h.serve ht code r
    | feedback m f => exact h.execFeedback he
    | vibSample c seq x => exact h.execVibSample he
    | position seq a => exact h.of_same (sameRecorder_execPosition he)
  · obtain rfl := Host.Outcome.next.inj he
    exact h

/-! ### Timers and the ends of work -/

theorem RecorderLaw.execBrkTimeExpiry {s t : State} (h : RecorderLaw s) (he : execBrkTimeExpiry s = .next t) :
    RecorderLaw t := by
  unfold Machine.execBrkTimeExpiry at he
  split at he <;> obtain rfl := Host.Outcome.next.inj he
  · exact h
  · have hstopped : RecorderLaw { s with run := { s.run with brkTimer := .stopped } } := h.of_same .of_blocks
    dsimp only
    split
    · exact hstopped.of_same .of_blocks
    · exact RecorderLaw.deliverCause (hstopped.of_same .of_blocks) _ _ _

theorem sameRecorder_execBrkRestExpiry {s t : State} (he : execBrkRestExpiry s = .next t) : SameRecorder s t := by
  unfold Machine.execBrkRestExpiry at he
  split at he <;> obtain rfl := Host.Outcome.next.inj he
  · exact .refl s
  · exact .of_blocks

theorem sameRecorder_execStopTimeExpiry {s t : State} (he : execStopTimeExpiry s = .next t) : SameRecorder s t := by
  unfold Machine.execStopTimeExpiry at he
  split at he <;> obtain rfl := Host.Outcome.next.inj he
  · exact .refl s
  · exact .of_blocks

/-- The stall timer's end delivers STALL (R50). -/
theorem RecorderLaw.execStallTimerExpiry {s t : State} (h : RecorderLaw s) (he : execStallTimerExpiry s = .next t) :
    RecorderLaw t := by
  unfold Machine.execStallTimerExpiry at he
  split at he <;> obtain rfl := Host.Outcome.next.inj he
  · exact h
  · have hstopped : RecorderLaw { s with lim := { s.lim with stallTimer := .stopped } } := h.of_same .of_blocks
    exact hstopped.deliverCause _ _ _

/-- A missed setpoint delivers SUP_LOST at the limit (R44). -/
theorem RecorderLaw.execSetpointTimerExpiry {s t : State} (h : RecorderLaw s)
    (he : execSetpointTimerExpiry s = .next t) : RecorderLaw t := by
  unfold Machine.execSetpointTimerExpiry at he
  split at he <;> obtain rfl := Host.Outcome.next.inj he
  · exact h
  · have hmiss : RecorderLaw (countSetpointMiss s) := h.of_same .of_blocks
    have hset : RecorderLaw (setCondition ⟨.supLost, .none⟩ true
        { countSetpointMiss s with lim := { (countSetpointMiss s).lim with supLost := true } }) :=
      hmiss.of_same .of_blocks
    unfold checkSupLost
    split
    · exact hset.deliverCause _ _ _
    · exact hmiss

/-- A missed feedback delivers FB_LOST at the limit (R66). -/
theorem RecorderLaw.execFeedbackTimerExpiry {s t : State} (h : RecorderLaw s) {m : Motor}
    (he : execFeedbackTimerExpiry m s = .next t) : RecorderLaw t := by
  have hready {u : State} (hu : RecorderLaw u) : RecorderLaw (evaluateReady u) := hu.of_same .of_blocks
  have hmiss : RecorderLaw (countFeedbackMiss m s) := h.of_same .of_blocks
  have hset : RecorderLaw (setFbLost m true (countFeedbackMiss m s)) :=
    hmiss.of_same (.of_drive (sameDrive_setFbLost m true _) (by simp))
  have hlost : RecorderLaw (checkFbLost m (countFeedbackMiss m s)) := by
    unfold checkFbLost
    split
    · exact hset.deliverCause _ _ _
    · exact hmiss
  unfold Machine.execFeedbackTimerExpiry at he
  split at he <;> obtain rfl := Host.Outcome.next.inj he
  · exact h
  · split
    · exact hready hlost
    · exact hlost

/-- POST_LIMIT runs in POST alone; its expiry freezes the record (R118). -/
theorem RecorderLaw.execPostLimitExpiry {s t : State} (h : RecorderLaw s) (he : execPostLimitExpiry s = .next t) :
    RecorderLaw t := by
  unfold Machine.execPostLimitExpiry at he
  split at he <;> obtain rfl := Host.Outcome.next.inj he
  · exact h
  · next d hrun =>
    have hs : s.recorder.state = .post := h.limit.mp (by rw [hrun]; exact nofun)
    exact h.freeze hs rfl rfl rfl h.size .limit

/-- The ends of the store's work (R131, R137, R142, R147). -/
theorem RecorderLaw.storeEnds {s : State} (h : RecorderLaw s) :
    (∀ t, execScanEnd s = .next t → RecorderLaw t) ∧ (∀ x t, execProgramCompletion x s = .next t → RecorderLaw t)
      ∧ (∀ x t, execEraseCompletion x s = .next t → RecorderLaw t)
      ∧ (∀ t, execBlankCheckCompletion s = .next t → RecorderLaw t) := by
  refine ⟨fun t he => ?_, fun x t he => ?_, fun x t he => ?_, fun t he => ?_⟩
  · unfold execScanEnd at he
    split at he <;> obtain rfl := Host.Outcome.next.inj he
    · next ha => exact h.endScan ha
    all_goals exact h
  · unfold execProgramCompletion at he
    split at he <;> obtain rfl := Host.Outcome.next.inj he
    · next hp => exact h.endProgram hp x
    · exact h
  · unfold execEraseCompletion at he
    split at he <;> obtain rfl := Host.Outcome.next.inj he
    · next ha _ => exact h.endErase ha x _
    · exact h
  · unfold execBlankCheckCompletion at he
    split at he <;> obtain rfl := Host.Outcome.next.inj he
    · next ha _ => exact h.endBlankCheck ha _
    · exact h

/-- The silence of a channel, and the ends of a pulse and of a position, leave the record alone. -/
theorem sameRecorder_quiet {s t : State} :
    (∀ c, execSilenceTimerExpiry c s = .next t → SameRecorder s t)
      ∧ (execPositionTimerExpiry s = .next t → SameRecorder s t)
      ∧ (execPulseTimerExpiry s = .next t → SameRecorder s t) := by
  refine ⟨fun c he => ?_, fun he => ?_, fun he => ?_⟩
  · unfold execSilenceTimerExpiry at he
    split at he <;> obtain rfl := Host.Outcome.next.inj he
    · exact .refl s
    · exact .of_blocks ((sameDrive_setChannel c _ s).trans (sameDrive_fallSilent c _)).latch
  · unfold execPositionTimerExpiry at he
    split at he <;> obtain rfl := Host.Outcome.next.inj he <;> exact .of_blocks
  · unfold execPulseTimerExpiry at he
    split at he <;> obtain rfl := Host.Outcome.next.inj he <;> exact .of_blocks

/-! ### Every command -/

/-- The law holds at every reset state (R188). -/
theorem recorderLaw_afterReset (nv : Vector NvBank 4) (k : Nat) (line : Bool) (q : List Instr) :
    RecorderLaw (State.afterReset nv k line q) :=
  reset_recorderLaw.of_same ⟨rfl, rfl, .of_eq, rfl⟩

/-- Every command keeps the law, where the tables keep theirs. -/
theorem RecorderLaw.exec {s t : State} (h : RecorderLaw s) (ht : TableLaw s.tab) (i : Instr)
    (he : exec i s = .next t) : RecorderLaw t := by
  obtain ⟨hscan, hprog, herase, hblank⟩ := h.storeEnds
  obtain ⟨hsilence, hpos, hpulse⟩ := sameRecorder_quiet (s := s) (t := t)
  cases hr : Laws.requestParts i with
  | some p =>
    obtain rfl := Host.Outcome.next.inj ((exec_request hr s).symm.trans he)
    exact h.serve ht p.1 p.2
  | none =>
    cases i with
    | setpoint seq mode flags q u => exact h.execSetpoint he
    | feedback m f => exact h.execFeedback he
    | vibSample c seq x => exact h.execVibSample he
    | position seq a => exact h.of_same (sameRecorder_execPosition he)
    | refusedFrame p bytes => exact h.execRefusedFrame ht he
    | hardwareReset =>
      obtain rfl := Host.Outcome.next.inj he
      exact recorderLaw_afterReset _ _ _ _
    | lockLineChange asserted =>
      obtain rfl := Host.Outcome.next.inj he
      exact h.of_same .of_blocks
    | brkTimeExpiry => exact h.execBrkTimeExpiry he
    | brkRestExpiry => exact h.of_same (sameRecorder_execBrkRestExpiry he)
    | stopTimeExpiry => exact h.of_same (sameRecorder_execStopTimeExpiry he)
    | stallTimerExpiry => exact h.execStallTimerExpiry he
    | setpointTimerExpiry => exact h.execSetpointTimerExpiry he
    | feedbackTimerExpiry m => exact h.execFeedbackTimerExpiry he
    | silenceTimerExpiry c => exact h.of_same (hsilence c he)
    | positionTimerExpiry => exact h.of_same (hpos he)
    | postLimitExpiry => exact h.execPostLimitExpiry he
    | pulseTimerExpiry => exact h.of_same (hpulse he)
    | scanEnd => exact hscan t he
    | programCompletion took => exact hprog took t he
    | eraseCompletion verified => exact herase verified t he
    | blankCheckCompletion => exact hblank t he
    | transmissionEnd =>
      obtain rfl := Host.Outcome.next.inj he
      exact h.of_same .of_blocks
    | vcmdTransmissionEnd m =>
      obtain rfl := Host.Outcome.next.inj he
      exact h.of_same .of_blocks
    | _ => simp [Laws.requestParts] at hr

/-- Settles O9: a cause triggers the recorder, a snapshot fills and freezes it, the store's work moves its record on,
and all else leaves alone what the law reads. -/
theorem stepKeepsRecorderLaw : Obligations.StepKeepsRecorderLaw := by
  unfold Obligations.StepKeepsRecorderLaw
  intro s t ht h he
  unfold step at he
  split at he
  · obtain rfl := Host.Outcome.next.inj he
    exact h
  · next c rest _ => exact (h.of_same (t := s.withPending rest) .of_blocks).exec ht c he

end Sys2Proof.Machine

/-! The freeze by POST_LIMIT and the end of every offer (O41): the selection's slot, a number mark's place, the store in
which a program begins, and the store that has missed a record. -/

namespace Sys2Proof.Machine

/-- An entry of a vector after one has been replaced, by the entries' numbers. -/
theorem getElem_set_fin {α : Type} {m : Nat} (v : Vector α m) (b a : Fin m) (x : α) :
    (v.set b x)[a] = if a = b then x else v[a] := by
  simp only [Fin.getElem_fin, Vector.getElem_set, Fin.val_inj, eq_comm (a := b)]

/-! ### Target selection (R133 to R135) -/

/-- What a selection promises of the bank it names: a slot lies in an OPEN or BLANK bank, and a bank to be queued is not
in the queue (R134). -/
def SelectionSound (t : TripStore) : Selection → Prop
  | .slot b _ => t.banks[b].state = .open ∨ t.banks[b].state = .blank
  | .queueErase b | .queueOverwrite b => t.queued b = false
  | .wait | .miss => True

theorem TripStore.freeSlot_open {t : TripStore} {b : Fin 4} {k : Fin 8} (h : t.freeSlot b = some k) :
    t.banks[b].state = .open ∨ t.banks[b].state = .blank := by
  unfold TripStore.freeSlot at h
  split at h
  · next hb =>
    rw [Bool.and_eq_true, Bool.or_eq_true, beq_iff_eq, beq_iff_eq] at hb
    exact hb.1
  · exact absurd h nofun

theorem TripStore.selectNext_sound (t : TripStore) (mode : StoreMode) (b : Fin 4) :
    SelectionSound t (t.selectNext mode b) := by
  unfold TripStore.selectNext
  split
  · trivial
  · next hq =>
    split
    · next hs => exact .inr hs
    · next hs =>
      split
      · exact .inl hs
      · trivial
    · trivial
    · trivial
    · exact Bool.eq_false_of_not_eq_true hq
    · split
      · exact Bool.eq_false_of_not_eq_true hq
      · trivial
    · trivial

theorem TripStore.select_sound (t : TripStore) (mode : StoreMode) : SelectionSound t (t.select mode) := by
  unfold TripStore.select
  split
  · unfold TripStore.selectDuringEraseAll
    split
    · next hk => exact TripStore.freeSlot_open hk
    · split
      · next b hb =>
        have hblank := List.find?_some hb
        rw [Bool.and_eq_true, beq_iff_eq] at hblank
        exact .inr hblank.1
      · trivial
  · unfold TripStore.selectPlain
    split
    · next hk => exact TripStore.freeSlot_open hk
    · split
      · exact t.selectNext_sound mode _
      · trivial

theorem TripStore.join_of_not_queued {t : TripStore} {b : Fin 4} (h : t.queued b = false) :
    t.join b = { t with queue := t.queue ++ [b] } := by
  simp [TripStore.join, h]

/-! ### The store in which a program begins (R128, R136) -/

/-- A bank with a slot in use is not BLANK (R128). -/
theorem stateFromSlots_of_used {v : Vector SlotIndex 8} {k : Fin 8} (h : v[k].state ≠ .blank) :
    stateFromSlots v = if ∃ j : Fin 8, v[j].state = .blank then .open else .full := by
  have hall : v.toList.all (fun x => x.state == .blank) = false := by
    rw [List.all_eq_false]
    exact ⟨v[k], by simp, by simpa using h⟩
  have hany : v.toList.any (fun x => x.state == .blank) = true ↔ ∃ j : Fin 8, v[j].state = .blank := by
    simp only [List.any_eq_true, Vector.mem_toList_iff, beq_iff_eq]
    constructor
    · rintro ⟨x, hx, hs⟩
      obtain ⟨i, hi, rfl⟩ := Vector.getElem_of_mem hx
      exact ⟨⟨i, hi⟩, hs⟩
    · rintro ⟨j, hj⟩
      exact ⟨v[j], by simp, hj⟩
  simp only [stateFromSlots, hall, hany, Bool.false_eq_true, if_false]

theorem BankIndex.setSlot_recomputed {e : BankIndex} (h : e.state = .open ∨ e.state = .blank) (k : Fin 8)
    (x : SlotIndex) :
    e.setSlot k x = { e with slots := e.slots.set k x, state := stateFromSlots (e.slots.set k x) } := by
  obtain h | h := h <;> simp [BankIndex.setSlot, BankIndex.recomputed, h]

theorem TripStore.suspendErase_frame (t : TripStore) : ∃ banks, t.suspendErase = { t with banks := banks } := by
  unfold TripStore.suspendErase
  split <;> exact ⟨_, rfl⟩

/-- The bank whose erase runs becomes ERASE_SUSPENDED, no other changes (R136, step 1). -/
theorem TripStore.suspendErase_bank (t : TripStore) (a : Fin 4) :
    t.suspendErase.banks[a] = if t.activity = .erasing ∧ t.busy = some a
      then { t.banks[a] with state := .eraseSuspended } else t.banks[a] := by
  unfold TripStore.suspendErase
  split
  · next e ha hb =>
    simp only [TripStore.setBank_banks, getElem_set_fin, ha, hb, Option.some.injEq, true_and, eq_comm (a := e)]
    split
    · next he => rw [he]
    · rfl
  · next hno => rw [if_neg fun h => hno _ h.1 h.2]

theorem TripStore.suspendErase_slots (t : TripStore) (a : Fin 4) :
    t.suspendErase.banks[a].slots = t.banks[a].slots := by
  rw [t.suspendErase_bank]
  split <;> rfl

/-- The words of a header with its number, erased beyond (R136, assumption 20). -/
theorem headerPlaced_getD (n : DWord) (o : Nat) :
    (headerPlaced n).getD o erasedWord
      = if o = 0 then 0xA5C3#16 else if o = 1 then n.extractLsb' 16 16
        else if o = 2 then n.extractLsb' 0 16 else 0xFFFF#16 := by
  match o with
  | 0 | 1 | 2 | _ + 3 => rfl

theorem extractLsb'_halves (n : DWord) : n.extractLsb' 16 16 ++ n.extractLsb' 0 16 = n := by
  rw [BitVec.extractLsb'_append_extractLsb'_eq_extractLsb' (by decide)]
  exact BitVec.extractLsb'_eq_self

/-- A running erase is suspended and a program begins (R136). -/
def TripStore.placed (t : TripStore) (b : Fin 4) (k : Fin 8) (n : DWord) (retry : Bool) : TripStore :=
  { t.suspendErase.beginProgram b k n retry with nextNumber := if retry then t.nextNumber else n + 1 }

section Placed

variable (t : TripStore) (b : Fin 4) (k : Fin 8) (n : DWord) (retry : Bool)

theorem TripStore.placed_frame :
    t.placed b k n retry = { t with
      nv := (t.placed b k n retry).nv, banks := (t.placed b k n retry).banks, current := b, offer := .none,
      program := some { bank := b, slot := k, number := n, retry := retry },
      nextNumber := if retry then t.nextNumber else n + 1, activity := .programming, busy := some b } := by
  obtain ⟨banks, hs⟩ := t.suspendErase_frame
  simp [TripStore.placed, TripStore.beginProgram, TripStore.setBank, TripStore.setNv, hs]

theorem TripStore.placed_nv (a : Fin 4) :
    (t.placed b k n retry).nv[a] = if a = b then { t.nv[a] with
      slots := t.nv[a].slots.set k (t.nv[a].slots[k].program (headerPlaced n)) } else t.nv[a] := by
  obtain ⟨banks, hs⟩ := t.suspendErase_frame
  simp only [TripStore.placed, TripStore.beginProgram, TripStore.setBank_nv, TripStore.setNv_nv, hs, getElem_set_fin]
  split
  · next h => rw [h]
  · rfl

theorem TripStore.placed_bank (a : Fin 4) :
    (t.placed b k n retry).banks[a] = if a = b
      then t.suspendErase.banks[a].setSlot k { state := .writing, number := some n } else t.suspendErase.banks[a] := by
  simp only [TripStore.placed, TripStore.beginProgram, TripStore.setBank_banks, TripStore.setNv_banks,
    getElem_set_fin]
  split
  · next h => rw [h]
  · rfl

end Placed

/-! ### The slot placed (R127, R128, R136) -/

section Placed

variable {t : TripStore} {b : Fin 4} {k : Fin 8} (n : DWord) (retry : Bool)

/-- The bank that takes the record: its slot WRITING with the number, its state recomputed. -/
theorem TripStore.placed_target (hs : t.banks[b].state = .open ∨ t.banks[b].state = .blank)
    (hb : t.activity = .erasing → t.busy ≠ some b) :
    (t.placed b k n retry).banks[b] = { t.banks[b] with
      slots := t.banks[b].slots.set k { state := .writing, number := some n }
      state := stateFromSlots (t.banks[b].slots.set k { state := .writing, number := some n }) } := by
  rw [t.placed_bank, if_pos rfl, t.suspendErase_bank, if_neg fun h => hb h.1 h.2]
  exact BankIndex.setSlot_recomputed hs _ _

theorem TripStore.placed_target_slot (hs : t.banks[b].state = .open ∨ t.banks[b].state = .blank)
    (hb : t.activity = .erasing → t.busy ≠ some b) :
    (t.placed b k n retry).banks[b].slots[k] = { state := .writing, number := some n } := by
  rw [TripStore.placed_target n retry hs hb]
  simp

theorem TripStore.placed_target_state (hs : t.banks[b].state = .open ∨ t.banks[b].state = .blank)
    (hb : t.activity = .erasing → t.busy ≠ some b) :
    (t.placed b k n retry).banks[b].state =
      if ∃ j : Fin 8, (t.placed b k n retry).banks[b].slots[j].state = .blank then .open else .full := by
  have hslot := TripStore.placed_target_slot (k := k) n retry hs hb
  rw [TripStore.placed_target n retry hs hb] at hslot ⊢
  exact stateFromSlots_of_used (k := k) (by rw [hslot]; exact nofun)

/-- Every other slot stands, in index and memory. -/
theorem TripStore.placed_other_slot (hs : t.banks[b].state = .open ∨ t.banks[b].state = .blank)
    (hb : t.activity = .erasing → t.busy ≠ some b) {a : Fin 4} {j : Fin 8} (h : a ≠ b ∨ j ≠ k) :
    (t.placed b k n retry).banks[a].slots[j] = t.banks[a].slots[j]
      ∧ (t.placed b k n retry).nv[a].slots[j] = t.nv[a].slots[j] := by
  by_cases ha : a = b
  · subst ha
    have hj : j ≠ k := h.resolve_left fun hne => hne rfl
    rw [TripStore.placed_target n retry hs hb, TripStore.placed_nv, if_pos rfl]
    simp only [getElem_set_fin, if_neg hj, and_self]
  · rw [TripStore.placed_bank, TripStore.placed_nv, if_neg ha, if_neg ha, TripStore.suspendErase_slots]
    exact ⟨rfl, rfl⟩

/-- Of every other bank's state, only an erase is suspended. -/
theorem TripStore.placed_other_state {a : Fin 4} (h : a ≠ b) :
    (t.placed b k n retry).banks[a].state
      = if t.activity = .erasing ∧ t.busy = some a then .eraseSuspended else t.banks[a].state := by
  rw [TripStore.placed_bank, if_neg h, TripStore.suspendErase_bank]
  split <;> rfl

theorem TripStore.placed_stamp (a : Fin 4) :
    (t.placed b k n retry).nv[a].stamp = t.nv[a].stamp ∧ (t.placed b k n retry).nv[a].marks = t.nv[a].marks := by
  rw [TripStore.placed_nv]
  split <;> exact ⟨rfl, rfl⟩

/-- The slot keeps the bits that the header has too (R127). -/
theorem TripStore.placed_word (o : Nat) :
    (t.placed b k n retry).nv[b].slots[k].word o = t.nv[b].slots[k].word o &&&
      (if o = 0 then 0xA5C3#16 else if o = 1 then n.extractLsb' 16 16
        else if o = 2 then n.extractLsb' 0 16 else 0xFFFF#16) := by
  rw [TripStore.placed_nv, if_pos rfl]
  simp only [getElem_set_fin, if_true, NvSlot.program_word, headerPlaced_getD]

/-- A slot that read erased holds the header with its number, and FFFFh beyond it (R136, assumption 20). -/
theorem TripStore.placed_erased (h : ∀ o, t.nv[b].slots[k].word o = 0xFFFF#16) :
    (t.placed b k n retry).nv[b].slots[k].word 0 = 0xA5C3#16
      ∧ (t.placed b k n retry).nv[b].slots[k].word 1 ++ (t.placed b k n retry).nv[b].slots[k].word 2 = n
      ∧ ∀ o, 3 ≤ o → (t.placed b k n retry).nv[b].slots[k].word o = 0xFFFF#16 := by
  have hones (x : Word) : 0xFFFF#16 &&& x = x := BitVec.allOnes_and
  simp only [TripStore.placed_word, h, hones]
  refine ⟨rfl, extractLsb'_halves n, fun o ho => ?_⟩
  rw [if_neg (by omega), if_neg (by omega), if_neg (by omega)]

end Placed

/-! ### Number marks (R127, R139) -/

theorem TripStore.markForRetry_nv (t : TripStore) (n : DWord) (a : Fin 4) :
    (t.markForRetry n).nv[a] = if t.markHolder = some a
      then { t.nv[a] with marks := t.nv[a].marks ++ [n] } else t.nv[a] := by
  unfold TripStore.markForRetry
  cases t.markHolder with
  | none => rfl
  | some b =>
    simp only [TripStore.placeMark, TripStore.setBank_nv, TripStore.setNv_nv, getElem_set_fin, Option.some.injEq,
      eq_comm (a := b)]
    split
    · next h => rw [h]
    · rfl

theorem TripStore.markForRetry_bank (t : TripStore) (n : DWord) (a : Fin 4) :
    (t.markForRetry n).banks[a] = if t.markHolder = some a
      then { t.banks[a] with marks := t.banks[a].marks ++ [n] } else t.banks[a] := by
  unfold TripStore.markForRetry
  cases t.markHolder with
  | none => rfl
  | some b =>
    simp only [TripStore.placeMark, TripStore.setBank_banks, TripStore.setNv_banks, getElem_set_fin,
      Option.some.injEq, eq_comm (a := b)]
    split
    · next h => rw [h]
    · rfl

/-! ### A miss (R132, R138, R139) -/

/-- The records of a miss read nothing the store has changed. -/
theorem countMiss_log (n : DWord) (t : TripStore) (s : State) :
    (countMiss n { s with store := t }).log = (raise .store .none 3 n 0
      (raise .overwrite .none 1 n (BitVec.ofNat 32 (min (t.missed + 1) 65535)) s)).log := by
  have hsame : SameLog { s with store := { t with missed := riseBy t.missed 1, offer := .none } } s :=
    ⟨rfl, rfl, rfl, rfl⟩
  exact ((hsame.raise _ _ _ _ _).raise _ _ _ _ _).log

/-- A miss changes store, recorder and log alone. -/
theorem countMiss_eq (n : DWord) (t : TripStore) (s : State) :
    countMiss n { s with store := t } = { s with
      store := { t with missed := riseBy t.missed 1, offer := .none }
      log := (countMiss n { s with store := t }).log } := rfl

/-- The store after a miss: the number marked where a mark is free, the miss counted, the offer gone (R139). -/
def TripStore.missedOffer (t : TripStore) (n : DWord) (marks : Prop) [Decidable marks] (next : DWord) : TripStore :=
  { (if marks then t.markForRetry n else t) with
    missed := riseBy t.missed 1, offer := .none, nextNumber := next }

theorem TripStore.missedOffer_frame (t : TripStore) (n : DWord) (marks : Prop) [Decidable marks] (next : DWord) :
    t.missedOffer n marks next = { t with
      nv := (t.missedOffer n marks next).nv, banks := (t.missedOffer n marks next).banks, offer := .none,
      missed := min (t.missed + 1) 65535, nextNumber := next } := by
  obtain ⟨nv, banks, hm⟩ := t.markForRetry_frame n
  by_cases hmarks : marks
  · simp only [TripStore.missedOffer, if_pos hmarks, hm]
    rfl
  · simp only [TripStore.missedOffer, if_neg hmarks]
    rfl

theorem TripStore.missedOffer_marks (t : TripStore) (n : DWord) (marks : Prop) [Decidable marks] (next : DWord)
    (a : Fin 4) :
    (t.missedOffer n marks next).nv[a] = (if marks ∧ t.markHolder = some a
        then { t.nv[a] with marks := t.nv[a].marks ++ [n] } else t.nv[a])
      ∧ (t.missedOffer n marks next).banks[a] = (if marks ∧ t.markHolder = some a
        then { t.banks[a] with marks := t.banks[a].marks ++ [n] } else t.banks[a]) := by
  by_cases hmarks : marks
  · simp only [TripStore.missedOffer, hmarks, if_true, true_and]
    exact ⟨t.markForRetry_nv n a, t.markForRetry_bank n a⟩
  · simp only [TripStore.missedOffer, hmarks, false_and, if_false, and_self]

/-! ### The end of an offer (R132 to R141)

One account of both kinds of offer: a new record takes the next number, a retry keeps its own. -/

/-- Where an offer goes once its selection has ended. -/
def endOffer (retry : Bool) (n : DWord) (x : Selection) (s : State) : State :=
  if retry then placeRetry n x s else placeNew x s

/-- What is offered: a retry with the number it holds, or a new record that will take the next number. -/
def Offered (retry : Bool) (n : DWord) (s : State) : Prop :=
  s.store.offer = (if retry then .retry n else .newRecord) ∧ (retry = false → n = s.store.nextNumber)

/-- A new record finds no number left (R132). -/
@[reducible] def Exhausted (retry : Bool) (s : State) : Prop := retry = false ∧ s.store.nextNumber = 0

section OfferEnds

variable {retry : Bool} {n : DWord} {s : State}

theorem takeOffer_placed (h : Offered retry n s) (he : ¬Exhausted retry s) :
    takeOffer s = endOffer retry n (s.store.select (storeMode s)) s := by
  cases retry with
  | true => exact takeOffer_retry h.1
  | false =>
    have hnext : s.store.nextNumber ≠ 0 := fun hz => he ⟨rfl, hz⟩
    rw [takeOffer_new h.1, newSelection, if_neg hnext]
    rfl

theorem takeOffer_exhausted (h : Offered retry n s) (he : Exhausted retry s) : takeOffer s = missNew s := by
  obtain ⟨rfl, hz⟩ := he
  rw [takeOffer_new h.1, newSelection, if_pos hz]
  rfl

/-- A slot takes the record, and the recorder is told of a new one (R136). -/
theorem endOffer_slot (h : Offered retry n s) (b : Fin 4) (k : Fin 8) :
    endOffer retry n (.slot b k) s = { s with
      store := s.store.placed b k n retry
      recorder := if retry then s.recorder else { s.recorder with
        state := .writing, ramRecord := s.recorder.ramRecord.map fun x => { x with tripNumber := n } } } := by
  cases retry with
  | true =>
    obtain ⟨banks, hs⟩ := s.store.suspendErase_frame
    simp [endOffer, placeRetry, acceptRetry, TripStore.placed, TripStore.beginProgram, hs]
  | false =>
    rw [h.2 rfl]
    rfl

theorem endOffer_wait : endOffer retry n .wait s = s := by
  cases retry <;> rfl

theorem endOffer_queueErase {b : Fin 4} (h : s.store.queued b = false) :
    endOffer retry n (.queueErase b) s = { s with store := { s.store with queue := s.store.queue ++ [b] } } := by
  have hjoin : endOffer retry n (.queueErase b) s = { s with store := s.store.join b } := by
    cases retry <;> rfl
  rw [hjoin, TripStore.join_of_not_queued h]

/-- A bank queued for overwrite: its records are counted and announced (R141). -/
theorem endOffer_queueOverwrite {b : Fin 4} (h : s.store.queued b = false) :
    endOffer retry n (.queueOverwrite b) s = { s with
      store := { s.store with
        queue := s.store.queue ++ [b]
        overwritten := min (s.store.overwritten + s.store.banks[b].validCount) 65535 }
      log := (raise .overwrite (.bank b) 0 (BitVec.ofNat 32 b.val)
        (BitVec.ofNat 32 s.store.banks[b].validCount) s).log } := by
  have hover : endOffer retry n (.queueOverwrite b) s = queueOverwrite b s := by
    cases retry <;> rfl
  rw [hover, queueOverwrite, TripStore.join_of_not_queued h]
  rfl

/-- A retry that is missed marks its number (R138, R139). -/
theorem missRetry_eq (n : DWord) (s : State) :
    missRetry n s = { s with
      store := s.store.missedOffer n True s.store.nextNumber
      recorder := { s.recorder with state := .done }
      log := (raise .store .none 3 n 0
        (raise .overwrite .none 1 n (BitVec.ofNat 32 (min (s.store.missed + 1) 65535)) s)).log } := by
  obtain ⟨nv, banks, hm⟩ := s.store.markForRetry_frame n
  have hlog := countMiss_log n (s.store.markForRetry n) s
  rw [missRetry, countMiss_eq, hlog]
  simp only [TripStore.missedOffer, if_true, hm, recorderDone]

/-- A new record that is missed for lack of room marks and consumes its number (R139). -/
theorem missNew_eq (h : s.store.nextNumber ≠ 0) :
    missNew s = { s with
      store := s.store.missedOffer s.store.nextNumber True
        (if s.store.markHolder.isSome then s.store.nextNumber + 1 else s.store.nextNumber)
      recorder := { s.recorder with
        state := .done
        ramRecord := s.recorder.ramRecord.map fun x => { x with tripNumber := s.store.missNumber } }
      log := (raise .store .none 3 s.store.missNumber 0
        (raise .overwrite .none 1 s.store.missNumber (BitVec.ofNat 32 (min (s.store.missed + 1) 65535)) s)).log } := by
  obtain ⟨nv, banks, hm⟩ := s.store.markForRetry_frame s.store.nextNumber
  have hlog := countMiss_log s.store.missNumber s.store.consumeForMiss s
  rw [missNew, countMiss_eq, hlog, TripStore.consumeForMiss_eq h]
  simp only [TripStore.missedOffer, if_true, hm, Recorder.numbered]

/-- A new record that finds no number is missed without one (R132, assumptions 14 and 39). -/
theorem missNew_exhausted (h : s.store.nextNumber = 0) :
    missNew s = { s with
      store := s.store.missedOffer 0 False s.store.nextNumber
      recorder := { s.recorder with
        state := .done, ramRecord := s.recorder.ramRecord.map fun x => { x with tripNumber := 0 } }
      log := (raise .store .none 3 0 0
        (raise .overwrite .none 1 0 (BitVec.ofNat 32 (min (s.store.missed + 1) 65535)) s)).log } := by
  have hlog := countMiss_log 0 s.store s
  have hnumber : s.store.missNumber = 0 := if_pos h
  rw [missNew, TripStore.consumeForMiss_exhausted h, hnumber, countMiss_eq, hlog]
  rfl

/-- The number the events of a miss give: a retry's own, and a new record's where a mark is free for it (R139). -/
def missGiven (retry : Bool) (n : DWord) (s : State) : DWord :=
  if retry then n else if Exhausted retry s then 0 else if s.store.markHolder.isSome then n else 0

/-- A miss ends the offer, of whichever kind (R132, R138, R139). -/
theorem takeOffer_missed (h : Offered retry n s) (hm : Exhausted retry s ∨ s.store.select (storeMode s) = .miss) :
    takeOffer s = { s with
      store := s.store.missedOffer n (¬Exhausted retry s)
        (if retry = false ∧ ¬Exhausted retry s ∧ s.store.markHolder.isSome then n + 1 else s.store.nextNumber)
      recorder := if retry then { s.recorder with state := .done } else { s.recorder with
        state := .done
        ramRecord := s.recorder.ramRecord.map fun x => { x with tripNumber := missGiven retry n s } }
      log := (raise .store .none 3 (missGiven retry n s) 0 (raise .overwrite .none 1 (missGiven retry n s)
        (BitVec.ofNat 32 (min (s.store.missed + 1) 65535)) s)).log } := by
  by_cases he : Exhausted retry s
  · rw [takeOffer_exhausted h he, missNew_exhausted he.2]
    obtain ⟨rfl, hz⟩ := he
    obtain rfl : n = 0 := (h.2 rfl).trans hz
    simp [missGiven, hz]
  · rw [takeOffer_placed h he, hm.resolve_left he]
    cases retry with
    | true =>
      rw [endOffer, if_pos rfl, placeRetry, missRetry_eq]
      simp [missGiven]
    | false =>
      have hnext : s.store.nextNumber ≠ 0#32 := fun hz => he ⟨rfl, hz⟩
      obtain rfl := h.2 rfl
      have hnumber : s.store.missNumber = missGiven false s.store.nextNumber s := by
        simp [missGiven, TripStore.missNumber, hnext]
      rw [endOffer, if_neg Bool.false_ne_true, placeNew, missNew_eq hnext, hnumber]
      simp [hnext]

end OfferEnds

/-! ### POST_LIMIT's expiry (R118 to R120) -/

/-- A store that programs is left to it (R140). -/
theorem TripStore.chooseWork_programming {t : TripStore} (h : t.activity = .programming) : t.chooseWork = t := by
  simp only [TripStore.chooseWork, h]

/-- An offer taken reaches recorder, store and log alone. -/
theorem placeNew_leaves (x : Selection) (s : State) :
    placeNew x s = { s with
      recorder := (placeNew x s).recorder, store := (placeNew x s).store, log := (placeNew x s).log } := by
  cases x <;> rfl

theorem freeze_leaves {s : State} (h : s.store.activity = .idle ∨ s.store.activity = .erasing) (reason : PostReason) :
    freeze reason s = { s with
      recorder := (freeze reason s).recorder, store := (freeze reason s).store, log := (freeze reason s).log } := by
  have hplaced := placeNew_leaves (newSelection s) (frozenAt reason s)
  rw [freeze_taken h, takeOffer_new rfl, newSelection_frozenAt]
  show ({ placeNew (newSelection s) (frozenAt reason s) with store := _ } : State) = _
  rw [hplaced]
  rfl

/-- A frozen record that finds a slot is in flight with its number (R136). -/
theorem freeze_slot {s : State} (h : s.store.activity = .idle ∨ s.store.activity = .erasing) (reason : PostReason)
    {b : Fin 4} {k : Fin 8} (hs : newSelection s = .slot b k) :
    (freeze reason s).store.busy = some b ∧ (freeze reason s).store.offer = .none
      ∧ (freeze reason s).recorder.ramRecord
        = some { assembleRecord reason s with tripNumber := s.store.nextNumber }
      ∧ (freeze reason s).store.nextNumber = s.store.nextNumber + 1 := by
  have hplaced := endOffer_slot (retry := false) (s := frozenAt reason s) ⟨rfl, fun _ => rfl⟩ b k
  have hfreeze : freeze reason s = chooseWork
      (endOffer false (frozenAt reason s).store.nextNumber (.slot b k) (frozenAt reason s)) := by
    rw [freeze_taken h, takeOffer_new rfl, newSelection_frozenAt, hs]
    rfl
  rw [hplaced] at hfreeze
  rw [hfreeze, chooseWork, TripStore.chooseWork_programming rfl]
  exact ⟨rfl, rfl, rfl, rfl⟩

/-- A frozen record that waits keeps no number yet (R120). -/
theorem freeze_waiting {s : State} (h : s.store.activity = .idle ∨ s.store.activity = .erasing) (reason : PostReason)
    {x : Selection} (hs : newSelection s = x) (hx : x = .wait ∨ (∃ b, x = .queueErase b) ∨ ∃ b, x = .queueOverwrite b) :
    (freeze reason s).recorder.ramRecord = some (assembleRecord reason s) := by
  rw [freeze_taken h, takeOffer_new rfl, newSelection_frozenAt, hs, chooseWork_recorder, placeNew_recorder]
  obtain rfl | ⟨b, rfl⟩ | ⟨b, rfl⟩ := hx <;> rfl

theorem execPostLimitExpiry_running {s : State} {d : Nat} (h : s.recorder.postTimer = .running d) :
    execPostLimitExpiry s = .next (freeze .limit s) := by
  simp only [execPostLimitExpiry, h]

theorem freeze_ring (reason : PostReason) (s : State) :
    (freeze reason s).recorder.ring = s.recorder.ring ∧ (freeze reason s).recorder.postTimer = .stopped := by
  obtain ⟨n, d, -, hr⟩ := freeze_recorder reason s
  rw [hr]
  exact ⟨rfl, rfl⟩

/-- Settles O41: the expiry freezes the record, and an offer taken ends in a slot, in a wait or in a miss. -/
theorem postLimitFreezesTheRecord : Obligations.PostLimitFreezesTheRecord := by
  unfold Obligations.PostLimitFreezesTheRecord
  refine ⟨fun s d hd => ?_, fun s h => takeOffer_none h, fun s n retry hoffer hnumber => ?_⟩
  · intro x u taken
    have hexec : exec .postLimitExpiry s = .next (freeze .limit s) := execPostLimitExpiry_running hd
    refine ⟨fun ha => ?_, fun ha => ⟨freeze .limit s, hexec, freeze_taken ha .limit, (freeze_ring _ s).1,
      (freeze_ring _ s).2, ?_, freeze_leaves ha .limit⟩⟩
    · rw [hexec, freeze_waits (by intro hi; simp [hi] at ha) (by intro hi; simp [hi] at ha)]
      rfl
    · have hplaced := freeze_placed ha .limit
      have htaken : newSelection s = taken := rfl
      rw [htaken] at hplaced
      generalize taken = x at htaken hplaced
      cases x with
      | slot b k =>
        obtain ⟨hstate, hactivity⟩ := hplaced
        obtain ⟨hbusy, hnone, hram, hnext⟩ := freeze_slot ha .limit htaken
        exact ⟨hstate, hactivity, hbusy, hnone, hram, hnext⟩
      | wait => exact ⟨hplaced.1, hplaced.2, freeze_waiting ha .limit htaken (.inl rfl)⟩
      | queueErase b => exact ⟨hplaced.1, hplaced.2, freeze_waiting ha .limit htaken (.inr (.inl ⟨b, rfl⟩))⟩
      | queueOverwrite b => exact ⟨hplaced.1, hplaced.2, freeze_waiting ha .limit htaken (.inr (.inr ⟨b, rfl⟩))⟩
      | miss => exact hplaced
  · intro t c holder exhausted given sel
    have hof : Offered retry n s := ⟨hoffer, hnumber⟩
    have hsound := s.store.select_sound (storeMode s)
    have hend {x : Selection} (he : ¬Exhausted retry s) (hs : sel = x) :
        t = endOffer retry n x s ∧ SelectionSound s.store x :=
      ⟨hs ▸ takeOffer_placed hof he, hs ▸ hsound⟩
    refine ⟨fun he b k hs hb => ?_, fun he hs => ?_, fun he b hs => ?_, fun he b hs => ?_, fun hm => ?_⟩
    · obtain ⟨ht, hopen⟩ := hend he hs
      rw [endOffer_slot hof] at ht
      rw [ht]
      exact ⟨TripStore.placed_target_slot n retry hopen hb, TripStore.placed_target_state n retry hopen hb,
        fun a j h => TripStore.placed_other_slot n retry hopen hb h, fun a h => TripStore.placed_other_state n retry h,
        TripStore.placed_stamp n retry, TripStore.placed_word n retry, TripStore.placed_erased n retry,
        s.store.placed_frame b k n retry, rfl, rfl⟩
    · exact (hend he hs).1.trans endOffer_wait
    · obtain ⟨ht, hfree⟩ := hend he hs
      exact ht.trans (endOffer_queueErase hfree)
    · obtain ⟨ht, hfree⟩ := hend he hs
      exact ht.trans (endOffer_queueOverwrite hfree)
    · have ht : t = _ := takeOffer_missed hof hm
      rw [ht]
      refine ⟨s.store.missedOffer_frame _ _ _, fun a => ?_, rfl, rfl, rfl⟩
      exact s.store.missedOffer_marks n (¬Exhausted retry s) _ a

end Sys2Proof.Machine

/-! TRIP_READ (O40): the words of a trip record, the slot that carries a number, and the group a read answers. -/

namespace Sys2Proof.Machine

/-! ### Lists read part by part -/

theorem getD_append_add {α : Type} (l l' : List α) (i : Nat) (d : α) :
    (l ++ l').getD (l.length + i) d = l'.getD i d := by
  rw [List.getD_append_right _ _ _ _ (by omega), Nat.add_sub_cancel_left]

theorem getD_toList {α : Type} {m : Nat} (v : Vector α m) (k : Fin m) (d : α) : v.toList.getD k d = v[k] := by
  simp [List.getD_eq_getElem?_getD]

theorem getD_map_toList {α β : Type} {m : Nat} (v : Vector α m) (f : α → β) (k : Fin m) (d : β) :
    (v.toList.map f).getD k d = f v[k] := by
  simp [List.getD_eq_getElem?_getD]

/-! ### The header words (spec 12.5) -/

/-- Words 0 to 16: the marker, the number, the trigger's values, the counts and the flags. -/
def TripRecord.leadWords (r : TripRecord) : List Word :=
  [headerMarker] ++ words32 r.tripNumber ++ words32 r.trigger.pace ++ words32 r.trigger.supTime
  ++ [word16 r.trigger.lFwd, word16 r.trigger.derate, count16 r.trigger.attempts,
      word16 r.trigger.dcA, word16 r.trigger.tempA, word16 r.trigger.dcB, word16 r.trigger.tempB,
      count8 r.preCount ++ count8 r.postCount, count8 r.causes.length ++ count8 r.overflowCount,
      count16 (bit r.valid[0] 0 + bit r.valid[1] 1 + bit r.valid[2] 2 + bit r.valid[3] 3 + bit r.valid[4] 4
        + bit r.eccValid 8 + bit (r.reason == .limit) 12)]

/-- Words 28 to 30: the channel states and the ECC. -/
def TripRecord.stateWords (r : TripRecord) : List Word :=
  [count16 (r.channelStates[0].code * 4096 + r.channelStates[1].code * 256
      + r.channelStates[2].code * 16 + r.channelStates[3].code),
    count16 (r.channelStates[4].code * 4096 + r.channelStates[5].code * 256), count16 r.ecc]

theorem TripRecord.headerWords_parts (r : TripRecord) :
    r.headerWords = r.leadWords ++ (r.versions.toList ++ (r.levels.toList.map count16 ++ (r.stateWords
      ++ (r.avg.toList.map count16 ++ [completionMarker])))) := by
  simp only [TripRecord.headerWords, TripRecord.leadWords, TripRecord.stateWords, List.append_assoc]

section Header

variable (r : TripRecord)

theorem TripRecord.word_lead {o : Nat} (h : o < 17) : r.word o = r.leadWords.getD o erasedWord := by
  rw [r.word_header o (by omega), r.headerWords_parts, List.getD_append _ _ _ _ h]

theorem TripRecord.word_version (k : Fin 5) : r.word (17 + k) = r.versions[k] := by
  have hlead : r.leadWords.length = 17 := rfl
  rw [r.word_header _ (by omega), r.headerWords_parts, ← hlead, getD_append_add,
    List.getD_append _ _ _ _ (by simp), getD_toList]

theorem TripRecord.word_level (c : Fin 6) : r.word (22 + c) = count16 r.levels[c] := by
  have hlead : r.leadWords.length = 17 := rfl
  have hversions : r.versions.toList.length = 5 := by simp
  have ho : 22 + c.val = r.leadWords.length + (r.versions.toList.length + c) := by omega
  rw [r.word_header _ (by omega), r.headerWords_parts, ho, getD_append_add, getD_append_add,
    List.getD_append _ _ _ _ (by simp), getD_map_toList]

/-- The words after the levels. -/
theorem TripRecord.word_afterLevels {i : Nat} (h : i < 20) :
    r.word (28 + i) = (r.stateWords ++ (r.avg.toList.map count16 ++ [completionMarker])).getD i erasedWord := by
  have hlead : r.leadWords.length = 17 := rfl
  have hversions : r.versions.toList.length = 5 := by simp
  have hlevels : (r.levels.toList.map count16).length = 6 := by simp
  have ho : 28 + i
      = r.leadWords.length + (r.versions.toList.length + ((r.levels.toList.map count16).length + i)) := by omega
  rw [r.word_header _ (by omega), r.headerWords_parts, ho, getD_append_add, getD_append_add, getD_append_add]

theorem TripRecord.word_avg (k : Fin 16) : r.word (31 + k) = count16 r.avg[k] := by
  have hstate : r.stateWords.length = 3 := rfl
  have ho : 31 + k.val = 28 + (3 + k) := by omega
  rw [ho, r.word_afterLevels (by omega), ← hstate, getD_append_add, List.getD_append _ _ _ _ (by simp),
    getD_map_toList]

theorem TripRecord.word_completion : r.word 47 = completionMarker := by
  have havg : (r.avg.toList.map count16).length = 16 := by simp
  have hstate : r.stateWords.length = 3 := rfl
  have ho : 19 = r.stateWords.length + ((r.avg.toList.map count16).length + 0) := by omega
  rw [r.word_afterLevels (i := 19) (by omega), ho, getD_append_add, getD_append_add]
  rfl

/-! ### The flags and the channel states (R119) -/

/-- The flags' number as the bits it is made of. -/
theorem flags_bits (v : Vector Bool 5) (e p : Bool) :
    bit v[0] 0 + bit v[1] 1 + bit v[2] 2 + bit v[3] 3 + bit v[4] 4 + bit e 8 + bit p 12
      = Nat.bit v[0] (Nat.bit v[1] (Nat.bit v[2] (Nat.bit v[3] (Nat.bit v[4] (Nat.bit false (Nat.bit false
        (Nat.bit false (Nat.bit e (Nat.bit false (Nat.bit false (Nat.bit false (Nat.bit p 0)))))))))))) := by
  have hbit (x : Bool) (k : Nat) : bit x k = x.toNat * 2 ^ k := by cases x <;> simp [bit]
  simp only [hbit, Nat.bit_val, Bool.toNat_false]
  omega

theorem TripRecord.word_flags {i : Nat} (h : i < 16) :
    (r.word 16).getLsbD i
      = if i = 8 then r.eccValid else if i = 12 then r.reason == .limit else r.valid.toList.getD i false := by
  have hvalid : r.valid.toList.getD i false = if hi : i < 5 then r.valid[i] else false := by
    split
    · next hi => exact getD_toList r.valid ⟨i, hi⟩ false
    · next hi => rw [List.getD_eq_default _ _ (by simp; omega)]
  rw [hvalid, r.word_lead (by omega)]
  show (count16 _).getLsbD i = _
  rw [flags_bits, count16, BitVec.getLsbD_ofNat]
  interval_cases i <;> simp only [Nat.testBit_bit_succ, Nat.testBit_bit_zero] <;> simp

theorem ChannelState.code_lt (x : ChannelState) : x.code < 16 := by
  cases x <;> decide

/-- Four codes in the four nibbles of a word, the first in the highest. -/
theorem count16_nibbles {a b c d : Nat} (hb : b < 16) (hc : c < 16) (hd : d < 16) :
    (count16 (a * 4096 + b * 256 + c * 16 + d)).extractLsb' 12 4 = BitVec.ofNat 4 a
      ∧ (count16 (a * 4096 + b * 256 + c * 16 + d)).extractLsb' 8 4 = BitVec.ofNat 4 b
      ∧ (count16 (a * 4096 + b * 256 + c * 16 + d)).extractLsb' 4 4 = BitVec.ofNat 4 c
      ∧ (count16 (a * 4096 + b * 256 + c * 16 + d)).extractLsb' 0 4 = BitVec.ofNat 4 d := by
  refine ⟨?_, ?_, ?_, ?_⟩ <;> apply BitVec.eq_of_toNat_eq <;>
    simp only [count16, BitVec.extractLsb'_toNat, BitVec.toNat_ofNat, Nat.shiftRight_eq_div_pow] <;> omega

theorem TripRecord.word_states :
    r.word 28 = count16 (r.channelStates[0].code * 4096 + r.channelStates[1].code * 256
        + r.channelStates[2].code * 16 + r.channelStates[3].code)
      ∧ r.word 29 = count16 (r.channelStates[4].code * 4096 + r.channelStates[5].code * 256)
      ∧ r.word 30 = count16 r.ecc :=
  ⟨r.word_afterLevels (i := 0) (by omega), r.word_afterLevels (i := 1) (by omega),
    r.word_afterLevels (i := 2) (by omega)⟩

theorem TripRecord.word_channelState (c : Fin 6) :
    (if c < 4 then r.word 28 else r.word 29).extractLsb' (12 - 4 * (c % 4)) 4
      = BitVec.ofNat 4 r.channelStates[c].code := by
  have hlt (k : Fin 6) := r.channelStates[k].code_lt
  obtain ⟨h28, h29, -⟩ := r.word_states
  obtain ⟨n0, n1, n2, n3⟩ := count16_nibbles (a := r.channelStates[0].code) (hlt 1) (hlt 2) (hlt 3)
  obtain ⟨n4, n5, -, -⟩ := count16_nibbles (a := r.channelStates[4].code) (c := 0) (d := 0) (hlt 5) (by decide)
    (by decide)
  rw [Nat.zero_mul, Nat.add_zero] at n4 n5
  rw [h28, h29]
  match c with
  | 0 => exact n0
  | 1 => exact n1
  | 2 => exact n2
  | 3 => exact n3
  | 4 => exact n4
  | 5 => exact n5

/-- The byte below the channel states is 0. -/
theorem TripRecord.word_stateRest : (r.word 29).extractLsb' 0 8 = 0 := by
  obtain ⟨-, h29, -⟩ := r.word_states
  rw [h29]
  apply BitVec.eq_of_toNat_eq
  simp only [count16, BitVec.extractLsb'_toNat, BitVec.toNat_ofNat, BitVec.ofNat_eq_ofNat,
    Nat.shiftRight_eq_div_pow]
  omega

end Header

/-! ### The cause slots and the snapshots (R119, spec 12.5) -/

/-- Kind and source share a word, a byte each. -/
theorem count16_kind_source (k : Nat) (x : BitVec 4) :
    count16 (k * 256 + x.toNat) = BitVec.ofNat 8 k ++ x.setWidth 8 := by
  have hx := x.isLt
  apply BitVec.eq_of_toNat_eq
  rw [BitVec.toNat_append, Nat.shiftLeft_eq, Nat.mul_comm _ (2 ^ 8), ← Nat.two_pow_add_eq_or_of_lt]
  all_goals simp only [count16, BitVec.toNat_ofNat, BitVec.toNat_setWidth]
  all_goals omega

theorem TripRecord.word_causeEntry (r : TripRecord) {k : Nat} {c : CauseEntry} (hk : k < 8)
    (hc : r.causes[k]? = some c) {i : Nat} (hi : i < 8) :
    r.word (48 + 8 * k + i) = c.words.getD i erasedWord := by
  have htake : (r.causes.take 8)[k]? = some c := by rw [List.getElem?_take_of_lt hk, hc]
  have hlt : k < (r.causes.take 8).length := (List.getElem?_eq_some_iff.mp htake).1
  have hlen := length_flatten_map_of_eight CauseEntry.words (fun _ => rfl) (r.causes.take 8)
  rw [Nat.add_assoc, r.word_cause _ (by omega), TripRecord.causeWords, List.getD_append _ _ _ _ (by omega),
    List.getD_eq_getElem?_getD, getElem?_flatten_map_of_eight _ (fun _ => rfl) _ k c htake i hi,
    List.getD_eq_getElem?_getD]

/-- The cause slots not used hold FFFFh. -/
theorem TripRecord.word_causeUnused (r : TripRecord) {o : Nat} (hlow : 48 + 8 * r.causes.length ≤ o) (h : o < 112) :
    r.word o = erasedWord := by
  obtain ⟨i, rfl⟩ : ∃ i, o = 48 + i := ⟨o - 48, by omega⟩
  have hlen := length_flatten_map_of_eight CauseEntry.words (fun _ => rfl) (r.causes.take 8)
  have htake := List.length_take_le' 8 r.causes
  rw [r.word_cause _ (by omega), TripRecord.causeWords, List.getD_append_right _ _ _ _ (by omega)]
  rw [List.getD_eq_getElem?_getD, List.getElem?_getD_replicate_default_eq]

theorem TripRecord.word_snapshotEntry (r : TripRecord) {j : Nat} {y : Snapshot} (hy : r.snapshots[j]? = some y)
    {i : Nat} (hi : i < 8) : r.word (112 + 8 * j + i) = y.words.getD i erasedWord := by
  rw [Nat.add_assoc, r.word_snapshot, List.getD_eq_getElem?_getD,
    getElem?_flatten_map_of_eight _ (fun _ => rfl) _ j y hy i hi, List.getD_eq_getElem?_getD]

/-- Beyond the last snapshot a record reads erased. -/
theorem TripRecord.word_beyond (r : TripRecord) {o : Nat} (h : 112 + 8 * r.snapshots.length ≤ o) :
    r.word o = erasedWord := by
  obtain ⟨i, rfl⟩ : ∃ i, o = 112 + i := ⟨o - 112, by omega⟩
  have hlen := length_flatten_map_of_eight Snapshot.words (fun _ => rfl) r.snapshots
  rw [r.word_snapshot, List.getD_eq_default _ _ (by omega)]

/-! ### The slot that carries a number (R144) -/

theorem SlotIndex.carries_iff (x : SlotIndex) (n : DWord) :
    x.carries n = true ↔ (x.state = .valid ∨ x.state = .writing) ∧ x.number = some n := by
  simp [SlotIndex.carries]

theorem mem_allSlots (k : Fin 8) : k ∈ allSlots := by
  revert k
  decide

theorem mem_allBanks (b : Fin 4) : b ∈ allBanks := by
  revert b
  decide

/-- The slot located carries the number. -/
theorem TripStore.locate_carries {t : TripStore} {n : DWord} {b : Fin 4} {k : Fin 8} (h : t.locate n = some (b, k)) :
    t.banks[b].slots[k].carries n = true := by
  obtain ⟨c, -, hc⟩ := List.exists_of_findSome?_eq_some h
  obtain ⟨j, hj, hp⟩ := Option.map_eq_some_iff.mp hc
  obtain ⟨rfl, rfl⟩ := Prod.mk.inj hp
  exact List.find?_some (p := fun k : Fin 8 => t.banks[c].slots[k].carries n) hj

/-- A number is located nowhere if and only if no slot carries it. -/
theorem TripStore.locate_eq_none {t : TripStore} {n : DWord} :
    t.locate n = none ↔ ∀ (b : Fin 4) (k : Fin 8), ¬t.banks[b].slots[k].carries n = true := by
  simp only [TripStore.locate, BankIndex.slotOf, List.findSome?_eq_none_iff, Option.map_eq_none_iff,
    List.find?_eq_none, mem_allBanks, mem_allSlots, forall_true_left]

/-- A bank is busy while it is erased, its erase suspended, or a program runs in it (R144, check 4). -/
theorem TripStore.bankBusy_iff (t : TripStore) (b : Fin 4) :
    t.bankBusy b = true ↔ t.banks[b].state = .erasing ∨ t.banks[b].state = .eraseSuspended
      ∨ ∃ p, t.program = some p ∧ p.bank = b := by
  have hprograms : t.programsIn b = true ↔ ∃ p, t.program = some p ∧ p.bank = b := by
    unfold TripStore.programsIn
    cases t.program <;> simp
  simp only [TripStore.bankBusy, Bool.or_eq_true, beq_iff_eq, hprograms, or_assoc]

/-! ### The read (R144) -/

/-- The offsets of a read: its aligned group's, from its own offset around. -/
theorem burstBytes_eq (word : Nat → Word) (o l : Nat) :
    burstBytes word o l = (List.range 8).flatMap fun i =>
      bytes16 (word (o - o % l + (o - (o - o % l) + i) % l)) := by
  have hmod : o - (o - o % l) = o % l := by
    have := Nat.mod_le o l
    omega
  rw [burstBytes, burstOffsets, List.flatMap_map, hmod]

section Read

variable {r : Request} {s : State} {n3 n2 n1 n0 o1 o0 l : Byte}

/-- A TRIP_READ of the right form reads its number's record. -/
theorem exec_tripRead_args (hslot : s.link.slot = none) (hargs : r.args = [n3, n2, n1, n0, o1, o0, l])
    (hl : l = 8 ∨ l = 16) (ho : (be16 o1 o0).toNat < 2160) {a : AnswerCode} {data : List Byte}
    (hread : readRecord (be32 n3 n2 n1 n0) (be16 o1 o0).toNat l.toNat (requestTaken r s)
      = { state := requestTaken r s, answer := a, data := data }) :
    exec (.tripRead r) s = .next (answerPlaced 12 r a data (requestTaken r s)) := by
  have hlength : l.toNat = 8 ∨ l.toNat = 16 := by
    obtain rfl | rfl := hl
    · exact .inl rfl
    · exact .inr rfl
  have howner : tripRead r.args (requestTaken r s) = refuse a data (requestTaken r s) := by
    rw [hargs, tripRead, if_pos ⟨hlength, ho⟩, hread]
    rfl
  exact congrArg Host.Outcome.next (serve_refused hslot howner)

/-- The record of number 0 is the one in RAM (R122). -/
theorem readRecord_ram {n : DWord} (o m : Nat) {u : State} {x : TripRecord} (ha : u.store.activity ≠ .scanning)
    (hn : n = 0) (hx : u.recorder.ramRecord = some x) :
    readRecord n o m u = { state := u, answer := .ok, data := burstBytes x.word o m } := by
  simp only [readRecord, if_neg ha, if_pos hn, hx]

/-- Any other record is in the slot that carries its number. -/
theorem readRecord_slot {n : DWord} (o m : Nat) {u : State} {b : Fin 4} {k : Fin 8}
    (ha : u.store.activity ≠ .scanning) (hn : n ≠ 0) (hk : u.store.locate n = some (b, k))
    (hb : u.store.bankBusy b = false) :
    readRecord n o m u = { state := u, answer := .ok, data := burstBytes u.store.nv[b].slots[k].word o m } := by
  simp only [readRecord, if_neg ha, if_neg hn, hk, hb, Bool.false_eq_true, if_false]

end Read

/-- Settles O40: a read answers the group of the record it names, or the first refusal that holds. -/
theorem tripReadAnswersTheGroup : Obligations.TripReadAnswersTheGroup := by
  unfold Obligations.TripReadAnswersTheGroup
  refine ⟨?_, ?_, fun x => ?_⟩
  · intro r s n3 n2 n1 n0 o1 o0 l word hslot hargs hl ho ha hword
    have hactivity : (requestTaken r s).store.activity ≠ .scanning := by simpa using ha
    dsimp only
    rw [← burstBytes_eq]
    refine exec_tripRead_args hslot hargs hl ho ?_
    obtain ⟨hn, x, hx, rfl⟩ | ⟨hn, b, k, hk, hb, rfl⟩ := hword
    · exact readRecord_ram _ _ hactivity hn (by simpa using hx)
    · rw [readRecord_slot _ _ hactivity hn (by simpa using hk) (by simpa using hb)]
      simp
  · intro r s n3 n2 n1 n0 o1 o0 l hslot hargs hl ho n u carried
    have hstore : u.store = s.store := by simp [u]
    have hrecorder : u.recorder = s.recorder := by simp [u]
    have hcarries (b : Fin 4) (k : Fin 8) : u.store.banks[b].slots[k].carries n = true ↔ carried b k := by
      rw [hstore]
      exact SlotIndex.carries_iff _ n
    have hread {a : AnswerCode} (h : readRecord n (be16 o1 o0).toNat l.toNat u = refuse a [] u) :
        exec (.tripRead r) s = .next (answerPlaced 12 r a [] u) := exec_tripRead_args hslot hargs hl ho h
    rw [← hstore, ← hrecorder]
    refine ⟨fun ha => hread ?_, fun ha hn hx => hread ?_, fun ha hn hno => hread ?_,
      fun ha hn b k hk honly hbusy => hread ?_⟩
    · rw [readRecord, if_pos ha]
    · simp only [readRecord, if_neg ha, if_pos hn, hx]
    · have hnone : u.store.locate n = none := TripStore.locate_eq_none.mpr fun b k h => hno b k ((hcarries b k).mp h)
      simp only [readRecord, if_neg ha, if_neg hn, hnone]
    · cases hfound : u.store.locate n with
      | none => exact absurd ((hcarries b k).mpr hk) (TripStore.locate_eq_none.mp hfound b k)
      | some p =>
        obtain ⟨c, j⟩ := p
        obtain rfl : c = b := honly c j ((hcarries c j).mp (TripStore.locate_carries hfound))
        have hb : u.store.bankBusy c = true := (u.store.bankBusy_iff c).mpr hbusy
        simp only [readRecord, if_neg ha, if_neg hn, hfound, hb, if_true]
  · intro w
    have hlead {o : Nat} (h : o < 17) : w o = x.leadWords.getD o erasedWord := x.word_lead h
    have hpair {o : Nat} (h : o + 1 < 17) :
        w o ++ w (o + 1) = x.leadWords.getD o erasedWord ++ x.leadWords.getD (o + 1) erasedWord := by
      rw [hlead (by omega), hlead h]
    refine ⟨hlead (by omega), (hpair (by omega)).trans (extractLsb'_halves _),
      (hpair (by omega)).trans (extractLsb'_halves _), (hpair (by omega)).trans (extractLsb'_halves _),
      hlead (by omega), hlead (by omega), hlead (by omega), hlead (by omega), hlead (by omega), hlead (by omega),
      hlead (by omega), hlead (by omega), hlead (by omega), fun i hi => x.word_flags hi, x.word_version, x.word_level,
      x.word_channelState, x.word_stateRest, x.word_states.2.2, x.word_avg, x.word_completion, ?_,
      fun o => x.word_causeUnused, ?_, fun o => x.word_beyond⟩
    · intro k c hk hc v
      have hv {i : Nat} (hi : i < 8) : v i = c.words.getD i erasedWord := x.word_causeEntry hk hc hi
      have hhalves {i : Nat} (hi : i + 1 < 8) :
          v i ++ v (i + 1) = c.words.getD i erasedWord ++ c.words.getD (i + 1) erasedWord := by
        rw [hv (by omega), hv hi]
      exact ⟨(hv (by omega)).trans (count16_kind_source _ _),
        (hhalves (by omega)).trans (extractLsb'_halves _), (hhalves (by omega)).trans (extractLsb'_halves _),
        (hhalves (by omega)).trans (extractLsb'_halves _), hv (by omega)⟩
    · intro j y hy v
      have hv {i : Nat} (hi : i < 8) : v i = y.words.getD i erasedWord := x.word_snapshotEntry hy hi
      exact ⟨hv (by omega), hv (by omega), hv (by omega), hv (by omega), hv (by omega), hv (by omega), hv (by omega),
        hv (by omega)⟩

end Sys2Proof.Machine

/-! What the store can do: each end of an offer and of a choice of work, and each way a step can move the store.  The
laws of the store (O10, O11) and the ends of its work (O42 to O47) are taken case by case from these. -/

namespace Sys2Proof.Machine

/-! ### The next work (R140) -/

/-- A bank that takes a mark is not in the queue (R139, step 2). -/
theorem TripStore.markHolder_not_queued {t : TripStore} {a : Fin 4} (h : t.markHolder = some a) :
    t.queued a = false := by
  have hp := List.find?_some h
  simp only [Bool.and_eq_true, Bool.not_eq_true'] at hp
  exact hp.1.2

theorem TripStore.takeHead_plain {t : TripStore} {b : Fin 4} (h : t.banks[b].holds t.largestUsed = false)
    (rest : List (Fin 4)) : t.takeHead b rest = t.beginErase b rest := by
  rw [TripStore.takeHead, h, if_neg Bool.false_ne_true]

theorem TripStore.takeHead_heldBack {t : TripStore} {b : Fin 4} (h : t.banks[b].holds t.largestUsed = true)
    (hm : t.markHolder = none) (rest : List (Fin 4)) : t.takeHead b rest = t.goIdle := by
  rw [TripStore.takeHead, if_pos h, hm]

/-- The largest number goes to a mark as a missed retry's does. -/
theorem TripStore.takeHead_marked {t : TripStore} {b : Fin 4} (h : t.banks[b].holds t.largestUsed = true)
    (hm : t.markHolder.isSome = true) (rest : List (Fin 4)) :
    t.takeHead b rest = (t.markForRetry t.largestUsed).beginErase b rest := by
  obtain ⟨a, ha⟩ := Option.isSome_iff_exists.mp hm
  rw [TripStore.takeHead, if_pos h, TripStore.markForRetry, ha]

theorem TripStore.setBank_bank (t : TripStore) (b : Fin 4) (e : BankIndex) (a : Fin 4) :
    (t.setBank b e).banks[a] = if a = b then e else t.banks[a] := getElem_set_fin ..

/-- A suspended erase that resumes (R140, step 1). -/
theorem TripStore.resume_bank (t : TripStore) (b a : Fin 4) :
    (t.resume b).banks[a] = if a = b then { t.banks[b] with state := .erasing } else t.banks[a] := getElem_set_fin ..

/-- A bank whose erase begins keeps its slots in the index and loses its marks (R140, step 2). -/
theorem TripStore.beginErase_bank (t : TripStore) (b : Fin 4) (rest : List (Fin 4)) (a : Fin 4) :
    (t.beginErase b rest).banks[a]
      = if a = b then { t.banks[b] with state := .erasing, marks := [] } else t.banks[a] := getElem_set_fin ..

theorem TripStore.beginErase_nv (t : TripStore) (b : Fin 4) (rest : List (Fin 4)) (a : Fin 4) :
    (t.beginErase b rest).nv[a] = if a = b then
      { slots := Vector.ofFn fun k : Fin 8 => NvSlot.unknown (t.nextTag + k.val) [], stamp := none, marks := [] }
      else t.nv[a] := getElem_set_fin ..

/-- What the store can choose to do next (R140). -/
inductive WorkChoice (t : TripStore) : TripStore → Prop
  | worksOn (h : t.activity ≠ .idle) : WorkChoice t t
  | resumes (hi : t.activity = .idle) (b : Fin 4) (hb : t.banks[b].state = .eraseSuspended) : WorkChoice t (t.resume b)
  | erases (hi : t.activity = .idle) (hs : ∀ a : Fin 4, t.banks[a].state ≠ .eraseSuspended) (b : Fin 4)
      (rest : List (Fin 4)) (hq : t.queue = b :: rest) (m : TripStore) (hm : m = t ∨ m = t.markForRetry t.largestUsed) :
      WorkChoice t (m.beginErase b rest)
  | rests (hi : t.activity = .idle) (hs : ∀ a : Fin 4, t.banks[a].state ≠ .eraseSuspended) : WorkChoice t t.goIdle

theorem TripStore.suspended_eq_some {t : TripStore} {b : Fin 4} (h : t.suspended = some b) :
    t.banks[b].state = .eraseSuspended := by
  simpa using List.find?_some h

theorem TripStore.suspended_eq_none {t : TripStore} :
    t.suspended = none ↔ ∀ b : Fin 4, t.banks[b].state ≠ .eraseSuspended := by
  simp only [TripStore.suspended, List.find?_eq_none, mem_allBanks, forall_true_left, beq_iff_eq, ne_eq]

/-- A store at rest with a suspended erase resumes it (R140, step 1). -/
theorem TripStore.chooseWork_suspended {t : TripStore} (hi : t.activity = .idle) {b : Fin 4}
    (h : t.suspended = some b) : t.chooseWork = t.resume b := by
  simp only [TripStore.chooseWork, hi, h]

/-- One without takes up the head of its queue (R140, step 2). -/
theorem TripStore.chooseWork_queue {t : TripStore} (hi : t.activity = .idle)
    (hs : ∀ b : Fin 4, t.banks[b].state ≠ .eraseSuspended) {b : Fin 4} {rest : List (Fin 4)} (hq : t.queue = b :: rest) :
    t.chooseWork = t.takeHead b rest := by
  simp only [TripStore.chooseWork, hi, TripStore.suspended_eq_none.mpr hs, hq]

/-- One without a queue rests (R140, step 3). -/
theorem TripStore.chooseWork_empty {t : TripStore} (hi : t.activity = .idle)
    (hs : ∀ b : Fin 4, t.banks[b].state ≠ .eraseSuspended) (hq : t.queue = []) : t.chooseWork = t.goIdle := by
  simp only [TripStore.chooseWork, hi, TripStore.suspended_eq_none.mpr hs, hq]

/-- A store at work goes on with it (R140). -/
theorem TripStore.chooseWork_working {t : TripStore} (h : t.activity ≠ .idle) : t.chooseWork = t := by
  unfold TripStore.chooseWork
  split
  · next hi => exact absurd hi h
  all_goals rfl

theorem workChoice_chooseWork (t : TripStore) : WorkChoice t t.chooseWork := by
  by_cases hi : t.activity = .idle
  · cases hs : t.suspended with
    | some b =>
      rw [TripStore.chooseWork_suspended hi hs]
      exact .resumes hi b (TripStore.suspended_eq_some hs)
    | none =>
      have hs := TripStore.suspended_eq_none.mp hs
      cases hq : t.queue with
      | nil =>
        rw [TripStore.chooseWork_empty hi hs hq]
        exact .rests hi hs
      | cons b rest =>
        rw [TripStore.chooseWork_queue hi hs hq]
        cases hh : t.banks[b].holds t.largestUsed with
        | false =>
          rw [TripStore.takeHead_plain hh]
          exact .erases hi hs b rest hq t (.inl rfl)
        | true =>
          cases hm : t.markHolder with
          | none =>
            rw [TripStore.takeHead_heldBack hh hm]
            exact .rests hi hs
          | some a =>
            rw [TripStore.takeHead_marked hh (by rw [hm]; rfl)]
            exact .erases hi hs b rest hq _ (.inr rfl)
  · rw [TripStore.chooseWork_working hi]
    exact .worksOn hi

/-! ### An offer taken (R133 to R139) -/

/-- A record may be placed in a slot: its bank is OPEN or BLANK, and the slot is BLANK unless the whole bank is. -/
structure Placeable (t : TripStore) (b : Fin 4) (k : Fin 8) : Prop where
  bank : t.banks[b].state = .open ∨ t.banks[b].state = .blank
  slot : t.banks[b].state = .blank ∨ t.banks[b].slots[k].state = .blank

theorem BankIndex.lowestBlank_blank {e : BankIndex} {k : Fin 8} (h : e.lowestBlank = some k) :
    e.slots[k].state = .blank := by
  simpa using List.find?_some h

theorem TripStore.freeSlot_placeable {t : TripStore} {b : Fin 4} {k : Fin 8} (h : t.freeSlot b = some k) :
    Placeable t b k := by
  refine ⟨TripStore.freeSlot_open h, .inr ?_⟩
  unfold TripStore.freeSlot at h
  split at h
  · exact BankIndex.lowestBlank_blank h
  · exact absurd h nofun

theorem TripStore.selectNext_placeable {t : TripStore} {mode : StoreMode} {a b : Fin 4} {k : Fin 8}
    (h : t.selectNext mode a = .slot b k) : Placeable t b k := by
  have hbank := t.selectNext_sound mode a
  rw [h] at hbank
  refine ⟨hbank, ?_⟩
  unfold TripStore.selectNext at h
  split at h
  · exact absurd h nofun
  · split at h
    · next hs =>
      obtain ⟨rfl, rfl⟩ := Selection.slot.inj h
      exact .inl hs
    · split at h
      · next hk =>
        obtain ⟨rfl, rfl⟩ := Selection.slot.inj h
        exact .inr (BankIndex.lowestBlank_blank hk)
      · exact absurd h nofun
    · exact absurd h nofun
    · exact absurd h nofun
    · exact absurd h nofun
    · cases mode <;> exact absurd h nofun
    · exact absurd h nofun

/-- The slot a selection ends in (R134, R135). -/
theorem TripStore.select_placeable {t : TripStore} {mode : StoreMode} {b : Fin 4} {k : Fin 8}
    (h : t.select mode = .slot b k) : Placeable t b k := by
  unfold TripStore.select at h
  split at h
  · unfold TripStore.selectDuringEraseAll at h
    split at h
    · next hk =>
      obtain ⟨rfl, rfl⟩ := Selection.slot.inj h
      exact TripStore.freeSlot_placeable hk
    · split at h
      · next hb =>
        obtain ⟨rfl, rfl⟩ := Selection.slot.inj h
        have hblank := List.find?_some hb
        rw [Bool.and_eq_true, beq_iff_eq] at hblank
        exact ⟨.inr hblank.1, .inl hblank.1⟩
      · exact absurd h nofun
  · unfold TripStore.selectPlain at h
    split at h
    · next hk =>
      obtain ⟨rfl, rfl⟩ := Selection.slot.inj h
      exact TripStore.freeSlot_placeable hk
    · split at h
      · exact TripStore.selectNext_placeable h
      · exact absurd h nofun

/-- What a pending offer, taken through selection, can do to the store (R133 to R139). -/
inductive OfferTaken (s : State) : TripStore → Prop
  | stands : OfferTaken s s.store
  | placed (retry : Bool) (n : DWord) (b : Fin 4) (k : Fin 8) (ho : Offered retry n s) (he : ¬Exhausted retry s)
      (hs : Placeable s.store b k) : OfferTaken s (s.store.placed b k n retry)
  | queued (b : Fin 4) (count : Nat) (hq : s.store.queued b = false) :
      OfferTaken s { s.store with queue := s.store.queue ++ [b], overwritten := count }
  | missed (retry : Bool) (n next : DWord) (marks : Prop) [Decidable marks] (ho : Offered retry n s)
      (hn : next = s.store.nextNumber ∨ retry = false ∧ s.store.nextNumber ≠ 0 ∧ next = s.store.nextNumber + 1) :
      OfferTaken s (s.store.missedOffer n marks next)

theorem offerTaken_missed {s : State} {retry : Bool} {n : DWord} (ho : Offered retry n s)
    (hm : Exhausted retry s ∨ s.store.select (storeMode s) = .miss) : OfferTaken s (takeOffer s).store := by
  rw [takeOffer_missed ho hm]
  refine .missed retry n _ _ ho ?_
  by_cases hc : retry = false ∧ ¬Exhausted retry s ∧ s.store.markHolder.isSome = true
  · rw [if_pos hc]
    obtain ⟨hr, he, -⟩ := hc
    rw [← ho.2 hr]
    exact .inr ⟨hr, fun hz => he ⟨hr, ho.2 hr ▸ hz⟩, rfl⟩
  · rw [if_neg hc]
    exact .inl rfl

theorem offerTaken_of_offered {s : State} {retry : Bool} {n : DWord} (ho : Offered retry n s) :
    OfferTaken s (takeOffer s).store := by
  by_cases he : Exhausted retry s
  · exact offerTaken_missed ho (.inl he)
  · have hsound := s.store.select_sound (storeMode s)
    cases hx : s.store.select (storeMode s) with
    | slot b k =>
      rw [takeOffer_placed ho he, hx, endOffer_slot ho]
      exact .placed retry n b k ho he (TripStore.select_placeable hx)
    | wait =>
      rw [takeOffer_placed ho he, hx, endOffer_wait]
      exact .stands
    | queueErase b =>
      rw [hx] at hsound
      rw [takeOffer_placed ho he, hx, endOffer_queueErase hsound]
      exact .queued b s.store.overwritten hsound
    | queueOverwrite b =>
      rw [hx] at hsound
      rw [takeOffer_placed ho he, hx, endOffer_queueOverwrite hsound]
      exact .queued b _ hsound
    | miss => exact offerTaken_missed ho (.inr hx)

theorem offerTaken_takeOffer (s : State) : OfferTaken s (takeOffer s).store := by
  cases ho : s.store.offer with
  | none =>
    rw [takeOffer_none ho]
    exact .stands
  | newRecord => exact offerTaken_of_offered (retry := false) (n := s.store.nextNumber) ⟨ho, fun _ => rfl⟩
  | retry n => exact offerTaken_of_offered (retry := true) (n := n) ⟨ho, nofun⟩

/-! ### Pre-erase (R141) -/

/-- Pre-erase leaves the store, or puts one more bank in the queue. -/
inductive PreErased (t : TripStore) : TripStore → Prop
  | stands : PreErased t t
  | queued (b : Fin 4) (count : Nat) (hq : t.queued b = false) :
      PreErased t { t with queue := t.queue ++ [b], overwritten := count }

theorem preErased_preErase (s : State) : PreErased s.store (preErase s).store := by
  unfold preErase
  split
  · split
    · exact .stands
    · split
      · exact .stands
      · next hq =>
        have hq := Bool.eq_false_of_not_eq_true hq
        have hover (b : Fin 4) (h : s.store.queued b = false) : PreErased s.store (queueOverwrite b s).store := by
          rw [queueOverwrite_store, TripStore.join_of_not_queued h]
          exact .queued b _ h
        split
        · exact hover _ hq
        · exact hover _ hq
        · rw [TripStore.join_of_not_queued hq]
          exact .queued _ s.store.overwritten hq
        · exact .stands
  · exact .stands

/-! ### Every step -/

/-- What a step can do to the store: nothing, or the one piece of store work that its command brings. -/
inductive StoreMove : TripStore → TripStore → Prop
  | stands (t : TripStore) : StoreMove t t
  | flagsCleared (t : TripStore) : StoreMove t { t with programFail := false, eraseFail := false }
  | offered (s : State) : StoreMove s.store (offerRecord s).store
  | trimmed (t : TripStore) (b : Fin 4) (h : t.activity = .idle) : StoreMove t (t.join b).chooseWork
  | erasedAll (t : TripStore) (h : t.activity = .idle) :
      StoreMove t (TripStore.chooseWork { t with queue := t.queue ++ t.toErase, eraseAll := true })
  | checked (t : TripStore) (b : Fin 4) (h : t.activity = .idle) : StoreMove t (t.beginCheck b)
  | scanEnded (s : State) (h : s.store.activity = .scanning) : StoreMove s.store (endScan s).store
  | programEnded (s : State) (took : Bool) (p : Program) (h : s.store.activity = .programming)
      (hp : s.store.program = some p) : StoreMove s.store (endProgram took p s).store
  | eraseEnded (s : State) (verified : Bool) (b : Fin 4) (h : s.store.activity = .erasing)
      (hb : s.store.busy = some b) : StoreMove s.store (endErase verified b s).store
  | checkEnded (s : State) (b : Fin 4) (h : s.store.activity = .blankChecking) (hb : s.store.busy = some b) :
      StoreMove s.store (endBlankCheck b s).store
  | reset (t : TripStore) : StoreMove t (TripStore.afterReset t.nv t.nextTag)

namespace StoreMove

variable {s t : State}

theorem of_eq (h : t.store = s.store := by simp) : StoreMove s.store t.store := by
  rw [h]
  exact .stands _

theorem statusClear (args : List Byte) (s : State) : StoreMove s.store (statusClear args s).state.store := by
  cases args with
  | nil => exact .flagsCleared _
  | cons _ _ => exact .stands _

theorem storeTrim (args : List Byte) (s : State) : StoreMove s.store (storeTrim args s).state.store := by
  unfold Machine.storeTrim
  (repeat' split)
  · exact .stands _
  · next hidle _ b _ => exact .trimmed _ b hidle
  all_goals exact .stands _

theorem storeEraseAll (args : List Byte) (s : State) : StoreMove s.store (storeEraseAll args s).state.store := by
  unfold Machine.storeEraseAll
  (repeat' split)
  · exact .stands _
  · next hidle =>
    unfold eraseAllBanks
    dsimp only
    split
    · exact .stands _
    · exact .erasedAll _ hidle
  all_goals exact .stands _

theorem storeBlankCheck (args : List Byte) (s : State) : StoreMove s.store (storeBlankCheck args s).state.store := by
  have hcheck (b : Fin 4) : StoreMove s.store (checkBank b s).state.store := by
    unfold checkBank
    (repeat' split)
    · exact .stands _
    · exact .stands _
    · next hidle => exact .checked _ b hidle
    · exact .stands _
  unfold Machine.storeBlankCheck
  (repeat' split)
  · exact hcheck _
  · exact .stands _
  · exact .stands _

/-- Of the requests, STATUS_CLEAR and three of the store's own reach the store (R184). -/
theorem requestOwner (code : Byte) (args : List Byte) (s : State) :
    StoreMove s.store (requestOwner code args s).state.store := by
  show (fun f : State → Reply => StoreMove s.store (f s).state.store) (Machine.requestOwner code args)
  unfold Machine.requestOwner
  split
  · exact .of_eq (by cases args <;> rfl)
  · exact statusClear args s
  · exact .of_eq (by simp only [Machine.restart, refuse]; (repeat' split) <;> simp)
  · exact .of_eq (by simp only [tableOpen, openTable, refuse]; (repeat' split) <;> simp)
  · exact .of_eq (by simp only [tableWrite, writeTable, refuse]; (repeat' split) <;> simp)
  · exact .of_eq (by simp only [tableCommit, commitBuffer, refuse]; (repeat' split) <;> simp)
  · exact .of_eq (by simp only [tableAbort, refuse]; (repeat' split) <;> simp)
  · exact .of_eq (by simp only [tableRead, readTable, refuse]; (repeat' split) <;> simp)
  · exact .of_eq (by simp only [lockSet, refuse]; (repeat' split) <;> simp)
  · exact .of_eq (by simp only [lockClear, refuse]; (repeat' split) <;> simp)
  · exact .of_eq (by simp only [tripReset, refuse]; (repeat' split) <;> simp)
  · exact .of_eq (by simp only [tripRead, readRecord, refuse]; (repeat' split) <;> simp)
  · exact storeTrim args s
  · exact storeEraseAll args s
  · exact storeBlankCheck args s
  · exact .of_eq (by simp only [storeStatus, refuse]; (repeat' split) <;> simp)
  · exact .of_eq (by cases args <;> simp [eventRead, refuse])
  · exact .of_eq (by simp only [eventMark, refuse]; (repeat' split) <;> simp)
  · exact .of_eq (by simp only [vibRestart, vibRestartChannel, refuse]; (repeat' split) <;> simp)
  · exact .stands _

theorem serve (code : Byte) (r : Request) (s : State) :
    StoreMove s.store (serve code r (Machine.requestOwner code r.args) s).store := by
  cases hslot : s.link.slot with
  | none =>
    have howner := requestOwner code r.args (acceptFrame .S 0 r.seq s)
    simp only [acceptFrame_frame] at howner
    rw [serve_answered _ _ _ _ hslot]
    exact howner
  | some a =>
    rw [serve_overrun _ _ _ _ a hslot]
    exact .of_eq

/-- A frozen record is offered; the recorder reaches the store in no other way (R119, R120). -/
theorem freeze (reason : PostReason) (s : State) : StoreMove s.store (freeze reason s).store :=
  .offered { s with recorder := { s.recorder with
    state := .frozen, postTimer := .stopped, ramRecord := some (assembleRecord reason s) } }

theorem takeSnapshot (s : State) : StoreMove s.store (takeSnapshot s).store := by
  cases hs : s.recorder.state with
  | armed =>
    rw [takeSnapshot_armed hs]
    exact .stands _
  | post =>
    rw [takeSnapshot_post hs]
    split
    · have hfreeze := freeze .target (postAppended s)
      rwa [(postAppended_frame s).1] at hfreeze
    · exact .of_eq (postAppended_frame s).1
  | frozen => rw [takeSnapshot_closed (.inl hs)]; exact .stands _
  | writing => rw [takeSnapshot_closed (.inr (.inl hs))]; exact .stands _
  | done => rw [takeSnapshot_closed (.inr (.inr hs))]; exact .stands _

/-- An arrival reaches the store with the snapshot that ends its record (R52, R117). -/
theorem arrivalEnd (m : Motor) (f : FeedbackFrame) (s : State) : StoreMove s.store (arrivalEnd m f s).store := by
  have hpace (formed : Bool) (u : State) : StoreMove u.store (paceWork formed u).store := by
    have hgathered : (if formed then gatherTorque u else u).store = u.store := by split <;> simp
    simpa only [paceWork, reportAtArrival_frame, hgathered] using
      takeSnapshot (if formed then gatherTorque u else u)
  have hanswer : (answerFrame m (Machine.arrivalTorque m f s)).store = s.store := by
    simp only [answerFrame_frame, Machine.arrivalTorque]
    split <;> simp
  unfold Machine.arrivalEnd
  split
  · have hp := hpace (isPace m s && energised (arrivalStart m f s)) (answerFrame m (Machine.arrivalTorque m f s))
    rwa [hanswer] at hp
  · exact .of_eq hanswer

theorem execSetpoint {seq : Seq} {mode flags : Byte} {q : Word} {u : DWord}
    (he : execSetpoint seq mode flags q u s = .next t) : StoreMove s.store t.store := by
  obtain rfl := Host.Outcome.next.inj he
  exact .of_eq

theorem execVibSample {c : Fin 6} {seq : Seq} {x : Vector Word 8} (he : execVibSample c seq x s = .next t) :
    StoreMove s.store t.store := by
  unfold Machine.execVibSample at he
  dsimp only at he
  split at he <;> obtain rfl := Host.Outcome.next.inj he <;> exact .of_eq

theorem execPosition {seq : Seq} {a : Word} (he : execPosition seq a s = .next t) : StoreMove s.store t.store := by
  unfold Machine.execPosition at he
  dsimp only at he
  split at he <;> obtain rfl := Host.Outcome.next.inj he <;> exact .of_eq

/-- A refused frame is counted; one that passes the checks is taken as the arrival it is (R178). -/
theorem execRefusedFrame {p : Port} {bytes : List Byte} (he : execRefusedFrame p bytes s = .next t) :
    StoreMove s.store t.store := by
  unfold Machine.execRefusedFrame at he
  split at he
  · obtain rfl := Host.Outcome.next.inj he
    exact .of_eq
  · next a _ _ =>
    cases a with
    | setpoint seq mode flags q u => exact execSetpoint he
    | request code r =>
      obtain rfl := Host.Outcome.next.inj he
      exact serve code r s
    | feedback m f =>
      obtain rfl := Host.Outcome.next.inj ((exec_feedback m f s).symm.trans he)
      exact arrivalEnd m f s
    | vibSample c seq x => exact execVibSample he
    | position seq a => exact execPosition he
  · obtain rfl := Host.Outcome.next.inj he
    exact .stands _

/-- The timers of run controller, torque limiter and regulators leave the store alone. -/
theorem driveTimers :
    (execBrkTimeExpiry s = .next t → t.store = s.store) ∧ (execBrkRestExpiry s = .next t → t.store = s.store)
      ∧ (execStopTimeExpiry s = .next t → t.store = s.store) ∧ (execStallTimerExpiry s = .next t → t.store = s.store)
      ∧ (execSetpointTimerExpiry s = .next t → t.store = s.store)
      ∧ ∀ m, execFeedbackTimerExpiry m s = .next t → t.store = s.store := by
  refine ⟨fun he => ?_, fun he => ?_, fun he => ?_, fun he => ?_, fun he => ?_, fun m he => ?_⟩
  · unfold execBrkTimeExpiry at he
    split at he <;> obtain rfl := Host.Outcome.next.inj he
    · rfl
    · dsimp only
      split <;> simp
  · unfold execBrkRestExpiry at he
    split at he <;> obtain rfl := Host.Outcome.next.inj he <;> simp
  · unfold execStopTimeExpiry at he
    split at he <;> obtain rfl := Host.Outcome.next.inj he <;> simp
  · unfold execStallTimerExpiry at he
    split at he <;> obtain rfl := Host.Outcome.next.inj he <;> simp
  · unfold execSetpointTimerExpiry at he
    split at he <;> obtain rfl := Host.Outcome.next.inj he <;> simp
  · unfold execFeedbackTimerExpiry at he
    split at he <;> obtain rfl := Host.Outcome.next.inj he
    · rfl
    · split <;> simp

/-- The silence of a channel, and the ends of a pulse and of a position, leave the store alone. -/
theorem quietTimers :
    (∀ c, execSilenceTimerExpiry c s = .next t → t.store = s.store)
      ∧ (execPositionTimerExpiry s = .next t → t.store = s.store)
      ∧ (execPulseTimerExpiry s = .next t → t.store = s.store) := by
  refine ⟨fun c he => ?_, fun he => ?_, fun he => ?_⟩
  · unfold execSilenceTimerExpiry at he
    split at he <;> obtain rfl := Host.Outcome.next.inj he <;> simp
  · unfold execPositionTimerExpiry at he
    split at he <;> obtain rfl := Host.Outcome.next.inj he <;> simp
  · unfold execPulseTimerExpiry at he
    split at he <;> obtain rfl := Host.Outcome.next.inj he <;> simp

theorem execPostLimitExpiry (he : execPostLimitExpiry s = .next t) : StoreMove s.store t.store := by
  unfold Machine.execPostLimitExpiry at he
  split at he <;> obtain rfl := Host.Outcome.next.inj he
  · exact .stands _
  · exact freeze .limit s

/-- The ends of the store's work (R131, R137, R142, R147). -/
theorem storeEnds :
    (execScanEnd s = .next t → StoreMove s.store t.store)
      ∧ (∀ x, execProgramCompletion x s = .next t → StoreMove s.store t.store)
      ∧ (∀ x, execEraseCompletion x s = .next t → StoreMove s.store t.store)
      ∧ (execBlankCheckCompletion s = .next t → StoreMove s.store t.store) := by
  refine ⟨fun he => ?_, fun x he => ?_, fun x he => ?_, fun he => ?_⟩
  · unfold execScanEnd at he
    split at he <;> obtain rfl := Host.Outcome.next.inj he
    · next ha => exact .scanEnded s ha
    all_goals exact .stands _
  · unfold execProgramCompletion at he
    split at he <;> obtain rfl := Host.Outcome.next.inj he
    · next ha hp => exact .programEnded s x _ ha hp
    · exact .stands _
  · unfold execEraseCompletion at he
    split at he <;> obtain rfl := Host.Outcome.next.inj he
    · next ha hb => exact .eraseEnded s x _ ha hb
    · exact .stands _
  · unfold execBlankCheckCompletion at he
    split at he <;> obtain rfl := Host.Outcome.next.inj he
    · next ha hb => exact .checkEnded s _ ha hb
    · exact .stands _

theorem exec (i : Instr) (he : exec i s = .next t) : StoreMove s.store t.store := by
  obtain ⟨hbrk, hrest, hstop, hstall, hset, hfb⟩ := driveTimers (s := s) (t := t)
  obtain ⟨hsilence, hpos, hpulse⟩ := quietTimers (s := s) (t := t)
  obtain ⟨hscan, hprogram, herase, hcheck⟩ := storeEnds (s := s) (t := t)
  cases hr : Laws.requestParts i with
  | some p =>
    obtain rfl := Host.Outcome.next.inj ((exec_request hr s).symm.trans he)
    exact serve p.1 p.2 s
  | none =>
    cases i with
    | setpoint seq mode flags q u => exact execSetpoint he
    | feedback m f =>
      obtain rfl := Host.Outcome.next.inj ((exec_feedback m f s).symm.trans he)
      exact arrivalEnd m f s
    | vibSample c seq x => exact execVibSample he
    | position seq a => exact execPosition he
    | refusedFrame p bytes => exact execRefusedFrame he
    | hardwareReset =>
      obtain rfl := Host.Outcome.next.inj he
      exact .reset _
    | lockLineChange asserted =>
      obtain rfl := Host.Outcome.next.inj he
      exact .stands _
    | brkTimeExpiry => exact .of_eq (hbrk he)
    | brkRestExpiry => exact .of_eq (hrest he)
    | stopTimeExpiry => exact .of_eq (hstop he)
    | stallTimerExpiry => exact .of_eq (hstall he)
    | setpointTimerExpiry => exact .of_eq (hset he)
    | feedbackTimerExpiry m => exact .of_eq (hfb m he)
    | silenceTimerExpiry c => exact .of_eq (hsilence c he)
    | positionTimerExpiry => exact .of_eq (hpos he)
    | postLimitExpiry => exact execPostLimitExpiry he
    | pulseTimerExpiry => exact .of_eq (hpulse he)
    | scanEnd => exact hscan he
    | programCompletion took => exact hprogram took he
    | eraseCompletion verified => exact herase verified he
    | blankCheckCompletion => exact hcheck he
    | transmissionEnd =>
      obtain rfl := Host.Outcome.next.inj he
      exact .stands _
    | vcmdTransmissionEnd m =>
      obtain rfl := Host.Outcome.next.inj he
      exact .stands _
    | _ => simp [Laws.requestParts] at hr

theorem step (he : step s = .next t) : StoreMove s.store t.store := by
  unfold Machine.step at he
  split at he
  · obtain rfl := Host.Outcome.next.inj he
    exact .stands _
  · next c rest _ => exact exec (s := s.withPending rest) c he

end StoreMove

end Sys2Proof.Machine

/-! The store law (O10): at most one bank is programmed or erased, and the index agrees with itself.  A store at work on
no record is `Settled`: it satisfies the law but for an erase that waits, at the end of a program, to be resumed. -/

namespace Sys2Proof.Machine

/-! ### A bank of the index (R127 to R129) -/

/-- The number of VALID slots. -/
def validSlots (v : Vector SlotIndex 8) : Nat := (v.toList.filter fun x => x.state == .valid).length

/-- A bank agrees with itself: BLANK, OPEN and FULL follow from its slots, its VALID count is their number. -/
structure BankLaw (e : BankIndex) : Prop where
  derived : e.state.fromSlots = true → e.state = stateFromSlots e.slots
  valid : e.validCount = validSlots e.slots

theorem StoreLaw.bankLaw {t : TripStore} (h : StoreLaw t) (b : Fin 4) : BankLaw t.banks[b] :=
  ⟨h.derived b, h.valid b⟩

theorem BankLaw.of_same {e e' : BankIndex} (h : BankLaw e) (hslots : e'.slots = e.slots)
    (hcount : e'.validCount = e.validCount) (hstate : e'.state.fromSlots = true → e'.state = e.state) : BankLaw e' := by
  refine ⟨fun hs => ?_, by rw [hcount, hslots]; exact h.valid⟩
  have hst := hstate hs
  rw [hslots, hst]
  exact h.derived (hst ▸ hs)

theorem stateFromSlots_fromSlots (v : Vector SlotIndex 8) : (stateFromSlots v).fromSlots = true := by
  unfold stateFromSlots
  (repeat' split) <;> rfl

/-- A slot that changes (R128). -/
theorem BankIndex.setSlot_eq (e : BankIndex) (k : Fin 8) (x : SlotIndex) :
    e.setSlot k x = { e with
      slots := e.slots.set k x
      state := if e.state.fromSlots = true then stateFromSlots (e.slots.set k x) else e.state } := by
  unfold BankIndex.setSlot BankIndex.recomputed
  dsimp only
  split <;> next h => rw [h]; rfl

/-- The states that do not follow from the slots stand. -/
theorem BankIndex.setSlot_state_iff {st : BankState} (hst : st.fromSlots = false) {e : BankIndex} {k : Fin 8}
    {x : SlotIndex} : (e.setSlot k x).state = st ↔ e.state = st := by
  rw [BankIndex.setSlot_eq]
  dsimp only
  split
  · next hf =>
    have hnew := stateFromSlots_fromSlots (e.slots.set k x)
    exact iff_of_false (fun h => by rw [h, hst] at hnew; exact absurd hnew nofun)
      fun h => by rw [h, hst] at hf; exact absurd hf nofun
  · exact .rfl

/-- A slot that takes another state moves the VALID count with it. -/
theorem validSlots_set (v : Vector SlotIndex 8) (k : Fin 8) (x : SlotIndex) :
    validSlots (v.set k x) + (if v[k].state = .valid then 1 else 0)
      = validSlots v + (if x.state = .valid then 1 else 0) := by
  have hk : (k : Nat) < v.toList.length := by simp
  have hpos : v[k].state = .valid → 0 < v.toList.countP fun x => x.state == .valid := fun h =>
    List.countP_pos_iff.mpr ⟨v[k], by simp, by simpa using h⟩
  have hset := List.countP_set (p := fun x : SlotIndex => x.state == .valid) (l := v.toList) (i := k) (a := x) hk
  have hget : v.toList[(k : Nat)] = v[k] := by simp
  simp only [hget, beq_iff_eq] at hset
  simp only [validSlots, ← List.countP_eq_length_filter, Vector.toList_set, hset]
  by_cases hv : v[k].state = .valid
  · have := hpos hv
    simp only [if_pos hv]
    omega
  · simp only [if_neg hv]
    omega

/-- A bank agrees with itself after a slot has changed, where the VALID count goes with the slot. -/
theorem BankLaw.setSlot {e : BankIndex} (h : BankLaw e) (k : Fin 8) (x : SlotIndex) {count : Nat}
    (hc : count + (if e.slots[k].state = .valid then 1 else 0) = e.validCount + (if x.state = .valid then 1 else 0)) :
    BankLaw { e.setSlot k x with validCount := count } := by
  rw [BankIndex.setSlot_eq]
  constructor
  · intro hs
    by_cases hf : e.state.fromSlots = true
    · simp only [if_pos hf]
    · simp only [if_neg hf] at hs
      exact absurd hs hf
  · have hset := validSlots_set e.slots k x
    have hvalid := h.valid
    show count = validSlots (e.slots.set k x)
    omega

/-! ### A store that programs no record -/

/-- No record is in flight, and the index agrees with itself; an erase may still be suspended in IDLE, where the next
choice of work resumes it (R136, R140). -/
structure Settled (t : TripStore) : Prop where
  program : t.program = none
  activity : t.activity ≠ .programming
  erasing : ∀ b : Fin 4, t.banks[b].state = .erasing ↔ t.activity = .erasing ∧ t.busy = some b
  bank : t.activity = .erasing ∨ t.activity = .blankChecking → t.busy.isSome = true
  still : t.activity = .idle ∨ t.activity = .scanning → t.busy = none
  awaits : ∀ b : Fin 4, t.banks[b].state = .eraseSuspended → t.activity = .idle
  single : ∀ b c : Fin 4, t.banks[b].state = .eraseSuspended → t.banks[c].state = .eraseSuspended → b = c
  queue : t.queue.Nodup
  banks : ∀ b : Fin 4, BankLaw t.banks[b]
  unwritten : ∀ (b : Fin 4) (k : Fin 8), t.banks[b].slots[k].state ≠ .writing

theorem StoreLaw.no_program {t : TripStore} (h : StoreLaw t) (ha : t.activity ≠ .programming) : t.program = none := by
  simpa [ha] using h.flight

theorem StoreLaw.settled {t : TripStore} (h : StoreLaw t) (ha : t.activity ≠ .programming) : Settled t where
  program := h.no_program ha
  activity := ha
  erasing := h.erasing
  bank := h.bank
  still := h.still
  awaits b hb := absurd (h.suspended b hb) ha
  single := h.single
  queue := h.queue
  banks := h.bankLaw
  unwritten b k hw := by
    obtain ⟨p, hp, -⟩ := h.only b k hw
    rw [h.no_program ha] at hp
    exact absurd hp nofun

theorem Settled.storeLaw {t : TripStore} (h : Settled t) (hs : ∀ b : Fin 4, t.banks[b].state ≠ .eraseSuspended) :
    StoreLaw t where
  flight := by simp [h.program, h.activity]
  slot p hp := absurd (h.program.symm.trans hp) nofun
  only b k hw := absurd hw (h.unwritten b k)
  erasing := h.erasing
  bank := h.bank
  still := h.still
  suspended b hb := absurd hb (hs b)
  single := h.single
  queue := h.queue
  derived b := (h.banks b).derived
  valid b := (h.banks b).valid

/-- An idle store is settled where its banks agree with themselves, none erases, and at most one waits to. -/
theorem settled_of_idle {t : TripStore} (hp : t.program = none) (ha : t.activity = .idle) (hb : t.busy = none)
    (hq : t.queue.Nodup) (hbanks : ∀ b : Fin 4, BankLaw t.banks[b])
    (hw : ∀ (b : Fin 4) (k : Fin 8), t.banks[b].slots[k].state ≠ .writing)
    (he : ∀ b : Fin 4, t.banks[b].state ≠ .erasing)
    (hs : ∀ b c : Fin 4, t.banks[b].state = .eraseSuspended → t.banks[c].state = .eraseSuspended → b = c) :
    Settled t where
  program := hp
  activity := by simp [ha]
  erasing b := iff_of_false (he b) fun h => absurd (ha.symm.trans h.1) nofun
  bank h := by simp [ha] at h
  still _ := hb
  awaits _ _ := ha
  single := hs
  queue := hq
  banks := hbanks
  unwritten := hw

/-- The law of a settled store reads work, queue, and of each bank the state, the slots and the VALID count. -/
theorem Settled.of_same {t u : TripStore} (h : Settled t) (hp : u.program = t.program) (ha : u.activity = t.activity)
    (hb : u.busy = t.busy) (hq : u.queue = t.queue)
    (hbanks : ∀ a : Fin 4, u.banks[a].state = t.banks[a].state ∧ u.banks[a].slots = t.banks[a].slots
      ∧ u.banks[a].validCount = t.banks[a].validCount) : Settled u where
  program := hp.trans h.program
  activity := ha ▸ h.activity
  erasing a := by rw [(hbanks a).1, ha, hb]; exact h.erasing a
  bank := by rw [ha, hb]; exact h.bank
  still := by rw [ha, hb]; exact h.still
  awaits a := by rw [(hbanks a).1, ha]; exact h.awaits a
  single a c := by rw [(hbanks a).1, (hbanks c).1]; exact h.single a c
  queue := hq ▸ h.queue
  banks a := (h.banks a).of_same (hbanks a).2.1 (hbanks a).2.2 fun _ => (hbanks a).1
  unwritten a k := by rw [(hbanks a).2.1]; exact h.unwritten a k

/-- The store law, or a settled store: what an end of work leaves for the choice of the next (R140). -/
def IndexLaw (t : TripStore) : Prop := StoreLaw t ∨ Settled t

theorem nodup_append_of_not_queued {t : TripStore} (h : t.queue.Nodup) {b : Fin 4} (hb : t.queued b = false) :
    (t.queue ++ [b]).Nodup := by
  have hnot : b ∉ t.queue := by simpa [TripStore.queued] using hb
  exact List.nodup_append.mpr ⟨h, List.nodup_singleton b, fun a ha c hc hac =>
    hnot (List.mem_singleton.mp hc ▸ hac ▸ ha)⟩

theorem Settled.queueOne {t : TripStore} (h : Settled t) {b : Fin 4} (hb : t.queued b = false) (count : Nat) :
    Settled { t with queue := t.queue ++ [b], overwritten := count } :=
  { h with queue := nodup_append_of_not_queued h.queue hb }

theorem StoreLaw.queueOne {t : TripStore} (h : StoreLaw t) {b : Fin 4} (hb : t.queued b = false) (count : Nat) :
    StoreLaw { t with queue := t.queue ++ [b], overwritten := count } :=
  { h with queue := nodup_append_of_not_queued h.queue hb }

theorem StoreLaw.join {t : TripStore} (h : StoreLaw t) (b : Fin 4) : StoreLaw (t.join b) := by
  cases hq : t.queued b with
  | true => rwa [TripStore.join, if_pos hq]
  | false =>
    rw [TripStore.join_of_not_queued hq]
    exact h.queueOne hq t.overwritten

/-! ### Marks and misses (R139) -/

/-- A number mark leaves of every bank what the law reads. -/
theorem TripStore.markForRetry_same (t : TripStore) (n : DWord) (a : Fin 4) :
    (t.markForRetry n).banks[a].state = t.banks[a].state ∧ (t.markForRetry n).banks[a].slots = t.banks[a].slots
      ∧ (t.markForRetry n).banks[a].validCount = t.banks[a].validCount := by
  rw [TripStore.markForRetry_bank]
  split <;> exact ⟨rfl, rfl, rfl⟩

theorem Settled.markForRetry {t : TripStore} (h : Settled t) (n : DWord) : Settled (t.markForRetry n) := by
  have hsame := t.markForRetry_same n
  obtain ⟨nv, banks, hm⟩ := t.markForRetry_frame n
  exact h.of_same (by rw [hm]) (by rw [hm]) (by rw [hm]) (by rw [hm]) hsame

theorem TripStore.missedOffer_same (t : TripStore) (n : DWord) (marks : Prop) [Decidable marks] (next : DWord)
    (a : Fin 4) :
    (t.missedOffer n marks next).banks[a].state = t.banks[a].state
      ∧ (t.missedOffer n marks next).banks[a].slots = t.banks[a].slots
      ∧ (t.missedOffer n marks next).banks[a].validCount = t.banks[a].validCount := by
  rw [(t.missedOffer_marks n marks next a).2]
  split <;> exact ⟨rfl, rfl, rfl⟩

theorem Settled.missedOffer {t : TripStore} (h : Settled t) (n : DWord) (marks : Prop) [Decidable marks]
    (next : DWord) : Settled (t.missedOffer n marks next) := by
  have hsame := t.missedOffer_same n marks next
  have hframe := t.missedOffer_frame n marks next
  exact h.of_same (by rw [hframe]) (by rw [hframe]) (by rw [hframe]) (by rw [hframe]) hsame

/-! ### A program begins (R136) -/

/-- In a settled store a selected slot is BLANK (R128). -/
theorem Settled.placeable_blank {t : TripStore} (h : Settled t) {b : Fin 4} {k : Fin 8} (hs : Placeable t b k) :
    t.banks[b].slots[k].state = .blank := by
  obtain hb | hk := hs.slot
  · have hd := (h.banks b).derived (by rw [hb]; rfl)
    rw [hb] at hd
    unfold stateFromSlots at hd
    split at hd
    · next hall => simpa using List.all_eq_true.mp hall t.banks[b].slots[k] (by simp)
    · split at hd <;> exact absurd hd nofun
  · exact hk

/-- The bank whose erase runs is none that a record may be placed in. -/
theorem Settled.placeable_not_busy {t : TripStore} (h : Settled t) {b : Fin 4} {k : Fin 8} (hs : Placeable t b k) :
    t.activity = .erasing → t.busy ≠ some b := by
  intro ha hb
  have he := (h.erasing b).mpr ⟨ha, hb⟩
  obtain hs | hs := hs.bank <;> exact absurd (he.symm.trans hs) nofun

/-- At most the erase that ran is suspended. -/
theorem Settled.placed_suspended {t : TripStore} (h : Settled t) {b : Fin 4} {k : Fin 8} (hs : Placeable t b k)
    (n : DWord) (retry : Bool) {a : Fin 4} (ha : (t.placed b k n retry).banks[a].state = .eraseSuspended) :
    (t.activity = .erasing ∧ t.busy = some a) ∨ (t.activity ≠ .erasing ∧ t.banks[a].state = .eraseSuspended) := by
  by_cases hab : a = b
  · subst hab
    rw [TripStore.placed_target_state n retry hs.bank (h.placeable_not_busy hs)] at ha
    split at ha <;> exact absurd ha nofun
  · rw [TripStore.placed_other_state n retry hab] at ha
    split at ha
    · next he => exact .inl he
    · exact .inr ⟨fun he => absurd (he.symm.trans (h.awaits a ha)) nofun, ha⟩

theorem Settled.placed {t : TripStore} (h : Settled t) {b : Fin 4} {k : Fin 8} (hs : Placeable t b k) (n : DWord)
    (retry : Bool) : StoreLaw (t.placed b k n retry) := by
  have hbusy := h.placeable_not_busy hs
  have hblank := h.placeable_blank hs
  have htarget := TripStore.placed_target (k := k) n retry hs.bank hbusy
  have hslot := TripStore.placed_target_slot (k := k) n retry hs.bank hbusy
  have hframe := t.placed_frame b k n retry
  have hactivity : (t.placed b k n retry).activity = .programming := by rw [hframe]
  have hprogram : (t.placed b k n retry).program = some ⟨b, k, n, retry⟩ := by rw [hframe]
  have hqueue : (t.placed b k n retry).queue = t.queue := by rw [hframe]
  have hnow : (t.placed b k n retry).busy = some b := by rw [hframe]
  have hother {a : Fin 4} (ha : a ≠ b) : BankLaw (t.placed b k n retry).banks[a] := by
    rw [TripStore.placed_bank, if_neg ha, TripStore.suspendErase_bank]
    split
    · exact (h.banks a).of_same rfl rfl nofun
    · exact h.banks a
  have hlaw (a : Fin 4) : BankLaw (t.placed b k n retry).banks[a] := by
    by_cases ha : a = b
    · subst ha
      have hput := (h.banks a).setSlot k { state := .writing, number := some n } (count := t.banks[a].validCount)
        (by rw [hblank]; rfl)
      rw [BankIndex.setSlot_recomputed hs.bank] at hput
      rwa [htarget]
    · exact hother ha
  refine ⟨?_, ?_, ?_, ?_, ?_, ?_, fun a _ => hactivity, ?_, hqueue ▸ h.queue, fun a => (hlaw a).derived,
    fun a => (hlaw a).valid⟩
  · simp [hprogram, hactivity]
  · intro p hp
    obtain rfl := Option.some.inj (hprogram.symm.trans hp)
    refine ⟨hnow, ?_, hslot⟩
    rw [htarget]
    exact stateFromSlots_fromSlots _
  · intro a j hw
    by_cases hplace : a ≠ b ∨ j ≠ k
    · rw [(TripStore.placed_other_slot n retry hs.bank hbusy hplace).1] at hw
      exact absurd hw (h.unwritten a j)
    · rw [not_or, not_not, not_not] at hplace
      exact ⟨_, hprogram, hplace.1.symm, hplace.2.symm⟩
  · intro a
    refine iff_of_false (fun he => ?_) fun he => absurd (hactivity.symm.trans he.1) nofun
    by_cases ha : a = b
    · subst ha
      rw [TripStore.placed_target_state n retry hs.bank hbusy] at he
      split at he <;> exact absurd he nofun
    · rw [TripStore.placed_other_state n retry ha] at he
      split at he
      · exact absurd he nofun
      · next hno => exact hno ((h.erasing a).mp he)
  · rw [hactivity]
    exact fun hor => absurd hor (by decide)
  · rw [hactivity]
    exact fun hor => absurd hor (by decide)
  · intro a c ha hc
    obtain ⟨he, ha⟩ | ⟨he, ha⟩ := h.placed_suspended hs n retry ha <;>
      obtain ⟨he', hc⟩ | ⟨he', hc⟩ := h.placed_suspended hs n retry hc
    · exact Option.some.inj (ha.symm.trans hc)
    · exact absurd he he'
    · exact absurd he' he
    · exact h.single a c ha hc

/-! ### An offer and the next work (R133, R140) -/

/-- An offer taken keeps the law, and leaves either a program in flight or a settled store. -/
theorem Settled.takeOffer {s : State} (h : Settled s.store) : IndexLaw (takeOffer s).store := by
  have hmove := offerTaken_takeOffer s
  generalize (Machine.takeOffer s).store = u at hmove ⊢
  cases hmove with
  | stands => exact .inr h
  | placed retry n b k _ _ hs => exact .inl (h.placed hs n retry)
  | queued b count hq => exact .inr (h.queueOne hq count)
  | missed retry n next marks _ _ => exact .inr (h.missedOffer n marks next)

theorem IndexLaw.preErase {s : State} (h : IndexLaw s.store) : IndexLaw (preErase s).store := by
  have hmove := preErased_preErase s
  generalize (Machine.preErase s).store = u at hmove ⊢
  cases hmove with
  | stands => exact h
  | queued b count hq => exact h.imp (·.queueOne hq count) (·.queueOne hq count)

theorem Settled.goIdle {t : TripStore} (h : Settled t) (hi : t.activity = .idle)
    (hs : ∀ b : Fin 4, t.banks[b].state ≠ .eraseSuspended) : StoreLaw t.goIdle :=
  (h.of_same rfl hi.symm (h.still (.inl hi)).symm rfl fun _ => ⟨rfl, rfl, rfl⟩ : Settled t.goIdle).storeLaw hs

/-- Another state, or a bank being erased: a bank whose erase begins or resumes keeps its slots. -/
theorem Settled.eraseRuns {t u : TripStore} (h : Settled t) (hi : t.activity = .idle) {b : Fin 4}
    (hp : u.program = t.program) (ha : u.activity = .erasing) (hb : u.busy = some b) (hq : u.queue.Nodup)
    (hsus : ∀ a : Fin 4, t.banks[a].state = .eraseSuspended → a = b)
    (hbanks : ∀ a : Fin 4, u.banks[a].state = (if a = b then .erasing else t.banks[a].state)
      ∧ u.banks[a].slots = t.banks[a].slots ∧ u.banks[a].validCount = t.banks[a].validCount) : StoreLaw u := by
  have hsettled (a : Fin 4) : u.banks[a].state ≠ .eraseSuspended := by
    rw [(hbanks a).1]
    split
    · exact nofun
    · next hne => exact fun he => hne (hsus a he)
  refine Settled.storeLaw ⟨hp.trans h.program, by simp [ha], fun a => ?_, fun _ => by simp [hb], ?_,
    fun a he => absurd he (hsettled a), fun a c he => absurd he (hsettled a), hq, fun a => ?_, fun a k => ?_⟩ hsettled
  · rw [(hbanks a).1, ha, hb]
    split
    · next hab => simp [hab]
    · next hab =>
      refine iff_of_false (fun he => ?_) fun he => hab (Option.some.inj he.2).symm
      exact absurd (hi.symm.trans ((h.erasing a).mp he).1) nofun
  · rw [ha]
    exact fun hor => absurd hor (by decide)
  · refine (h.banks a).of_same (hbanks a).2.1 (hbanks a).2.2 fun hs => ?_
    have hstate := (hbanks a).1
    split at hstate
    · rw [hstate] at hs
      exact absurd hs nofun
    · exact hstate
  · rw [(hbanks a).2.1]
    exact h.unwritten a k

theorem Settled.resume {t : TripStore} (h : Settled t) (hi : t.activity = .idle) {b : Fin 4}
    (hb : t.banks[b].state = .eraseSuspended) : StoreLaw (t.resume b) := by
  refine h.eraseRuns hi (b := b) rfl rfl rfl h.queue (fun a ha => h.single a b ha hb) fun a => ?_
  rw [TripStore.resume_bank]
  split
  · next hab => subst hab; exact ⟨rfl, rfl, rfl⟩
  · exact ⟨rfl, rfl, rfl⟩

theorem Settled.beginErase {t : TripStore} (h : Settled t) (hi : t.activity = .idle)
    (hs : ∀ a : Fin 4, t.banks[a].state ≠ .eraseSuspended) {b : Fin 4} {rest : List (Fin 4)} (hq : rest.Nodup) :
    StoreLaw (t.beginErase b rest) := by
  refine h.eraseRuns hi (b := b) rfl rfl rfl hq (fun a ha => absurd ha (hs a)) fun a => ?_
  rw [TripStore.beginErase_bank]
  split
  · next hab => subst hab; exact ⟨rfl, rfl, rfl⟩
  · exact ⟨rfl, rfl, rfl⟩

theorem Settled.chooseWork {t : TripStore} (h : Settled t) : StoreLaw t.chooseWork := by
  have hmove := workChoice_chooseWork t
  generalize t.chooseWork = u at hmove ⊢
  cases hmove with
  | worksOn hi => exact h.storeLaw fun b hb => hi (h.awaits b hb)
  | resumes hi b hb => exact h.resume hi hb
  | erases hi hs b rest hq m hm =>
    have hrest : rest.Nodup := (List.nodup_cons.mp (hq ▸ h.queue)).2
    obtain rfl | rfl := hm
    · exact h.beginErase hi hs hrest
    · have hsame := t.markForRetry_same t.largestUsed
      obtain ⟨nv, banks, hm⟩ := t.markForRetry_frame t.largestUsed
      exact (h.markForRetry _).beginErase (by rw [hm]; exact hi) (fun a => (hsame a).1 ▸ hs a) hrest
  | rests hi hs => exact h.goIdle hi hs

/-- The choice of work restores the law. -/
theorem IndexLaw.chooseWork {t : TripStore} (h : IndexLaw t) : StoreLaw t.chooseWork := by
  obtain h | h := h
  · by_cases hi : t.activity = .idle
    · exact (h.settled (by simp [hi])).chooseWork
    · rwa [TripStore.chooseWork_working hi]
  · exact h.chooseWork

/-! ### The ends of store work -/

theorem Settled.taken {s : State} (h : Settled s.store) : StoreLaw (Machine.chooseWork (Machine.takeOffer s)).store :=
  h.takeOffer.chooseWork

/-- A program that ends leaves its slot to be settled: no other slot is WRITING, and no bank erases. -/
theorem StoreLaw.programEnds {t u : TripStore} (h : StoreLaw t) {p : Program} (hp : t.program = some p)
    {x : SlotIndex} (hx : x.state ≠ .writing) {count : Nat}
    (hc : count = t.banks[p.bank].validCount + (if x.state = .valid then 1 else 0))
    (hbanks : u.banks = t.banks.set p.bank { t.banks[p.bank].setSlot p.slot x with validCount := count })
    (hprogram : u.program = none) (ha : u.activity = .idle) (hb : u.busy = none) (hq : u.queue = t.queue) :
    Settled u := by
  have hactivity : t.activity = .programming := h.flight.mp (by rw [hp]; rfl)
  obtain ⟨-, -, hslot⟩ := h.slot p hp
  have hbank (a : Fin 4) : u.banks[a]
      = if a = p.bank then { t.banks[p.bank].setSlot p.slot x with validCount := count } else t.banks[a] := by
    rw [hbanks, getElem_set_fin]
  have hstate {st : BankState} (hst : st.fromSlots = false) (a : Fin 4) :
      u.banks[a].state = st ↔ t.banks[a].state = st := by
    rw [hbank a]
    split
    · next hab => exact BankIndex.setSlot_state_iff hst |>.trans (by rw [hab])
    · exact .rfl
  refine settled_of_idle hprogram ha hb (hq ▸ h.queue) (fun a => ?_) (fun a k hw => ?_) (fun a he => ?_)
    fun a c hsa hsc => ?_
  · rw [hbank a]
    split
    · refine (h.bankLaw p.bank).setSlot p.slot x ?_
      rw [hslot, if_neg nofun, Nat.add_zero, hc]
    · exact h.bankLaw a
  · have hplace : ¬(a = p.bank ∧ k = p.slot) := by
      rintro ⟨rfl, rfl⟩
      rw [hbank, if_pos rfl, BankIndex.setSlot_eq] at hw
      simp only [getElem_set_fin, if_true] at hw
      exact hx hw
    have hold : t.banks[a].slots[k].state = .writing := by
      rw [hbank a] at hw
      split at hw
      · next hab =>
        have hk : k ≠ p.slot := fun hk => hplace ⟨hab, hk⟩
        rw [BankIndex.setSlot_eq] at hw
        simp only [getElem_set_fin, if_neg hk] at hw
        rwa [hab]
      · exact hw
    obtain ⟨q, hq, rfl, rfl⟩ := h.only a k hold
    obtain rfl := Option.some.inj (hp.symm.trans hq)
    exact hplace ⟨rfl, rfl⟩
  · exact absurd (hactivity.symm.trans ((h.erasing a).mp ((hstate rfl a).mp he)).1) nofun
  · exact h.single a c ((hstate rfl a).mp hsa) ((hstate rfl c).mp hsc)

/-- The slot in flight is settled as VALID or VOID, with its number (R137, R138). -/
def TripStore.settleSlot (t : TripStore) (p : Program) (x : SlotState) : TripStore :=
  let e := t.banks[p.bank].setSlot p.slot { state := x, number := some p.number }
  t.setBank p.bank { e with validCount := e.validCount + if x = .valid then 1 else 0 }

/-- A program that verified (R137). -/
theorem programVerified_store (p : Program) (s : State) :
    (programVerified p s).store = (s.store.setNv p.bank { s.store.nv[p.bank] with
      slots := s.store.nv[p.bank].slots.set p.slot (programmedSlot p s) }).settleSlot p .valid := by
  simp [programVerified, TripStore.settleSlot]

/-- A program that failed (R138). -/
theorem programFailed_store (p : Program) (s : State) :
    (programFailed p s).store = { s.store.settleSlot p .void with
      programFails := riseBy s.store.programFails 1, programFail := true } := by
  simp [programFailed, TripStore.settleSlot, TripStore.setBank]

theorem StoreLaw.settleSlot {t u : TripStore} (h : StoreLaw t) {p : Program} (hp : t.program = some p) {x : SlotState}
    (hx : x ≠ .writing) (hbanks : u.banks = (t.settleSlot p x).banks) (hprogram : u.program = none)
    (ha : u.activity = .idle) (hb : u.busy = none) (hq : u.queue = t.queue) : Settled u := by
  refine h.programEnds hp (x := { state := x, number := some p.number }) hx ?_ hbanks hprogram ha hb hq
  rw [BankIndex.setSlot_eq]

/-- A record that fails a second time is missed; a first failure is offered again (R138). -/
theorem Settled.afterFailure {s : State} (h : Settled s.store) (p : Program) : IndexLaw (afterFailure p s).store := by
  unfold Machine.afterFailure
  split
  · simp only [recorderDone_frame, raiseStore_frame]
    exact .inr (h.of_same rfl rfl rfl rfl fun _ => ⟨rfl, rfl, rfl⟩)
  · exact Settled.takeOffer (s := { s with store := { s.store with offer := .retry p.number } })
      (h.of_same rfl rfl rfl rfl fun _ => ⟨rfl, rfl, rfl⟩)

theorem StoreLaw.endProgram {s : State} (h : StoreLaw s.store) (took : Bool) {p : Program}
    (hp : s.store.program = some p) : StoreLaw (endProgram took p s).store := by
  refine IndexLaw.chooseWork (IndexLaw.preErase ?_)
  dsimp only
  split
  · rw [programVerified_store]
    exact .inr (h.settleSlot hp (x := .valid) nofun rfl rfl rfl rfl rfl)
  · refine Settled.afterFailure ?_ p
    rw [programFailed_store]
    exact h.settleSlot hp (x := .void) nofun rfl rfl rfl rfl rfl

/-- Work that is no program ends: every bank but the one worked on stands as it is, and none erases. -/
theorem StoreLaw.workEnds {t u : TripStore} (h : StoreLaw t) (hp : t.activity ≠ .programming) {b : Fin 4}
    (hb : t.activity = .erasing → t.busy = some b) {e : BankIndex} (hbanks : u.banks = t.banks.set b e)
    (he : BankLaw e) (hw : ∀ k : Fin 8, e.slots[k].state ≠ .writing)
    (hs : e.state ≠ .erasing ∧ e.state ≠ .eraseSuspended) (hprogram : u.program = t.program)
    (ha : u.activity = .idle) (hbusy : u.busy = none) (hq : u.queue = t.queue) : Settled u := by
  have hbank (a : Fin 4) : u.banks[a] = if a = b then e else t.banks[a] := by
    rw [hbanks, getElem_set_fin]
  have hunsuspended (a : Fin 4) : u.banks[a].state ≠ .eraseSuspended := by
    rw [hbank a]
    split
    · exact hs.2
    · exact fun hsus => hp (h.suspended a hsus)
  refine settled_of_idle (hprogram.trans (h.no_program hp)) ha hbusy (hq ▸ h.queue) (fun a => ?_) (fun a k => ?_)
    (fun a => ?_) fun a _ hsus => absurd hsus (hunsuspended a)
  · rw [hbank a]
    split
    · exact he
    · exact h.bankLaw a
  · rw [hbank a]
    split
    · exact hw k
    · exact (h.settled hp).unwritten a k
  · rw [hbank a]
    split
    · exact hs.1
    · next hab =>
      intro hst
      obtain ⟨her, hbusy⟩ := (h.erasing a).mp hst
      exact hab (Option.some.inj (hbusy.symm.trans (hb her)))

/-- A bank whose slots all hold one entry. -/
theorem bankLaw_replicate {e : BankIndex} {x : SlotIndex} (hs : e.slots = Vector.replicate 8 x)
    (hstate : e.state.fromSlots = true → e.state = .blank ∧ x.state = .blank) (hx : x.state ≠ .valid)
    (hc : e.validCount = 0) : BankLaw e := by
  constructor
  · intro hf
    obtain ⟨hb, hx⟩ := hstate hf
    rw [hb, hs]
    simp [stateFromSlots, Vector.toList_replicate, hx]
  · rw [hc, hs]
    simp [validSlots, Vector.toList_replicate, hx]

theorem replicate_slot (x : SlotIndex) (k : Fin 8) : (Vector.replicate 8 x)[k] = x :=
  Vector.getElem_replicate k.isLt

/-- The store at the end of an erase, before a waiting offer is taken (R142). -/
theorem StoreLaw.eraseSettled {s : State} (h : StoreLaw s.store) (ha : s.store.activity = .erasing) {b : Fin 4}
    (hb : s.store.busy = some b) (verified : Bool) :
    Settled (if verified then eraseVerified b { s with store := s.store.endWork }
      else eraseFailed b { s with store := s.store.endWork }).store := by
  have hp : s.store.activity ≠ .programming := by simp [ha]
  cases verified with
  | true =>
    simp only [if_true, eraseVerified, raiseStore_frame]
    refine h.workEnds hp (fun _ => hb) rfl (bankLaw_replicate rfl (fun _ => ⟨rfl, rfl⟩) nofun rfl) (fun k => ?_)
      ⟨nofun, nofun⟩ rfl rfl rfl rfl
    rw [replicate_slot]
    exact nofun
  | false =>
    simp only [Bool.false_eq_true, if_false, eraseFailed, raiseStore_frame]
    refine h.workEnds hp (fun _ => hb) rfl (bankLaw_replicate rfl nofun nofun rfl) (fun k => ?_) ⟨nofun, nofun⟩ rfl rfl
      rfl rfl
    rw [replicate_slot]
    exact nofun

/-- A slot found programmed is VOID (R147). -/
theorem markFound_eq (b : Fin 4) (found : Option (Fin 8 × Nat)) (t : TripStore) :
    markFound b found t = t ∨ ∃ k : Fin 8, t.banks[b].slots[k].state = .blank
      ∧ markFound b found t = t.setBank b (t.banks[b].setSlot k { state := .void, number := none }) := by
  unfold markFound
  (repeat' split)
  · next k _ hk => exact .inr ⟨k, hk, rfl⟩
  · exact .inl rfl
  · exact .inl rfl

/-- A slot of a settled store turns VOID (R128). -/
theorem Settled.voidSlot {t : TripStore} (h : Settled t) {b : Fin 4} {k : Fin 8}
    (hk : t.banks[b].slots[k].state = .blank) :
    Settled (t.setBank b (t.banks[b].setSlot k { state := .void, number := none })) := by
  have hbank := t.setBank_bank b (t.banks[b].setSlot k { state := .void, number := none })
  have hstate {st : BankState} (hst : st.fromSlots = false) (a : Fin 4) :
      (t.setBank b (t.banks[b].setSlot k { state := .void, number := none })).banks[a].state = st
        ↔ t.banks[a].state = st := by
    rw [hbank a]
    split
    · next hab => rw [BankIndex.setSlot_state_iff hst, hab]
    · exact .rfl
  refine ⟨h.program, h.activity, fun a => (hstate rfl a).trans (h.erasing a), h.bank, h.still,
    fun a hs => h.awaits a ((hstate rfl a).mp hs),
    fun a c ha hc => h.single a c ((hstate rfl a).mp ha) ((hstate rfl c).mp hc), h.queue, fun a => ?_, fun a j => ?_⟩
  · rw [hbank a]
    split
    · have hput := (h.banks b).setSlot k { state := .void, number := none } (count := t.banks[b].validCount)
        (by rw [hk]; rfl)
      rw [BankIndex.setSlot_eq] at hput ⊢
      exact hput
    · exact h.banks a
  · rw [hbank a]
    split
    · rw [BankIndex.setSlot_eq]
      simp only [getElem_set_fin]
      split
      · exact nofun
      · exact h.unwritten b j
    · exact h.unwritten a j

/-- The store at the end of a blank check, before a waiting offer is taken (R147). -/
theorem StoreLaw.checkSettled {s : State} (h : StoreLaw s.store) (ha : s.store.activity = .blankChecking)
    (b : Fin 4) : Settled (markFound b s.store.nv[b].firstProgrammed s.store.endWork) := by
  have hset := h.settled (by simp [ha])
  have hended : Settled s.store.endWork :=
    settled_of_idle hset.program rfl rfl hset.queue hset.banks hset.unwritten
      (fun a he => absurd (ha.symm.trans ((hset.erasing a).mp he).1) nofun) hset.single
  obtain he | ⟨k, hk, he⟩ := markFound_eq b s.store.nv[b].firstProgrammed s.store.endWork <;> rw [he]
  · exact hended
  · exact hended.voidSlot hk

/-! ### The scan (R130, R131) -/

theorem NvSlot.classify_not_writing (n : NvSlot) : n.classify.state ≠ .writing := by
  unfold NvSlot.classify
  split <;> dsimp only <;> split <;> exact nofun

theorem NvBank.classify_slot {n : NvBank} {count : Nat} (h : n.stamp = some count) (k : Fin 8) :
    n.classify.slots[k] = n.slots[k].classify := by
  rw [NvBank.classify, h]
  exact Vector.getElem_ofFn k.isLt

/-- A bank that has been classified agrees with itself, holds no WRITING slot and is not being erased (R130). -/
theorem NvBank.classify_law (n : NvBank) : BankLaw n.classify ∧ (∀ k : Fin 8, n.classify.slots[k].state ≠ .writing)
    ∧ n.classify.state ≠ .erasing ∧ n.classify.state ≠ .eraseSuspended := by
  cases h : n.stamp with
  | none =>
    have hc : n.classify = BankIndex.unclassified := by rw [NvBank.classify, h]
    rw [hc]
    refine ⟨bankLaw_replicate rfl nofun nofun rfl, fun k => ?_, nofun, nofun⟩
    rw [unclassified_slot]
    exact nofun
  | some count =>
    have hstate : n.classify.state = stateFromSlots n.classify.slots := by rw [NvBank.classify, h]
    have hfrom := stateFromSlots_fromSlots n.classify.slots
    refine ⟨⟨fun _ => hstate, by rw [NvBank.classify, h]; rfl⟩, fun k => ?_, ?_, ?_⟩
    · rw [NvBank.classify_slot h]
      exact NvSlot.classify_not_writing _
    all_goals
      rw [← hstate] at hfrom
      exact fun he => absurd (he ▸ hfrom) nofun

/-- Banks that join a queue are not in it already (R129). -/
theorem nodup_append_filter {q l : List (Fin 4)} (hq : q.Nodup) (hl : l.Nodup) (p : Fin 4 → Bool) :
    (q ++ l.filter fun b => p b && !q.contains b).Nodup := by
  refine List.nodup_append.mpr ⟨hq, hl.filter _, fun a ha b hb hab => ?_⟩
  have hnot := (List.mem_filter.mp hb).2
  simp [← hab, ha] at hnot

theorem TripStore.scanned_bank (t : TripStore) (b : Fin 4) : t.scanned.banks[b] = t.nv[b].classify :=
  Vector.getElem_ofFn b.isLt

theorem StoreLaw.scanned {t : TripStore} (h : StoreLaw t) (ha : t.activity = .scanning) : Settled t.scanned.endWork := by
  have hbank := t.scanned_bank
  have hp : t.program = none := h.no_program (by simp [ha])
  have hqueue : t.scanned.endWork.queue.Nodup := nodup_append_filter h.queue (by decide) _
  refine settled_of_idle hp rfl rfl hqueue (fun a => ?_) (fun a k => ?_) (fun a => ?_) fun a _ hs => ?_
  · exact (hbank a).symm ▸ t.nv[a].classify_law.1
  · exact (hbank a).symm ▸ t.nv[a].classify_law.2.1 k
  · exact (hbank a).symm ▸ t.nv[a].classify_law.2.2.1
  · exact absurd ((congrArg BankIndex.state (hbank a)).symm.trans hs) t.nv[a].classify_law.2.2.2

/-! ### Every step -/

theorem StoreLaw.offerRecord {s : State} (h : StoreLaw s.store) : StoreLaw (offerRecord s).store := by
  have hoffered : StoreLaw { s.store with offer := .newRecord } := { h with }
  unfold Machine.offerRecord
  dsimp only
  split
  · next ha => exact Settled.taken (hoffered.settled (by simp [ha]))
  · next ha => exact Settled.taken (hoffered.settled (by simp [ha]))
  all_goals exact hoffered

theorem StoreLaw.beginCheck {t : TripStore} (h : StoreLaw t) (hi : t.activity = .idle) (b : Fin 4) :
    StoreLaw (t.beginCheck b) := by
  have hset := h.settled (by simp [hi])
  have hquiet (a : Fin 4) : t.banks[a].state ≠ .erasing := fun he =>
    absurd (hi.symm.trans ((h.erasing a).mp he).1) nofun
  have hwait (a : Fin 4) : t.banks[a].state ≠ .eraseSuspended := fun hs =>
    absurd (hi.symm.trans (h.suspended a hs)) nofun
  exact Settled.storeLaw ⟨hset.program, nofun, fun a => iff_of_false (hquiet a) nofun, fun _ => rfl,
    fun hor => absurd hor (by simp [TripStore.beginCheck]), fun a hs => absurd hs (hwait a), hset.single, hset.queue,
    hset.banks, hset.unwritten⟩ hwait

theorem StoreLaw.eraseAll {t : TripStore} (h : StoreLaw t) :
    StoreLaw { t with queue := t.queue ++ t.toErase, eraseAll := true } := by
  have hdistinct : ∀ c : Fin 4, (rotationAfter c ++ [c]).Nodup := by decide
  exact { h with queue := nodup_append_filter h.queue (hdistinct t.current) _ }

/-- The store right after a reset satisfies the law, whatever its memory (R129, R143). -/
theorem storeLaw_afterReset (nv : Vector NvBank 4) (tag : Nat) : StoreLaw (TripStore.afterReset nv tag) := by
  obtain ⟨h1, h2, h3, h4, h5, h6, h7, h8, h9, h10, h11⟩ := reset_storeLaw
  exact ⟨h1, h2, h3, h4, h5, h6, h7, h8, h9, h10, h11⟩

/-- Whatever a step does to the store keeps the law. -/
theorem StoreLaw.move {t u : TripStore} (h : StoreLaw t) (hm : StoreMove t u) : StoreLaw u := by
  cases hm with
  | stands => exact h
  | flagsCleared => exact { h with }
  | offered s => exact h.offerRecord
  | trimmed _ b hi => exact IndexLaw.chooseWork (.inl (h.join b))
  | erasedAll _ hi => exact IndexLaw.chooseWork (.inl h.eraseAll)
  | checked _ b hi => exact h.beginCheck hi b
  | scanEnded s ha =>
    refine Settled.taken ?_
    simp only [raiseStore_frame]
    exact h.scanned ha
  | programEnded s took p _ hp => exact h.endProgram took hp
  | eraseEnded s verified b ha hb => exact (h.eraseSettled ha hb verified).taken
  | checkEnded s b ha _ =>
    refine Settled.taken ?_
    simp only [raiseStore_frame]
    exact h.checkSettled ha b
  | reset => exact storeLaw_afterReset _ _

/-- Settles O10: the store law is kept by every piece of store work, and nothing else reaches the store. -/
theorem stepKeepsStoreLaw : Obligations.StepKeepsStoreLaw := by
  unfold Obligations.StepKeepsStoreLaw
  intro s t h he
  exact h.move (.step he)

end Sys2Proof.Machine

/-! The number law (O11): records carry distinct trip numbers, in the index and in the memory that the next scan reads. -/

namespace Sys2Proof.Machine

/-! ### The numbers of the slots, place by place -/

/-- A number stands in one place at most. -/
def Distinct (f : Fin 4 → Fin 8 → Option DWord) : Prop :=
  ∀ ⦃b c : Fin 4⦄ ⦃k j : Fin 8⦄ ⦃n : DWord⦄, f b k = some n → f c j = some n → b = c ∧ k = j

/-- A list of the values of distinct places is without repetition where no value stands in two places. -/
theorem nodup_filterMap_iff {α β : Type} {l : List α} (hl : l.Nodup) (g : α → Option β) :
    (l.filterMap g).Nodup ↔ ∀ x ∈ l, ∀ y ∈ l, ∀ n, g x = some n → g y = some n → x = y := by
  have hpair : (l.filterMap g).Nodup ↔ l.Pairwise fun x y => ∀ n ∈ g x, ∀ m ∈ g y, n ≠ m := List.pairwise_filterMap
  rw [hpair]
  constructor
  · intro h x hx y hy n hn hm
    have hsymm : Std.Symm fun x y => ∀ n ∈ g x, ∀ m ∈ g y, n ≠ m := ⟨fun x y h n hn m hm => (h m hm n hn).symm⟩
    by_contra hne
    exact h.forall hx hy hne n hn n hm rfl
  · intro h
    exact hl.pairwise_of_forall_ne fun x hx y hy hne n hn m hm hnm => hne (h x hx y hy n hn (hnm ▸ hm))

/-- The values of the slots, bank by bank. -/
def slotNumbers (f : Fin 4 → Fin 8 → Option DWord) : List DWord := allBanks.flatMap fun b => allSlots.filterMap (f b)

theorem mem_slotNumbers {f : Fin 4 → Fin 8 → Option DWord} {n : DWord} :
    n ∈ slotNumbers f ↔ ∃ b k, f b k = some n := by
  simp only [slotNumbers, List.mem_flatMap, List.mem_filterMap, mem_allBanks, mem_allSlots, true_and]

theorem slotNumbers_nodup {f : Fin 4 → Fin 8 → Option DWord} : (slotNumbers f).Nodup ↔ Distinct f := by
  have hplaces : (allBanks ×ˢ allSlots).Nodup := by decide
  have hlist : slotNumbers f = (allBanks ×ˢ allSlots).filterMap fun x => f x.1 x.2 := by
    simp [slotNumbers, SProd.sprod, List.product, List.filterMap_flatMap, List.filterMap_map]
  rw [hlist, nodup_filterMap_iff hplaces]
  constructor
  · intro h b c k j n hb hc
    have := h (b, k) (by simp [mem_allBanks, mem_allSlots]) (c, j) (by simp [mem_allBanks, mem_allSlots]) n hb hc
    exact Prod.mk.inj this
  · rintro h ⟨b, k⟩ - ⟨c, j⟩ - n hb hc
    obtain ⟨rfl, rfl⟩ := h hb hc
    rfl

theorem toList_eq_map_allSlots {α : Type} (v : Vector α 8) : v.toList = allSlots.map (v[·]) := by
  apply List.ext_getElem
  · simp [allSlots]
  · intro i h _
    have hi : i < 8 := by simpa using h
    have hslot : allSlots[i]'(by simpa [allSlots] using hi) = ⟨i, hi⟩ := by
      have hall : ∀ j : Fin 8, allSlots[j.val]'(by simp [allSlots]) = j := by decide
      exact hall ⟨i, hi⟩
    simp [hslot]

/-- The number of a record in a slot of the index, VALID or WRITING. -/
def SlotIndex.live (x : SlotIndex) : Option DWord := if x.state = .valid ∨ x.state = .writing then x.number else none

/-- The number of a complete record in a slot of the memory. -/
def NvSlot.stored (n : NvSlot) : Option DWord := if n.complete then some n.headerNumber else none

def TripStore.liveAt (t : TripStore) (b : Fin 4) (k : Fin 8) : Option DWord := t.banks[b].slots[k].live

def TripStore.storedAt (t : TripStore) (b : Fin 4) (k : Fin 8) : Option DWord :=
  if t.nv[b].stamp.isSome then t.nv[b].slots[k].stored else none

theorem TripStore.liveNumbers_eq (t : TripStore) : t.liveNumbers = slotNumbers t.liveAt := by
  simp only [TripStore.liveNumbers, slotNumbers, toList_eq_map_allSlots, List.filterMap_map]
  rfl

theorem TripStore.storedNumbers_eq (t : TripStore) : t.storedNumbers = slotNumbers t.storedAt := by
  have hbank (b : Fin 4) : (if t.nv[b].stamp.isSome then
      t.nv[b].slots.toList.filterMap fun n => if n.complete then some n.headerNumber else none else [])
      = allSlots.filterMap (t.storedAt b) := by
    by_cases hs : t.nv[b].stamp.isSome = true
    · have hplaces : t.storedAt b = fun k : Fin 8 => t.nv[b].slots[k].stored := funext fun _ => if_pos hs
      rw [if_pos hs, hplaces, toList_eq_map_allSlots, List.filterMap_map]
      rfl
    · have hplaces : t.storedAt b = fun _ => none := funext fun _ => if_neg hs
      rw [if_neg hs, hplaces]
      exact (List.filterMap_eq_nil_iff.mpr fun _ _ => rfl).symm
  exact congrArg allBanks.flatMap (funext hbank)

theorem TripStore.live_nodup {t : TripStore} : t.liveNumbers.Nodup ↔ Distinct t.liveAt := by
  rw [TripStore.liveNumbers_eq, slotNumbers_nodup]

theorem TripStore.stored_nodup {t : TripStore} : t.storedNumbers.Nodup ↔ Distinct t.storedAt := by
  rw [TripStore.storedNumbers_eq, slotNumbers_nodup]

theorem TripStore.mem_live {t : TripStore} {n : DWord} : n ∈ t.liveNumbers ↔ ∃ b k, t.liveAt b k = some n := by
  rw [TripStore.liveNumbers_eq, mem_slotNumbers]

/-! ### The law of a store that does not scan -/

/-- What the index holds of a slot of a stamped bank agrees with the memory: a complete record is VALID with its number,
and a BLANK slot reads erased (R130, R137, assumption 41). -/
structure SlotAgrees (n : NvSlot) (x : SlotIndex) : Prop where
  held : n.complete = true → x = { state := .valid, number := some n.headerNumber }
  blank : x.state = .blank → n.firstProgrammed = none

/-- The number law of a store that does not scan, without the store law, place by place. -/
structure RecordLaw (t : TripStore) : Prop where
  awake : t.activity ≠ .scanning
  live : Distinct t.liveAt
  below : ∀ ⦃b k n⦄, t.liveAt b k = some n → t.assigned n
  agrees : ∀ (b : Fin 4) (k : Fin 8), t.nv[b].stamp.isSome = true → SlotAgrees t.nv[b].slots[k] t.banks[b].slots[k]
  header : ∀ p, t.program = some p → t.nv[p.bank].stamp.isSome = true → ∀ o < slotWords,
    t.nv[p.bank].slots[p.slot].word o = (headerPlaced p.number).getD o erasedWord
  unstamped : ∀ b : Fin 4, t.banks[b].state = .erasing ∨ t.banks[b].state = .eraseSuspended → t.nv[b].stamp = none
  retry : ∀ n, t.offer = .retry n → (∀ b k, t.liveAt b k ≠ some n) ∧ t.assigned n

theorem NumberLaw.recordLaw {t : TripStore} (h : NumberLaw t) (ha : t.activity ≠ .scanning) : RecordLaw t where
  awake := ha
  live := TripStore.live_nodup.mp (h.live ha)
  below b k n hn := h.below ha n (TripStore.mem_live.mpr ⟨b, k, hn⟩)
  agrees b k hs := ⟨h.held ha b k hs, h.blank ha b k hs⟩
  header := h.header
  unstamped := h.unstamped
  retry n hn := by
    obtain ⟨-, hnot, hbelow⟩ := h.retry n hn
    exact ⟨fun b k hl => hnot (TripStore.mem_live.mpr ⟨b, k, hl⟩), hbelow⟩

/-- A complete record of the memory is a record of the index, in its place. -/
theorem RecordLaw.stored_live {t : TripStore} (h : RecordLaw t) {b : Fin 4} {k : Fin 8} {n : DWord}
    (hn : t.storedAt b k = some n) : t.liveAt b k = some n := by
  unfold TripStore.storedAt NvSlot.stored at hn
  split at hn
  · next hs =>
    split at hn
    · next hc =>
      rw [TripStore.liveAt, (h.agrees b k hs).held hc]
      exact hn
    · exact absurd hn nofun
  · exact absurd hn nofun

theorem RecordLaw.numberLaw {t : TripStore} (h : RecordLaw t) (hs : StoreLaw t) : NumberLaw t where
  store := hs
  stored := TripStore.stored_nodup.mpr fun _ _ _ _ _ hb hc => h.live (h.stored_live hb) (h.stored_live hc)
  live _ := TripStore.live_nodup.mpr h.live
  below _ n hn := by
    obtain ⟨b, k, hl⟩ := TripStore.mem_live.mp hn
    exact h.below hl
  held _ b k hs hc := (h.agrees b k hs).held hc
  blank _ b k hs hb := (h.agrees b k hs).blank hb
  header := h.header
  unstamped := h.unstamped
  retry n hn := by
    obtain ⟨hnot, hbelow⟩ := h.retry n hn
    refine ⟨h.awake, fun hm => ?_, hbelow⟩
    obtain ⟨b, k, hl⟩ := TripStore.mem_live.mp hm
    exact hnot b k hl

/-- A number once assigned stays assigned while numbers are consumed one by one (R132). -/
theorem TripStore.assigned.mono {t u : TripStore} {n : DWord} (h : t.assigned n)
    (hn : u.nextNumber = t.nextNumber ∨ t.nextNumber ≠ 0 ∧ u.nextNumber = t.nextNumber + 1) : u.assigned n := by
  obtain hn | ⟨hne, hn⟩ := hn
  · unfold TripStore.assigned at *
    rwa [hn]
  · obtain h | h := h
    · exact absurd h hne
    · unfold TripStore.assigned
      rw [hn]
      bv_omega

/-- What a store keeps that gives up records, moves banks into other states, or consumes numbers. -/
theorem RecordLaw.of_less {t u : TripStore} (h : RecordLaw t) (ha : u.activity ≠ .scanning)
    (hlive : ∀ ⦃b k n⦄, u.liveAt b k = some n → t.liveAt b k = some n)
    (hnext : u.nextNumber = t.nextNumber ∨ t.nextNumber ≠ 0 ∧ u.nextNumber = t.nextNumber + 1)
    (hagrees : ∀ (b : Fin 4) (k : Fin 8), u.nv[b].stamp.isSome = true →
      SlotAgrees u.nv[b].slots[k] u.banks[b].slots[k])
    (hheader : ∀ p, u.program = some p → u.nv[p.bank].stamp.isSome = true → ∀ o < slotWords,
      u.nv[p.bank].slots[p.slot].word o = (headerPlaced p.number).getD o erasedWord)
    (hunstamped : ∀ b : Fin 4, u.banks[b].state = .erasing ∨ u.banks[b].state = .eraseSuspended →
      u.nv[b].stamp = none)
    (hoffer : ∀ n, u.offer = .retry n → t.offer = .retry n) : RecordLaw u where
  awake := ha
  live _ _ _ _ _ hb hc := h.live (hlive hb) (hlive hc)
  below _ _ _ hl := (h.below (hlive hl)).mono hnext
  agrees := hagrees
  header := hheader
  unstamped := hunstamped
  retry n hn := by
    obtain ⟨hnot, hbelow⟩ := h.retry n (hoffer n hn)
    exact ⟨fun b k hl => hnot b k (hlive hl), hbelow.mono hnext⟩

/-- The law reads of every bank the slots, in index and memory, the stamp, and whether it is being erased. -/
theorem RecordLaw.of_same {t u : TripStore} (h : RecordLaw t) (ha : u.activity ≠ .scanning)
    (hnv : ∀ a : Fin 4, u.nv[a].slots = t.nv[a].slots ∧ u.nv[a].stamp = t.nv[a].stamp)
    (hbanks : ∀ a : Fin 4, u.banks[a].slots = t.banks[a].slots)
    (hstate : ∀ a : Fin 4, u.banks[a].state = .erasing ∨ u.banks[a].state = .eraseSuspended →
      t.banks[a].state = .erasing ∨ t.banks[a].state = .eraseSuspended)
    (hprogram : u.program = t.program)
    (hnext : u.nextNumber = t.nextNumber ∨ t.nextNumber ≠ 0 ∧ u.nextNumber = t.nextNumber + 1)
    (hoffer : ∀ n, u.offer = .retry n → t.offer = .retry n) : RecordLaw u := by
  refine h.of_less ha (fun b k n hl => ?_) hnext (fun b k hs => ?_) (fun p hp hs => ?_) (fun b hb => ?_) hoffer
  · rwa [TripStore.liveAt, hbanks b] at hl
  · rw [(hnv b).2] at hs
    rw [(hnv b).1, hbanks b]
    exact h.agrees b k hs
  · rw [(hnv p.bank).2] at hs
    rw [(hnv p.bank).1]
    exact h.header p (hprogram ▸ hp) hs
  · rw [(hnv b).2]
    exact h.unstamped b (hstate b hb)

/-! ### A program begins (R136) -/

/-- A slot in which no programmed word is found reads erased (R147). -/
theorem NvSlot.word_of_blank {n : NvSlot} (h : n.firstProgrammed = none) {o : Nat} (ho : o < slotWords) :
    n.word o = erasedWord := by
  cases n with
  | words l =>
    have hall : ∀ w ∈ l, w = erasedWord := by simpa [NvSlot.firstProgrammed, List.findIdx?_eq_none_iff] using h
    show l.getD o erasedWord = erasedWord
    rw [List.getD_eq_getElem?_getD]
    cases hw : l[o]? with
    | none => rfl
    | some w => exact hall w (List.mem_of_getElem? hw)
  | unknown tag l =>
    simp only [NvSlot.firstProgrammed, List.find?_eq_none, List.mem_range] at h
    simpa using h o ho

/-- A slot whose completion marker reads erased holds no complete record (R127). -/
theorem NvSlot.complete_of_word {n : NvSlot} (h : n.word 47 = erasedWord) : n.complete = false := by
  rw [NvSlot.complete, h, show (erasedWord == completionMarker) = false from rfl, Bool.and_false]

theorem headerPlaced_completion (n : DWord) : (headerPlaced n).getD 47 erasedWord = erasedWord := rfl

/-- The number an offer brings is no record's yet, and is assigned once the offer is placed (R132, R138). -/
theorem RecordLaw.offered_fresh {s : State} (h : RecordLaw s.store) {retry : Bool} {n : DWord}
    (ho : Offered retry n s) (he : ¬Exhausted retry s) : ∀ b k, s.store.liveAt b k ≠ some n := by
  cases retry with
  | true => exact (h.retry n ho.1).1
  | false =>
    intro b k hl
    have hn := ho.2 rfl
    have hne : s.store.nextNumber ≠ 0 := fun hz => he ⟨rfl, hz⟩
    obtain hz | hlt := h.below hl
    · exact hne hz
    · rw [hn] at hlt
      exact absurd hlt (Nat.lt_irrefl _)

/-- What has been assigned stays so as an offer is placed, and so is the number placed. -/
theorem RecordLaw.placed_assigned {s : State} (h : RecordLaw s.store) {retry : Bool} {n : DWord}
    (ho : Offered retry n s) (he : ¬Exhausted retry s) (b : Fin 4) (k : Fin 8) :
    (∀ m, s.store.assigned m → (s.store.placed b k n retry).assigned m)
      ∧ (s.store.placed b k n retry).assigned n := by
  have hnext : (s.store.placed b k n retry).nextNumber = if retry then s.store.nextNumber else n + 1 := by
    rw [s.store.placed_frame b k n retry]
  cases retry with
  | true => exact ⟨fun m hm => hm.mono (.inl hnext), (h.retry n ho.1).2.mono (.inl hnext)⟩
  | false =>
    have hn := ho.2 rfl
    have hne : s.store.nextNumber ≠ 0 := fun hz => he ⟨rfl, hz⟩
    simp only [Bool.false_eq_true, if_false] at hnext
    refine ⟨fun m hm => hm.mono (.inr ⟨hne, by rw [hnext, hn]⟩), ?_⟩
    unfold TripStore.assigned
    rw [hnext]
    bv_omega

theorem RecordLaw.placed {s : State} (h : RecordLaw s.store) (hset : Settled s.store) {retry : Bool} {n : DWord}
    (ho : Offered retry n s) (he : ¬Exhausted retry s) {b : Fin 4} {k : Fin 8} (hs : Placeable s.store b k) :
    RecordLaw (s.store.placed b k n retry) := by
  have hbusy := hset.placeable_not_busy hs
  have hslot := TripStore.placed_target_slot (k := k) n retry hs.bank hbusy
  have hother {a : Fin 4} {j : Fin 8} := TripStore.placed_other_slot (k := k) (a := a) (j := j) n retry hs.bank hbusy
  have hstamp (a : Fin 4) := (TripStore.placed_stamp (t := s.store) (b := b) (k := k) n retry a).1
  have hframe := s.store.placed_frame b k n retry
  obtain ⟨hmono, hnew⟩ := h.placed_assigned ho he b k
  have hfresh := h.offered_fresh ho he
  have hlive {a : Fin 4} {j : Fin 8} {m : DWord} (hl : (s.store.placed b k n retry).liveAt a j = some m) :
      (a = b ∧ j = k ∧ m = n) ∨ ((a ≠ b ∨ j ≠ k) ∧ s.store.liveAt a j = some m) := by
    by_cases hplace : a ≠ b ∨ j ≠ k
    · rw [TripStore.liveAt, (hother hplace).1] at hl
      exact .inr ⟨hplace, hl⟩
    · rw [not_or, not_not, not_not] at hplace
      obtain ⟨rfl, rfl⟩ := hplace
      rw [TripStore.liveAt, hslot] at hl
      exact .inl ⟨rfl, rfl, (Option.some.inj hl).symm⟩
  have hword (hst : s.store.nv[b].stamp.isSome = true) {o : Nat} (ho : o < slotWords) :
      (s.store.placed b k n retry).nv[b].slots[k].word o = (headerPlaced n).getD o erasedWord := by
    have hblank := (h.agrees b k hst).blank (hset.placeable_blank hs)
    rw [TripStore.placed_word, ← headerPlaced_getD, NvSlot.word_of_blank hblank ho, erasedWord_and]
  refine ⟨by rw [hframe]; exact nofun, fun a c j i m ha hc => ?_, fun a j m hl => ?_, fun a j hst => ?_,
    fun p hp hst o ho => ?_, fun a ha => ?_, fun m hm => ?_⟩
  · obtain ⟨hab, hjk, hm⟩ | ⟨-, ha'⟩ := hlive ha <;> obtain ⟨hcb, hik, hm'⟩ | ⟨-, hc'⟩ := hlive hc
    · exact ⟨hab.trans hcb.symm, hjk.trans hik.symm⟩
    · exact absurd (hm ▸ hc') (hfresh _ _)
    · exact absurd (hm' ▸ ha') (hfresh _ _)
    · exact h.live ha' hc'
  · obtain ⟨rfl, rfl, rfl⟩ | ⟨-, hl⟩ := hlive hl
    · exact hnew
    · exact hmono m (h.below hl)
  · rw [hstamp a] at hst
    by_cases hplace : a ≠ b ∨ j ≠ k
    · rw [(hother hplace).1, (hother hplace).2]
      exact h.agrees a j hst
    · rw [not_or, not_not, not_not] at hplace
      obtain ⟨rfl, rfl⟩ := hplace
      rw [hslot]
      refine ⟨fun hc => ?_, nofun⟩
      have hno := NvSlot.complete_of_word ((hword hst (o := 47) (by decide)).trans (headerPlaced_completion n))
      exact absurd (hno.symm.trans hc) nofun
  · rw [hframe] at hp
    obtain rfl := Option.some.inj hp
    rw [hstamp b] at hst
    exact hword hst ho
  · rw [hstamp a]
    by_cases hab : a = b
    · subst hab
      rw [TripStore.placed_target_state n retry hs.bank hbusy] at ha
      obtain ha | ha := ha <;> split at ha <;> exact absurd ha nofun
    · rw [TripStore.placed_other_state n retry hab] at ha
      split at ha
      · next her => exact h.unstamped a (.inl ((hset.erasing a).mpr her))
      · exact h.unstamped a ha
  · rw [hframe] at hm
    exact absurd hm nofun

/-! ### Offers, queues and marks (R133 to R141) -/

/-- A queue and the counts are no matter of the numbers. -/
theorem RecordLaw.queueOne {t : TripStore} (h : RecordLaw t) (q : List (Fin 4)) (count : Nat) :
    RecordLaw { t with queue := q, overwritten := count } :=
  { h with }

theorem RecordLaw.markForRetry {t : TripStore} (h : RecordLaw t) (n : DWord) : RecordLaw (t.markForRetry n) := by
  have hsame := t.markForRetry_same n
  have hnv := t.markForRetry_nv n
  obtain ⟨nv, banks, hm⟩ := t.markForRetry_frame n
  refine h.of_same (by rw [hm]; exact h.awake) (fun a => ?_) (fun a => (hsame a).2.1) (fun a => (hsame a).1 ▸ id)
    (by rw [hm]) (.inl (by rw [hm])) fun m ho => by rwa [hm] at ho
  rw [hnv a]
  split <;> exact ⟨rfl, rfl⟩

theorem RecordLaw.missedOffer {t : TripStore} (h : RecordLaw t) (n : DWord) (marks : Prop) [Decidable marks]
    {next : DWord} (hn : next = t.nextNumber ∨ t.nextNumber ≠ 0 ∧ next = t.nextNumber + 1) :
    RecordLaw (t.missedOffer n marks next) := by
  have hsame := t.missedOffer_same n marks next
  have hmarks (a : Fin 4) := (t.missedOffer_marks n marks next a).1
  have hframe := t.missedOffer_frame n marks next
  refine h.of_same (by rw [hframe]; exact h.awake) (fun a => ?_) (fun a => (hsame a).2.1) (fun a => (hsame a).1 ▸ id)
    (by rw [hframe]) (by rw [hframe]; exact hn) fun m ho => ?_
  · rw [hmarks a]
    split <;> exact ⟨rfl, rfl⟩
  · rw [hframe] at ho
    exact absurd ho nofun

theorem RecordLaw.takeOffer {s : State} (h : RecordLaw s.store) (hset : Settled s.store) :
    RecordLaw (takeOffer s).store := by
  have hmove := offerTaken_takeOffer s
  generalize (Machine.takeOffer s).store = u at hmove ⊢
  cases hmove with
  | stands => exact h
  | placed retry n b k ho he hs => exact h.placed hset ho he hs
  | queued b count _ => exact h.queueOne _ count
  | missed retry n next marks _ hn => exact h.missedOffer n marks (hn.imp_right fun hn => hn.2)

theorem RecordLaw.preErase {s : State} (h : RecordLaw s.store) : RecordLaw (preErase s).store := by
  have hmove := preErased_preErase s
  generalize (Machine.preErase s).store = u at hmove ⊢
  cases hmove with
  | stands => exact h
  | queued b count _ => exact h.queueOne _ count

/-! ### The next work (R140) -/

theorem RecordLaw.resume {t : TripStore} (h : RecordLaw t) {b : Fin 4} (hb : t.banks[b].state = .eraseSuspended) :
    RecordLaw (t.resume b) := by
  have hbank := t.resume_bank b
  refine h.of_same nofun (fun _ => ⟨rfl, rfl⟩) (fun a => ?_) (fun a ha => ?_) rfl (.inl rfl) fun _ => id
  · rw [hbank a]
    split
    · next hab => rw [hab]
    · rfl
  · rw [hbank a] at ha
    split at ha
    · next hab => exact hab ▸ .inr hb
    · exact ha

/-- A bank that is erased has no stamp, and its records stay in the index until the erase has verified (R140). -/
theorem RecordLaw.beginErase {t : TripStore} (h : RecordLaw t) (hp : t.program = none) (b : Fin 4)
    (rest : List (Fin 4)) : RecordLaw (t.beginErase b rest) := by
  have hbank := t.beginErase_bank b rest
  have hnv := t.beginErase_nv b rest
  have hslots (a : Fin 4) : (t.beginErase b rest).banks[a].slots = t.banks[a].slots := by
    rw [hbank a]
    split
    · next hab => rw [hab]
    · rfl
  refine h.of_less nofun (fun a k n hl => ?_) (.inl rfl) (fun a k hs => ?_) (fun p hpr => ?_) (fun a ha => ?_)
    fun _ => id
  · rwa [TripStore.liveAt, hslots a] at hl
  · rw [hslots a]
    rw [hnv a] at hs ⊢
    split at hs
    · exact absurd hs nofun
    · next hab =>
      rw [if_neg hab]
      exact h.agrees a k hs
  · exact absurd (hp.symm.trans hpr) nofun
  · rw [hbank a] at ha
    rw [hnv a]
    split at ha
    · next hab => rw [if_pos hab]
    · next hab =>
      rw [if_neg hab]
      exact h.unstamped a ha

theorem RecordLaw.chooseWork {t : TripStore} (h : RecordLaw t) (hset : IndexLaw t) : RecordLaw t.chooseWork := by
  have hmove := workChoice_chooseWork t
  generalize t.chooseWork = u at hmove ⊢
  cases hmove with
  | worksOn _ => exact h
  | resumes _ b hb => exact h.resume hb
  | erases hi _ b rest _ m hm =>
    have hp : t.program = none := by
      obtain hs | hs := hset
      · exact hs.no_program (by simp [hi])
      · exact hs.program
    obtain rfl | rfl := hm
    · exact h.beginErase hp b rest
    · obtain ⟨nv, banks, hm⟩ := t.markForRetry_frame t.largestUsed
      exact (h.markForRetry _).beginErase (by rw [hm]; exact hp) b rest
  | rests _ _ => exact { h with awake := nofun }

/-- An offer taken, and the next work chosen: the law of records and numbers stands. -/
theorem RecordLaw.taken {s : State} (h : RecordLaw s.store) (hset : Settled s.store) :
    NumberLaw (Machine.chooseWork (Machine.takeOffer s)).store :=
  ((h.takeOffer hset).chooseWork hset.takeOffer).numberLaw hset.taken

/-! ### A program ends (R137, R138) -/

theorem TripStore.settleSlot_bank (t : TripStore) (p : Program) (x : SlotState) (a : Fin 4) :
    (t.settleSlot p x).banks[a] = if a = p.bank then { t.banks[p.bank].setSlot p.slot
      { state := x, number := some p.number } with
        validCount := t.banks[p.bank].validCount + if x = .valid then 1 else 0 } else t.banks[a] := by
  refine Eq.trans (getElem_set_fin ..) ?_
  rw [BankIndex.setSlot_eq]

/-- A settled slot: its new entry in its place, every other as it was. -/
theorem TripStore.settleSlot_slot (t : TripStore) (p : Program) (x : SlotState) (a : Fin 4) (j : Fin 8) :
    (t.settleSlot p x).banks[a].slots[j] = if a = p.bank ∧ j = p.slot
      then { state := x, number := some p.number } else t.banks[a].slots[j] := by
  rw [t.settleSlot_bank p x a]
  split
  · next hab =>
    subst hab
    rw [BankIndex.setSlot_eq]
    simp only [getElem_set_fin, true_and]
  · next hab => exact (if_neg fun h => hab h.1).symm

theorem TripStore.settleSlot_state_iff {st : BankState} (hst : st.fromSlots = false) (t : TripStore) (p : Program)
    (x : SlotState) (a : Fin 4) : (t.settleSlot p x).banks[a].state = st ↔ t.banks[a].state = st := by
  rw [t.settleSlot_bank p x a]
  split
  · next hab => exact BankIndex.setSlot_state_iff hst |>.trans (by rw [hab])
  · exact .rfl

/-- What is programmed of a record carries its number, with and without a RAM record (spec 12.5). -/
theorem recordWords_number (ram : Option TripRecord) (n : DWord) :
    (recordWords ram n).getD 1 erasedWord = n.extractLsb' 16 16
      ∧ (recordWords ram n).getD 2 erasedWord = n.extractLsb' 0 16 := by
  cases ram with
  | none => exact ⟨rfl, rfl⟩
  | some r =>
    exact ⟨TripRecord.word_lead (r := { r with tripNumber := n }) (o := 1) (by decide),
      TripRecord.word_lead (r := { r with tripNumber := n }) (o := 2) (by decide)⟩

/-- The slot in flight carries the program's number, and no other slot does (R132, R136). -/
theorem StoreLaw.flight_live {t : TripStore} (h : StoreLaw t) {p : Program} (hp : t.program = some p) :
    t.liveAt p.bank p.slot = some p.number := by
  rw [TripStore.liveAt, (h.slot p hp).2.2]
  rfl

/-- A program that verified: the record in its slot is the index's, and carries its number alone (R137). -/
theorem RecordLaw.programVerified {s : State} (h : RecordLaw s.store) (hs : StoreLaw s.store) {p : Program}
    (hp : s.store.program = some p) {u : TripStore} (ha : u.activity = .idle) (hprogram : u.program = none)
    (hbanks : u.banks = (s.store.settleSlot p .valid).banks)
    (hnv : u.nv = s.store.nv.set p.bank { s.store.nv[p.bank] with
      slots := s.store.nv[p.bank].slots.set p.slot (programmedSlot p s) })
    (hnext : u.nextNumber = s.store.nextNumber) (hoffer : u.offer = s.store.offer) : RecordLaw u := by
  have hslot (a : Fin 4) (j : Fin 8) := s.store.settleSlot_slot p .valid a j
  have hmem (a : Fin 4) : u.nv[a].stamp = s.store.nv[a].stamp ∧ ∀ j : Fin 8, u.nv[a].slots[j]
      = if a = p.bank ∧ j = p.slot then programmedSlot p s else s.store.nv[a].slots[j] := by
    rw [hnv, getElem_set_fin]
    split
    · next hab => subst hab; exact ⟨rfl, fun j => by simp only [getElem_set_fin, true_and]⟩
    · next hab => exact ⟨rfl, fun j => (if_neg fun h => hab h.1).symm⟩
  refine h.of_less (by simp [ha]) (fun a j n hl => ?_) (.inl hnext) (fun a j hst => ?_)
    (fun q hq => absurd (hprogram.symm.trans hq) nofun) (fun a hst => ?_) fun n hn => hoffer ▸ hn
  · rw [TripStore.liveAt, hbanks, hslot a j] at hl
    split at hl
    · next hplace =>
      obtain ⟨rfl, rfl⟩ := hplace
      rw [hs.flight_live hp]
      exact hl
    · exact hl
  · rw [(hmem a).1] at hst
    rw [(hmem a).2 j, hbanks, hslot a j]
    split
    · next hplace =>
      obtain ⟨rfl, rfl⟩ := hplace
      refine ⟨fun _ => ?_, nofun⟩
      obtain ⟨hhigh, hlow⟩ := recordWords_number s.recorder.ramRecord p.number
      have hhead (o : Nat) (ho : o < slotWords) := h.header p hp hst o ho
      have hnumber : (programmedSlot p s).headerNumber = p.number := by
        rw [NvSlot.headerNumber, programmedSlot_word, programmedSlot_word, hhead 1 (by decide), hhead 2 (by decide),
          hhigh, hlow]
        simp only [headerPlaced_getD, if_true, if_neg (by decide : ¬(1 = 0)), if_neg (by decide : ¬(2 = 0)),
          if_neg (by decide : ¬(2 = 1)), BitVec.and_self]
        exact extractLsb'_halves p.number
      rw [hnumber]
    · exact h.agrees a j hst
  · rw [(hmem a).1]
    rw [hbanks] at hst
    exact h.unstamped a (hst.imp (TripStore.settleSlot_state_iff rfl _ _ _ a).mp
      (TripStore.settleSlot_state_iff rfl _ _ _ a).mp)

/-- A program that failed: its slot is VOID, and no slot carries its number (R138). -/
theorem RecordLaw.programFailed {t u : TripStore} (h : RecordLaw t) (hs : StoreLaw t) {p : Program}
    (hp : t.program = some p) (ha : u.activity = .idle) (hprogram : u.program = none)
    (hbanks : u.banks = (t.settleSlot p .void).banks) (hnv : u.nv = t.nv) (hnext : u.nextNumber = t.nextNumber)
    (hoffer : u.offer = t.offer) : RecordLaw u ∧ (∀ b k, u.liveAt b k ≠ some p.number) ∧ u.assigned p.number := by
  have hslot (a : Fin 4) (j : Fin 8) := t.settleSlot_slot p .void a j
  have hlive {a : Fin 4} {j : Fin 8} {n : DWord} (hl : u.liveAt a j = some n) :
      ¬(a = p.bank ∧ j = p.slot) ∧ t.liveAt a j = some n := by
    rw [TripStore.liveAt, hbanks, hslot a j] at hl
    split at hl
    · exact absurd hl nofun
    · next hplace => exact ⟨hplace, hl⟩
  refine ⟨h.of_less (by simp [ha]) (fun a j n hl => (hlive hl).2) (.inl hnext) (fun a j hst => ?_)
    (fun q hq => absurd (hprogram.symm.trans hq) nofun) (fun a hst => ?_) fun n hn => hoffer ▸ hn, fun a j hl => ?_,
    (h.below (hs.flight_live hp)).mono (.inl hnext)⟩
  · rw [hnv] at hst ⊢
    rw [hbanks, hslot a j]
    split
    · next hplace =>
      obtain ⟨rfl, rfl⟩ := hplace
      refine ⟨fun hc => ?_, nofun⟩
      have hno := NvSlot.complete_of_word ((h.header p hp hst 47 (by decide)).trans (headerPlaced_completion _))
      exact absurd (hno.symm.trans hc) nofun
    · exact h.agrees a j hst
  · rw [hnv]
    rw [hbanks] at hst
    exact h.unstamped a (hst.imp (TripStore.settleSlot_state_iff rfl _ _ _ a).mp
      (TripStore.settleSlot_state_iff rfl _ _ _ a).mp)
  · obtain ⟨hplace, hl⟩ := hlive hl
    exact hplace (h.live hl (hs.flight_live hp))

/-- After a failure the record is missed, or offered again with the number no slot carries (R138). -/
theorem RecordLaw.afterFailure {s : State} (h : RecordLaw s.store) (hset : Settled s.store) {p : Program}
    (hn : (∀ b k, s.store.liveAt b k ≠ some p.number) ∧ s.store.assigned p.number) :
    RecordLaw (afterFailure p s).store := by
  unfold Machine.afterFailure
  split
  · simp only [recorderDone_frame, raiseStore_frame]
    exact { h with }
  · have hoffered : RecordLaw { s.store with offer := .retry p.number } :=
      { h with retry := fun n ho => by obtain rfl := Offer.retry.inj ho; exact hn }
    exact RecordLaw.takeOffer (s := { s with store := { s.store with offer := .retry p.number } }) hoffered
      (hset.of_same rfl rfl rfl rfl fun _ => ⟨rfl, rfl, rfl⟩)

theorem NumberLaw.endProgram {s : State} (h : NumberLaw s.store) (ha : s.store.activity = .programming) {p : Program}
    (hp : s.store.program = some p) (took : Bool) : NumberLaw (endProgram took p s).store := by
  have hrec := h.recordLaw (by simp [ha])
  refine RecordLaw.numberLaw ?_ (h.store.endProgram took hp)
  have hindex (x : State) (hr : RecordLaw x.store) (hi : IndexLaw x.store) :
      RecordLaw (Machine.chooseWork (Machine.preErase x)).store := hr.preErase.chooseWork hi.preErase
  unfold Machine.endProgram
  dsimp only
  split
  · refine hindex _ ?_ ?_ <;> rw [programVerified_store]
    · exact hrec.programVerified h.store hp rfl rfl rfl rfl rfl rfl
    · exact .inr (h.store.settleSlot hp (x := .valid) nofun rfl rfl rfl rfl rfl)
  · have hstore := programFailed_store p { s with store := { s.store.endWork with program := none } }
    have hset : Settled (Machine.programFailed p { s with store := { s.store.endWork with program := none } }).store := by
      rw [hstore]
      exact h.store.settleSlot hp (x := .void) nofun rfl rfl rfl rfl rfl
    obtain ⟨hr, hn⟩ := hrec.programFailed h.store hp (u := (Machine.programFailed p _).store) (by rw [hstore]; rfl)
      (by rw [hstore]; rfl) (by rw [hstore]; rfl) (by rw [hstore]; rfl) (by rw [hstore]; rfl) (by rw [hstore]; rfl)
    exact hindex _ (hr.afterFailure hset hn) (hset.afterFailure p)

/-! ### The other ends of store work (R131, R142, R147) -/

/-- A bank whose memory and index are replaced by ones without records (R142). -/
theorem RecordLaw.bankCleared {t u : TripStore} (h : RecordLaw t) (hp : t.program = none) {b : Fin 4} {e : BankIndex}
    {m : NvBank} (hbanks : u.banks = t.banks.set b e) (hnv : u.nv = t.nv.set b m)
    (hlive : ∀ k : Fin 8, e.slots[k].live = none)
    (hagrees : m.stamp.isSome = true → ∀ k : Fin 8, SlotAgrees m.slots[k] e.slots[k])
    (hstate : e.state ≠ .erasing ∧ e.state ≠ .eraseSuspended) (hprogram : u.program = t.program)
    (ha : u.activity = .idle) (hnext : u.nextNumber = t.nextNumber) (hoffer : u.offer = t.offer) : RecordLaw u := by
  have hbank (a : Fin 4) : u.banks[a] = if a = b then e else t.banks[a] := by rw [hbanks, getElem_set_fin]
  have hmem (a : Fin 4) : u.nv[a] = if a = b then m else t.nv[a] := by rw [hnv, getElem_set_fin]
  refine h.of_less (by simp [ha]) (fun a j n hl => ?_) (.inl hnext) (fun a j hst => ?_)
    (fun q hq => absurd ((hprogram.trans hp).symm.trans hq) nofun) (fun a hst => ?_) fun n hn => hoffer ▸ hn
  · rw [TripStore.liveAt, hbank a] at hl
    split at hl
    · rw [hlive j] at hl
      exact absurd hl nofun
    · exact hl
  · rw [hmem a] at hst ⊢
    rw [hbank a]
    split
    · next hab =>
      rw [if_pos hab] at hst
      exact hagrees hst j
    · next hab =>
      rw [if_neg hab] at hst
      exact h.agrees a j hst
  · rw [hmem a]
    rw [hbank a] at hst
    split
    · next hab =>
      rw [if_pos hab] at hst
      exact absurd hst (not_or.mpr hstate)
    · next hab =>
      rw [if_neg hab] at hst
      exact h.unstamped a hst

theorem SlotAgrees.erased : SlotAgrees NvSlot.erased { state := .blank, number := none } :=
  ⟨fun h => absurd h (by decide), fun _ => rfl⟩

theorem NumberLaw.endErase {s : State} (h : NumberLaw s.store) (ha : s.store.activity = .erasing) {b : Fin 4}
    (hb : s.store.busy = some b) (verified : Bool) : NumberLaw (endErase verified b s).store := by
  have hrec := h.recordLaw (by simp [ha])
  have hp := h.store.no_program (by simp [ha])
  have hset := h.store.eraseSettled ha hb verified
  refine RecordLaw.taken ?_ hset
  cases verified with
  | true =>
    simp only [if_true, eraseVerified, raiseStore_frame]
    refine hrec.bankCleared hp (b := b) rfl rfl (fun k => ?_) (fun _ k => ?_) ⟨nofun, nofun⟩ rfl rfl rfl rfl
    · rw [replicate_slot]
      rfl
    · have hword : (Vector.replicate 8 NvSlot.erased)[k] = NvSlot.erased := Vector.getElem_replicate k.isLt
      rw [replicate_slot, hword]
      exact .erased
  | false =>
    have hstamp := h.unstamped b (.inl ((h.store.erasing b).mpr ⟨ha, hb⟩))
    have hsame : s.store.nv = s.store.nv.set b s.store.nv[b] := by simp
    simp only [Bool.false_eq_true, if_false, eraseFailed, raiseStore_frame]
    refine hrec.bankCleared hp (b := b) rfl hsame (fun k => ?_) (fun hst => ?_) ⟨nofun, nofun⟩ rfl rfl rfl rfl
    · rw [replicate_slot]
      rfl
    · rw [hstamp] at hst
      exact absurd hst nofun

/-- A BLANK slot that turns VOID carries no record (R147). -/
theorem RecordLaw.voidSlot {t : TripStore} (h : RecordLaw t) {b : Fin 4} {k : Fin 8} (hp : t.program = none)
    (hk : t.banks[b].slots[k].state = .blank) :
    RecordLaw (t.setBank b (t.banks[b].setSlot k { state := .void, number := none })) := by
  have hbank := t.setBank_bank b (t.banks[b].setSlot k { state := .void, number := none })
  have hslot (a : Fin 4) (j : Fin 8) :
      (t.setBank b (t.banks[b].setSlot k { state := .void, number := none })).banks[a].slots[j]
        = if a = b ∧ j = k then { state := .void, number := none } else t.banks[a].slots[j] := by
    rw [hbank a]
    split
    · next hab =>
      subst hab
      rw [BankIndex.setSlot_eq]
      simp only [getElem_set_fin, true_and]
    · next hab => exact (if_neg fun h => hab h.1).symm
  refine h.of_less h.awake (fun a j n hl => ?_) (.inl rfl) (fun a j hst => ?_)
    (fun q hq => absurd (hp.symm.trans hq) nofun) (fun a hst => h.unstamped a ?_) fun _ => id
  · rw [TripStore.liveAt, hslot a j] at hl
    split at hl
    · exact absurd hl nofun
    · exact hl
  · rw [hslot a j]
    split
    · next hplace =>
      obtain ⟨rfl, rfl⟩ := hplace
      refine ⟨fun hc => ?_, nofun⟩
      rw [(h.agrees a j hst).held hc] at hk
      exact absurd hk nofun
    · exact h.agrees a j hst
  · rw [hbank a] at hst
    split at hst
    · next hab =>
      subst hab
      exact hst.imp (BankIndex.setSlot_state_iff rfl).mp (BankIndex.setSlot_state_iff rfl).mp
    · exact hst

theorem NumberLaw.endBlankCheck {s : State} (h : NumberLaw s.store) (ha : s.store.activity = .blankChecking)
    (b : Fin 4) : NumberLaw (endBlankCheck b s).store := by
  have hrec : RecordLaw s.store.endWork := { h.recordLaw (by simp [ha]) with awake := nofun }
  have hp := h.store.no_program (by simp [ha])
  refine RecordLaw.taken ?_ (h.store.checkSettled ha b)
  simp only [raiseStore_frame]
  obtain he | ⟨k, hk, he⟩ := markFound_eq b s.store.nv[b].firstProgrammed s.store.endWork <;> rw [he]
  · exact hrec
  · exact hrec.voidSlot hp hk

/-! ### The scan (R130, R131) -/

theorem le_maxNumber (a b : DWord) : a.toNat ≤ (maxNumber a b).toNat ∧ b.toNat ≤ (maxNumber a b).toNat := by
  unfold maxNumber
  split <;> omega

/-- The largest of a list stands in it, or is what the list began from, and no number exceeds it. -/
theorem foldl_maxNumber (l : List DWord) (a : DWord) :
    (l.foldl maxNumber a = a ∨ l.foldl maxNumber a ∈ l) ∧ a.toNat ≤ (l.foldl maxNumber a).toNat
      ∧ ∀ n ∈ l, n.toNat ≤ (l.foldl maxNumber a).toNat := by
  induction l generalizing a with
  | nil => simp
  | cons m l ih =>
    obtain ⟨hmem, hbase, hall⟩ := ih (maxNumber a m)
    obtain ⟨hleft, hright⟩ := le_maxNumber a m
    refine ⟨?_, hleft.trans hbase, fun n hn => ?_⟩
    · obtain hmem | hmem := hmem
      · rw [List.foldl_cons, hmem]
        unfold maxNumber
        split
        · exact .inr (List.mem_cons_self ..)
        · exact .inl rfl
      · exact .inr (List.mem_cons_of_mem _ hmem)
    · obtain rfl | hn := List.mem_cons.mp hn
      · exact hright.trans hbase
      · exact hall n hn

theorem le_largestOf {l : List DWord} {n : DWord} (h : n ∈ l) : n.toNat ≤ (largestOf l).toNat :=
  (foldl_maxNumber l 0).2.2 n h

theorem largestOf_mem {l : List DWord} (h : l ≠ []) : largestOf l ∈ l := by
  obtain hzero | hmem := (foldl_maxNumber l 0).1
  · obtain ⟨n, hn⟩ := List.exists_mem_of_ne_nil l h
    have hle := le_largestOf hn
    have hlargest : largestOf l = 0 := hzero
    rw [hlargest] at hle
    have hz : n = 0 := BitVec.eq_of_toNat_eq (Nat.le_zero.mp hle)
    rw [hlargest, ← hz]
    exact hn
  · exact hmem

theorem BankIndex.mem_numbersOf {e : BankIndex} {st : SlotState} {n : DWord} :
    n ∈ e.numbersOf st ↔ ∃ k : Fin 8, e.slots[k] = { state := st, number := some n } := by
  simp only [BankIndex.numbersOf, toList_eq_map_allSlots, List.filterMap_map, List.mem_filterMap, mem_allSlots,
    true_and, Function.comp_apply]
  refine exists_congr fun k => ?_
  obtain ⟨x, m⟩ := e.slots[k]
  by_cases hx : x = st
  · simp [hx]
  · simp [hx]

theorem TripStore.mem_validNumbers {t : TripStore} {n : DWord} :
    n ∈ t.validNumbers ↔ ∃ b k : Fin _, t.banks[b].slots[k] = { state := .valid, number := some n } := by
  simp only [TripStore.validNumbers, List.mem_flatten, List.mem_map, mem_allBanks, true_and]
  constructor
  · rintro ⟨_, ⟨b, rfl⟩, hn⟩
    exact ⟨b, BankIndex.mem_numbersOf.mp hn⟩
  · rintro ⟨b, hk⟩
    exact ⟨_, ⟨b, rfl⟩, BankIndex.mem_numbersOf.mpr hk⟩

theorem TripStore.mem_foundNumbers {t : TripStore} {n : DWord} :
    n ∈ t.foundNumbers ↔ ∃ b : Fin 4, n ∈ t.banks[b].numbersOf .valid ∨ n ∈ t.banks[b].numbersOf .void
      ∨ n ∈ t.banks[b].marks := by
  simp only [TripStore.foundNumbers, List.mem_flatten, List.mem_map, mem_allBanks, true_and]
  constructor
  · rintro ⟨_, ⟨b, rfl⟩, hn⟩
    exact ⟨b, by simpa [or_assoc] using hn⟩
  · rintro ⟨b, hn⟩
    exact ⟨_, ⟨b, rfl⟩, by simpa [or_assoc] using hn⟩

/-- A slot of a stamped bank is live after the scan where it holds a complete record (R130). -/
theorem NvSlot.classify_live (n : NvSlot) : n.classify.live = n.stored := by
  unfold NvSlot.classify NvSlot.stored NvSlot.complete
  by_cases h0 : n.word 0 = headerMarker
  · by_cases h47 : n.word 47 = completionMarker <;> simp [h0, h47, SlotIndex.live]
  · simp only [if_neg h0]
    split <;> simp [SlotIndex.live, h0]

theorem NvSlot.classify_agrees (n : NvSlot) : SlotAgrees n n.classify := by
  unfold NvSlot.classify
  constructor
  · intro hc
    obtain ⟨h0, h47⟩ := Bool.and_eq_true_iff.mp hc
    rw [beq_iff_eq] at h0 h47
    rw [if_pos h0, if_pos h47]
  · intro hb
    split at hb
    · dsimp only at hb
      split at hb <;> exact absurd hb nofun
    · dsimp only at hb
      split at hb
      · next h => simpa using h
      · exact absurd hb nofun

theorem TripStore.scanned_live (t : TripStore) (b : Fin 4) (k : Fin 8) : t.scanned.liveAt b k = t.storedAt b k := by
  rw [TripStore.liveAt, t.scanned_bank b, TripStore.storedAt]
  cases h : t.nv[b].stamp with
  | none =>
    have hc : t.nv[b].classify = BankIndex.unclassified := by rw [NvBank.classify, h]
    rw [hc, unclassified_slot]
    rfl
  | some count =>
    rw [NvBank.classify_slot h, NvSlot.classify_live]
    rfl

/-- The number after the scan lies above every record (R131, step 1). -/
theorem TripStore.scanned_assigned {t : TripStore} {b : Fin 4} {k : Fin 8} {n : DWord}
    (h : t.scanned.banks[b].slots[k] = { state := .valid, number := some n }) : t.scanned.assigned n := by
  have hvalid : n ∈ t.scanned.validNumbers := TripStore.mem_validNumbers.mpr ⟨b, k, h⟩
  have hfound : n ∈ t.scanned.foundNumbers :=
    TripStore.mem_foundNumbers.mpr ⟨b, .inl (BankIndex.mem_numbersOf.mpr ⟨k, h⟩)⟩
  have hnext : t.scanned.nextNumber = largestOf t.scanned.foundNumbers + 1 := by
    have hne : t.scanned.validNumbers.isEmpty = false := by simpa using List.ne_nil_of_mem hvalid
    have hnumber : t.scanned.nextNumber
        = if t.scanned.validNumbers.isEmpty then 1 else largestOf t.scanned.foundNumbers + 1 := rfl
    rw [hnumber, hne, if_neg Bool.false_ne_true]
  have hle := le_largestOf hfound
  unfold TripStore.assigned
  rw [hnext]
  bv_omega

theorem NumberLaw.scanned {t : TripStore} (h : NumberLaw t) (ha : t.activity = .scanning) :
    RecordLaw t.scanned.endWork := by
  have hlive (b : Fin 4) (k : Fin 8) : t.scanned.endWork.liveAt b k = t.storedAt b k := t.scanned_live b k
  have hp := h.store.no_program (by simp [ha])
  refine ⟨nofun, fun b c k j n hb hc => ?_, fun b k n hl => ?_, fun b k hst => ?_,
    fun p hpr => absurd (hp.symm.trans hpr) nofun, fun b hst => ?_, fun n hn => absurd ha (h.retry n hn).1⟩
  · rw [hlive] at hb hc
    exact TripStore.stored_nodup.mp h.stored hb hc
  · have hslot : t.scanned.banks[b].slots[k] = { state := .valid, number := some n } := by
      obtain ⟨hvalid, hnumber⟩ : t.scanned.banks[b].slots[k].state = .valid
          ∧ t.scanned.banks[b].slots[k].number = some n := by
        have hquiet : t.scanned.banks[b].slots[k].state ≠ .writing := by
          rw [t.scanned_bank b]
          exact t.nv[b].classify_law.2.1 k
        have hl : t.scanned.banks[b].slots[k].live = some n := hl
        unfold SlotIndex.live at hl
        split at hl
        · next hst => exact ⟨hst.resolve_right hquiet, hl⟩
        · exact absurd hl nofun
      rw [← hvalid, ← hnumber]
    exact TripStore.scanned_assigned hslot
  · obtain ⟨count, hcount⟩ : ∃ count, t.nv[b].stamp = some count := Option.isSome_iff_exists.mp hst
    have hslot : t.scanned.banks[b].slots[k] = t.nv[b].slots[k].classify := by
      rw [t.scanned_bank b, NvBank.classify_slot hcount]
    show SlotAgrees t.nv[b].slots[k] t.scanned.banks[b].slots[k]
    rw [hslot]
    exact NvSlot.classify_agrees _
  · have hbank : t.scanned.endWork.banks[b] = t.nv[b].classify := t.scanned_bank b
    rw [hbank] at hst
    exact absurd hst (not_or.mpr t.nv[b].classify_law.2.2)

/-! ### Every step -/

theorem NumberLaw.offerRecord {s : State} (h : NumberLaw s.store) : NumberLaw (offerRecord s).store := by
  have hoffered : NumberLaw { s.store with offer := .newRecord } :=
    { h with store := { h.store with }, retry := nofun }
  have htaken (ha : s.store.activity ≠ .scanning) (hp : s.store.activity ≠ .programming) :
      NumberLaw (Machine.chooseWork (Machine.takeOffer
        { s with store := { s.store with offer := .newRecord } })).store :=
    RecordLaw.taken (s := { s with store := { s.store with offer := .newRecord } }) (hoffered.recordLaw ha)
      (hoffered.store.settled hp)
  unfold Machine.offerRecord
  dsimp only
  split
  · next ha => exact htaken (by simp [ha]) (by simp [ha])
  · next ha => exact htaken (by simp [ha]) (by simp [ha])
  all_goals exact hoffered

/-- The store after a reset: the memory's records are as distinct as they were (R143). -/
theorem NumberLaw.afterReset {t : TripStore} (h : NumberLaw t) : NumberLaw (TripStore.afterReset t.nv t.nextTag) where
  store := storeLaw_afterReset _ _
  stored := h.stored
  live ha := absurd rfl ha
  below ha := absurd rfl ha
  held ha := absurd rfl ha
  blank ha := absurd rfl ha
  header p hp := nomatch hp
  unstamped b hb := by
    have hbank : (TripStore.afterReset t.nv t.nextTag).banks[b] = BankIndex.unclassified :=
      Vector.getElem_replicate b.isLt
    rw [hbank] at hb
    exact absurd hb (by decide)
  retry n hn := nomatch hn

theorem NumberLaw.move {t u : TripStore} (h : NumberLaw t) (hm : StoreMove t u) : NumberLaw u := by
  have hidle (hi : t.activity = .idle) {v : TripStore} (hv : RecordLaw v) (hs : StoreLaw v) :
      NumberLaw v.chooseWork := (hv.chooseWork (.inl hs)).numberLaw (IndexLaw.chooseWork (.inl hs))
  cases hm with
  | stands => exact h
  | flagsCleared => exact { h with store := { h.store with } }
  | offered s => exact h.offerRecord
  | trimmed _ b hi =>
    refine hidle hi ?_ (h.store.join b)
    have hrec := h.recordLaw (by simp [hi])
    unfold TripStore.join
    split
    · exact hrec
    · exact { hrec with }
  | erasedAll _ hi => exact hidle hi { h.recordLaw (by simp [hi]) with } h.store.eraseAll
  | checked _ b hi =>
    exact RecordLaw.numberLaw { h.recordLaw (by simp [hi]) with awake := nofun } (h.store.beginCheck hi b)
  | scanEnded s ha =>
    refine RecordLaw.taken ?_ ?_ <;> simp only [raiseStore_frame]
    · exact h.scanned ha
    · exact h.store.scanned ha
  | programEnded s took p ha hp => exact h.endProgram ha hp took
  | eraseEnded s verified b ha hb => exact h.endErase ha hb verified
  | checkEnded s b ha _ => exact h.endBlankCheck ha b
  | reset => exact h.afterReset

/-- Settles O11: what each piece of store work does to slots, stamps and numbers keeps the records' numbers distinct. -/
theorem stepKeepsNumberLaw : Obligations.StepKeepsNumberLaw := by
  unfold Obligations.StepKeepsNumberLaw
  intro s t h he
  exact h.move (.step he)

end Sys2Proof.Machine

/-! The requests to the store (O43, O45): STORE_STATUS, STORE_TRIM, STORE_ERASE_ALL, and the choice of the next work
they lead to. -/

namespace Sys2Proof.Machine

/-! ### STORE_STATUS (R148) -/

/-- Settles O45: the answer's bytes are the index's, and a scan refuses it. -/
theorem storeStatusAnswersTheIndex : Obligations.StoreStatusAnswersTheIndex := by
  unfold Obligations.StoreStatusAnswersTheIndex
  intro r s hslot hargs b
  have hstore : (requestTaken r s).store = s.store := by simp
  refine ⟨fun ha => congrArg Host.Outcome.next (serve_refused hslot ?_), fun ha => congrArg Host.Outcome.next ?_⟩
  · simp only [hargs, storeStatus, hstore, if_pos ha]
  · have howner : storeStatus r.args (requestTaken r s)
        = { state := requestTaken r s, answer := .ok, data := s.store.statusBytes } := by
      simp only [hargs, storeStatus, hstore, if_neg ha]
    have hflags : count8 (bit s.store.programFail 0 + bit s.store.eraseFail 1)
        = BitVec.ofNat 8 ((if s.store.programFail then 1 else 0) + (if s.store.eraseFail then 2 else 0)) := by
      cases s.store.programFail <;> cases s.store.eraseFail <;> rfl
    rw [serve_reply _ _ _ hslot, howner, TripStore.statusBytes, hflags]
    rfl

/-! ### The next work, exactly (R140) -/

theorem BankIndex.holds_iff (e : BankIndex) (n : DWord) :
    e.holds n = true ↔ (∃ k : Fin 8, e.slots[k].number = some n) ∨ n ∈ e.marks := by
  simp only [BankIndex.holds, toList_eq_map_allSlots, Bool.or_eq_true, List.any_map, List.any_eq_true, mem_allSlots,
    true_and, Function.comp_apply, beq_iff_eq, List.contains_iff_mem]

/-- An erase that begins touches its bank alone, and the store's work and queue. -/
theorem TripStore.beginErase_frame (t : TripStore) (b : Fin 4) (rest : List (Fin 4)) :
    t.beginErase b rest = { t with
      nv := (t.beginErase b rest).nv, banks := (t.beginErase b rest).banks, nextTag := t.nextTag + 8, queue := rest,
      activity := .erasing, busy := some b } := rfl

theorem TripStore.beginErase_own (t : TripStore) (b : Fin 4) (rest : List (Fin 4)) :
    (t.beginErase b rest).banks[b] = { t.banks[b] with state := .erasing, marks := [] }
      ∧ (t.beginErase b rest).nv[b].stamp = none ∧ (t.beginErase b rest).nv[b].marks = [] := by
  rw [TripStore.beginErase_bank, TripStore.beginErase_nv, if_pos rfl, if_pos rfl]
  exact ⟨rfl, rfl, rfl⟩

theorem TripStore.beginErase_other (t : TripStore) {a b : Fin 4} (h : a ≠ b) (rest : List (Fin 4)) :
    (t.beginErase b rest).banks[a] = t.banks[a] ∧ (t.beginErase b rest).nv[a] = t.nv[a] := by
  rw [TripStore.beginErase_bank, TripStore.beginErase_nv, if_neg h, if_neg h]
  exact ⟨rfl, rfl⟩

/-- The head of the queue begins its erase, the largest number it holds marked in another bank first (R140, step 2). -/
theorem TripStore.takeHead_erases {t : TripStore} {b : Fin 4} {rest : List (Fin 4)} (hq : t.queue = b :: rest)
    (h : t.banks[b].holds t.largestUsed = false ∨ t.markHolder.isSome = true) :
    t.takeHead b rest = { t with
        nv := (t.takeHead b rest).nv, banks := (t.takeHead b rest).banks, nextTag := (t.takeHead b rest).nextTag,
        queue := rest, activity := .erasing, busy := some b }
      ∧ (t.takeHead b rest).banks[b] = { t.banks[b] with state := .erasing, marks := [] }
      ∧ (t.takeHead b rest).nv[b].stamp = none ∧ (t.takeHead b rest).nv[b].marks = []
      ∧ ∀ a : Fin 4, a ≠ b →
        ((t.banks[b].holds t.largestUsed = true ∧ t.markHolder = some a) →
          (t.takeHead b rest).nv[a] = { t.nv[a] with marks := t.nv[a].marks ++ [t.largestUsed] }
            ∧ (t.takeHead b rest).banks[a] = { t.banks[a] with marks := t.banks[a].marks ++ [t.largestUsed] })
        ∧ (¬(t.banks[b].holds t.largestUsed = true ∧ t.markHolder = some a) →
          (t.takeHead b rest).nv[a] = t.nv[a] ∧ (t.takeHead b rest).banks[a] = t.banks[a]) := by
  cases hh : t.banks[b].holds t.largestUsed with
  | false =>
    rw [TripStore.takeHead_plain hh]
    obtain ⟨hbank, hstamp, hmarks⟩ := t.beginErase_own b rest
    refine ⟨t.beginErase_frame b rest, hbank, hstamp, hmarks, fun a ha => ⟨fun hm => absurd hm.1 nofun, fun _ => ?_⟩⟩
    exact (t.beginErase_other ha rest).symm
  | true =>
    have hsome := h.resolve_left (by rw [hh]; exact nofun)
    rw [TripStore.takeHead_marked hh hsome]
    obtain ⟨hbank, hstamp, hmarks⟩ := (t.markForRetry t.largestUsed).beginErase_own b rest
    have hhead : t.markHolder ≠ some b := fun hm => by
      have hfree := TripStore.markHolder_not_queued hm
      simp [TripStore.queued, hq] at hfree
    refine ⟨?_, ?_, hstamp, hmarks, fun a ha => ?_⟩
    · obtain ⟨nv, banks, hm⟩ := t.markForRetry_frame t.largestUsed
      rw [hm]
      rfl
    · rw [hbank, TripStore.markForRetry_bank, if_neg hhead]
    · obtain ⟨hother, hmem⟩ := (t.markForRetry t.largestUsed).beginErase_other ha rest
      rw [hother, hmem, TripStore.markForRetry_bank, TripStore.markForRetry_nv]
      refine ⟨fun hm => ?_, fun hm => ?_⟩
      · rw [if_pos hm.2, if_pos hm.2]
        exact ⟨rfl, rfl⟩
      · have hno : ¬t.markHolder = some a := fun he => hm ⟨rfl, he⟩
        rw [if_neg hno, if_neg hno]
        exact ⟨rfl, rfl⟩

/-! ### STORE_TRIM (R145) -/

/-- The smallest of a list stands in it, or is what the list began from, and exceeds no number. -/
theorem foldl_minNumber (l : List DWord) (a : DWord) :
    (l.foldl minNumber a = a ∨ l.foldl minNumber a ∈ l) ∧ (l.foldl minNumber a).toNat ≤ a.toNat
      ∧ ∀ n ∈ l, (l.foldl minNumber a).toNat ≤ n.toNat := by
  have hmin (a b : DWord) : (minNumber a b = a ∨ minNumber a b = b) ∧ (minNumber a b).toNat ≤ a.toNat
      ∧ (minNumber a b).toNat ≤ b.toNat := by
    unfold minNumber
    split
    · exact ⟨.inr rfl, by omega, Nat.le_refl _⟩
    · exact ⟨.inl rfl, Nat.le_refl _, by omega⟩
  induction l generalizing a with
  | nil => simp
  | cons m l ih =>
    obtain ⟨hmem, hbase, hall⟩ := ih (minNumber a m)
    obtain ⟨hone, hleft, hright⟩ := hmin a m
    rw [List.foldl_cons]
    refine ⟨?_, hbase.trans hleft, fun n hn => ?_⟩
    · obtain hmem | hmem := hmem
      · rw [hmem]
        exact hone.imp_right fun h => List.mem_cons.mpr (.inl h)
      · exact .inr (List.mem_cons_of_mem _ hmem)
    · obtain rfl | hn := List.mem_cons.mp hn
      · exact hbase.trans hright
      · exact hall n hn

/-- The one bank that passes a test is the one found. -/
theorem find?_only {α : Type} {l : List α} {p : α → Bool} {b : α} (hb : b ∈ l) (hp : p b = true)
    (honly : ∀ c, p c = true → c = b) : l.find? p = some b := by
  cases hf : l.find? p with
  | none => exact absurd hp (List.find?_eq_none.mp hf b hb)
  | some c => rw [honly c (List.find?_some hf)]

/-- The bank that holds the smallest VALID number is the one to trim (R145). -/
theorem TripStore.oldestBank_eq {t : TripStore} {b : Fin 4} {k : Fin 8} {n : DWord}
    (hk : t.banks[b].slots[k] = { state := .valid, number := some n })
    (hleast : ∀ (c : Fin 4) (j : Fin 8) (m : DWord), t.banks[c].slots[j] = { state := .valid, number := some m } →
      n.toNat < m.toNat ∨ c = b ∧ n.toNat ≤ m.toNat) : t.oldestBank = some b := by
  have hn : n ∈ t.validNumbers := TripStore.mem_validNumbers.mpr ⟨b, k, hk⟩
  have hsmallest : t.smallestValid = some n := by
    unfold TripStore.smallestValid
    cases hl : t.validNumbers with
    | nil =>
      rw [hl] at hn
      exact absurd hn List.not_mem_nil
    | cons x rest =>
      obtain ⟨hmem, hbase, hall⟩ := foldl_minNumber rest x
      have hstands : rest.foldl minNumber x ∈ t.validNumbers := by
        rw [hl]
        exact List.mem_cons.mpr hmem
      obtain ⟨c, j, hj⟩ := TripStore.mem_validNumbers.mp hstands
      have hge : n.toNat ≤ (rest.foldl minNumber x).toNat := by
        obtain hlt | ⟨-, hle⟩ := hleast c j _ hj
        · exact hlt.le
        · exact hle
      have hle : (rest.foldl minNumber x).toNat ≤ n.toNat := by
        rw [hl] at hn
        obtain rfl | hn := List.mem_cons.mp hn
        · exact hbase
        · exact hall n hn
      exact congrArg some (BitVec.eq_of_toNat_eq (Nat.le_antisymm hle hge))
  simp only [TripStore.oldestBank, hsmallest]
  refine find?_only (mem_allBanks b) ?_ fun c hc => ?_
  · exact List.contains_iff_mem.mpr (BankIndex.mem_numbersOf.mpr ⟨k, hk⟩)
  · obtain ⟨j, hj⟩ := BankIndex.mem_numbersOf.mp (List.contains_iff_mem.mp hc)
    obtain hlt | ⟨hcb, -⟩ := hleast c j n hj
    · exact absurd hlt (Nat.lt_irrefl _)
    · exact hcb

theorem TripStore.oldestBank_none {t : TripStore}
    (h : ∀ (b : Fin 4) (k : Fin 8), t.banks[b].slots[k].state ≠ .valid) : t.oldestBank = none := by
  have hnil : t.validNumbers = [] := List.eq_nil_iff_forall_not_mem.mpr fun n hn => by
    obtain ⟨b, k, hk⟩ := TripStore.mem_validNumbers.mp hn
    exact h b k (by rw [hk])
  simp only [TripStore.oldestBank, TripStore.smallestValid, hnil]

theorem TripStore.join_eq (t : TripStore) (b : Fin 4) :
    t.join b = { t with queue := if b ∈ t.queue then t.queue else t.queue ++ [b] } := by
  unfold TripStore.join TripStore.queued
  by_cases h : b ∈ t.queue
  · rw [if_pos (List.contains_iff_mem.mpr h), if_pos h]
  · rw [if_neg fun hc => h (List.contains_iff_mem.mp hc), if_neg h]

section Trim

variable {r : Request} {s : State}

/-- An accepted STORE_TRIM (R145). -/
theorem exec_storeTrim_accepted (hslot : s.link.slot = none) (hargs : r.args = []) (hi : s.store.activity = .idle)
    {b : Fin 4} (hb : s.store.oldestBank = some b) :
    exec (.storeTrim r) s = .next (answerPlaced 13 r .accepted
      [BitVec.ofNat 8 b.val, BitVec.ofNat 8 s.store.banks[b].validCount]
      { requestTaken r s with store := TripStore.chooseWork { s.store with
          queue := if b ∈ s.store.queue then s.store.queue else s.store.queue ++ [b] } }) := by
  have hstore : (requestTaken r s).store = s.store := by simp
  have howner : storeTrim r.args (requestTaken r s) = trimBank b (requestTaken r s) := by
    simp only [hargs, storeTrim, hstore, hi, hb]
  refine congrArg Host.Outcome.next ?_
  rw [serve_reply _ _ _ hslot, howner, trimBank, hstore, TripStore.join_eq]
  rfl

/-- An accepted STORE_ERASE_ALL, and one that finds nothing to erase (R146). -/
theorem exec_storeEraseAll_idle (hslot : s.link.slot = none) (hargs : r.args = []) (hi : s.store.activity = .idle) :
    (s.store.toErase = [] → exec (.storeEraseAll r) s = .next (answerPlaced 14 r .ok [0] (requestTaken r s)))
    ∧ (s.store.toErase ≠ [] → exec (.storeEraseAll r) s = .next (answerPlaced 14 r .accepted
        [BitVec.ofNat 8 s.store.toErase.length]
        { requestTaken r s with store := TripStore.chooseWork { s.store with
            queue := s.store.queue ++ s.store.toErase, eraseAll := true } })) := by
  have hstore : (requestTaken r s).store = s.store := by simp
  have howner : storeEraseAll r.args (requestTaken r s) = eraseAllBanks (requestTaken r s) := by
    simp only [hargs, storeEraseAll, hstore, hi]
  refine ⟨fun h => congrArg Host.Outcome.next ?_, fun h => congrArg Host.Outcome.next ?_⟩
  · rw [serve_reply _ _ _ hslot, howner, eraseAllBanks, hstore]
    simp only [if_pos h]
  · rw [serve_reply _ _ _ hslot, howner, eraseAllBanks, hstore]
    simp only [if_neg h]
    rfl

/-- Both are refused during the scan and while the store works, and STORE_TRIM where no slot is VALID (R145, R146). -/
theorem exec_storeErases_refused (hslot : s.link.slot = none) (hargs : r.args = []) :
    (s.store.activity = .scanning →
      exec (.storeTrim r) s = .next (answerPlaced 13 r .scanning [] (requestTaken r s))
      ∧ exec (.storeEraseAll r) s = .next (answerPlaced 14 r .scanning [] (requestTaken r s)))
    ∧ (s.store.activity ≠ .idle ∧ s.store.activity ≠ .scanning →
      exec (.storeTrim r) s = .next (answerPlaced 13 r .busy [] (requestTaken r s))
      ∧ exec (.storeEraseAll r) s = .next (answerPlaced 14 r .busy [] (requestTaken r s)))
    ∧ (s.store.activity = .idle → s.store.oldestBank = none →
      exec (.storeTrim r) s = .next (answerPlaced 13 r .noRecord [] (requestTaken r s))) := by
  have hstore : (requestTaken r s).store = s.store := by simp
  have htrim {a : AnswerCode} (h : storeTrim [] (requestTaken r s) = refuse a [] (requestTaken r s)) :
      exec (.storeTrim r) s = .next (answerPlaced 13 r a [] (requestTaken r s)) :=
    congrArg Host.Outcome.next (serve_refused hslot (hargs ▸ h))
  have herase {a : AnswerCode} (h : storeEraseAll [] (requestTaken r s) = refuse a [] (requestTaken r s)) :
      exec (.storeEraseAll r) s = .next (answerPlaced 14 r a [] (requestTaken r s)) :=
    congrArg Host.Outcome.next (serve_refused hslot (hargs ▸ h))
  refine ⟨fun ha => ⟨htrim ?_, herase ?_⟩, fun ⟨hi, hs⟩ => ⟨htrim ?_, herase ?_⟩, fun ha hb => htrim ?_⟩
  · simp only [storeTrim, hstore, ha]
  · simp only [storeEraseAll, hstore, ha]
  · simp only [storeTrim, hstore]
    split
    · next ha => exact absurd ha hs
    · next ha => exact absurd ha hi
    all_goals rfl
  · simp only [storeEraseAll, hstore]
    split
    · next ha => exact absurd ha hs
    · next ha => exact absurd ha hi
    all_goals rfl
  · simp only [storeTrim, hstore, ha, hb]

end Trim

/-- An idle store without a suspended erase begins the erase of its queue's head, where no mark is needed (R140). -/
theorem TripStore.chooseWork_erases {t : TripStore} (hi : t.activity = .idle)
    (hs : ∀ b : Fin 4, t.banks[b].state ≠ .eraseSuspended) {b : Fin 4} {rest : List (Fin 4)} (hq : t.queue = b :: rest)
    (hh : t.banks[b].holds t.largestUsed = false) : t.chooseWork = t.beginErase b rest := by
  rw [TripStore.chooseWork_queue hi hs hq, TripStore.takeHead_plain hh]

/-- The choice of the next work, case by case (R140). -/
theorem TripStore.chooseWork_spec (t : TripStore) :
    (t.activity ≠ .idle → t.chooseWork = t)
    ∧ (t.activity = .idle → ∀ b : Fin 4, t.banks[b].state = .eraseSuspended →
        (∀ a : Fin 4, t.banks[a].state = .eraseSuspended → a = b) → t.chooseWork = t.resume b)
    ∧ (t.activity = .idle → (∀ a : Fin 4, t.banks[a].state ≠ .eraseSuspended) → t.queue = [] →
        t.chooseWork = t.goIdle) := by
  refine ⟨TripStore.chooseWork_working, fun hi b hb honly => ?_, fun hi hs hq => TripStore.chooseWork_empty hi hs hq⟩
  exact TripStore.chooseWork_suspended hi (find?_only (mem_allBanks b) (by simpa using hb) fun a ha =>
    honly a (by simpa using ha))

/-- Settles O43: each request's answer and queue, and then the choice of the next work. -/
theorem storeErasesOnRequest : Obligations.StoreErasesOnRequest := by
  unfold Obligations.StoreErasesOnRequest
  refine ⟨?_, ?_, ?_, ?_, ?_, fun t => ?_⟩
  · intro r s b k n hslot hargs hi hq hs hk hothers hown hh
    have hb : s.store.oldestBank = some b := TripStore.oldestBank_eq hk fun c j m hm => by
      obtain hlt | hcb := hothers c j m hm
      · exact .inl hlt
      · exact .inr ⟨hcb, hown j m (hcb ▸ hm)⟩
    have hqueue : (if b ∈ s.store.queue then s.store.queue else s.store.queue ++ [b]) = [b] := by simp [hq]
    have hwork : TripStore.chooseWork { s.store with queue := [b] }
        = TripStore.beginErase { s.store with queue := [b] } b [] :=
      TripStore.chooseWork_erases (t := { s.store with queue := [b] }) hi hs rfl hh
    rw [exec_storeTrim_accepted hslot hargs hi hb, hqueue, hwork]
    obtain ⟨hbank, hstamp, hmarks⟩ := TripStore.beginErase_own { s.store with queue := [b] } b []
    exact ⟨_, rfl, rfl, rfl, rfl, by rw [hbank], by rw [hbank], hstamp, hmarks,
      fun c hc => TripStore.beginErase_other _ hc [], rfl, rfl⟩
  · intro r s hslot hargs hi hq hs c banks
    have hbanks : s.store.toErase = banks := by
      simp only [TripStore.toErase, TripStore.queued, hq, List.contains_nil, Bool.not_false, Bool.and_true]
      rfl
    obtain ⟨hnone, hsome⟩ := exec_storeEraseAll_idle hslot hargs hi
    rw [hbanks] at hnone hsome
    refine ⟨hnone, fun b rest hrest hh => ?_⟩
    have hwork : TripStore.chooseWork { s.store with queue := s.store.queue ++ banks, eraseAll := true }
        = TripStore.beginErase { s.store with queue := s.store.queue ++ banks, eraseAll := true } b rest :=
      TripStore.chooseWork_erases (t := { s.store with queue := s.store.queue ++ banks, eraseAll := true }) hi hs
        (by rw [hq, hrest]; rfl) hh
    have hexec := hsome (by rw [hrest]; exact nofun)
    rw [hwork] at hexec
    obtain ⟨hbank, -, -⟩ :=
      TripStore.beginErase_own { s.store with queue := s.store.queue ++ banks, eraseAll := true } b rest
    exact ⟨_, hexec, rfl, rfl, rfl, rfl, by rw [hbank], fun a ha => (TripStore.beginErase_other _ ha rest).1, rfl, rfl⟩
  · intro r s hslot hargs u working
    obtain ⟨hscan, hbusy, hnone⟩ := exec_storeErases_refused hslot hargs
    exact ⟨hscan, hbusy, fun hi hv => hnone hi (TripStore.oldestBank_none hv)⟩
  · intro r s b k n hslot hargs hi hk hleast
    exact exec_storeTrim_accepted hslot hargs hi (TripStore.oldestBank_eq hk hleast)
  · intro r s hslot hargs hi
    exact exec_storeEraseAll_idle hslot hargs hi
  · intro c n holder u still stopped
    obtain ⟨hwork, hresume, hrest⟩ := t.chooseWork_spec
    refine ⟨hwork, hresume, hrest, ?_⟩
    intro hi hs b rest hq held
    have hheld : t.banks[b].holds t.largestUsed = true ↔ held := t.banks[b].holds_iff t.largestUsed
    have hu : u = t.takeHead b rest := TripStore.chooseWork_queue hi hs hq
    have hholder : holder = t.markHolder := rfl
    rw [hu, hholder]
    refine ⟨fun hh hm => TripStore.takeHead_heldBack (hheld.mpr hh) hm rest, fun hor => ?_⟩
    obtain ⟨hframe, hbank, hstamp, hmarks, hother⟩ := TripStore.takeHead_erases hq
      (hor.imp_left fun hno => Bool.eq_false_iff.mpr fun hh => hno (hheld.mp hh))
    refine ⟨hframe, hbank, hstamp, hmarks, fun a ha => ?_⟩
    obtain ⟨hmarked, hkept⟩ := hother a ha
    rw [hheld] at hmarked hkept
    by_cases hm : held ∧ t.markHolder = some a
    · simp only [if_pos hm]
      exact hmarked hm
    · simp only [if_neg hm]
      exact hkept hm

end Sys2Proof.Machine

/-! The ends of an erase, of a blank check and of a program (O44, O46, O47): what each leaves in slot, bank and log, and
what the offer and the work taken up afterwards leave of it. -/

namespace Sys2Proof.Machine

/-! ### What the choice of work leaves (R140) -/

/-- The choice of the next work may move banks into their erases, and marks; the slots of the index stand, and so does
the memory of every bank but the one erased. -/
structure WorkKeeps (t u : TripStore) : Prop where
  frame : u = { t with
    nv := u.nv, nextTag := u.nextTag, banks := u.banks, queue := u.queue, eraseAll := u.eraseAll,
    activity := u.activity, busy := u.busy }
  bank : ∀ a : Fin 4, u.banks[a] = { t.banks[a] with state := u.banks[a].state, marks := u.banks[a].marks }
  state : ∀ a : Fin 4, u.banks[a].state = t.banks[a].state
    ∨ u.banks[a].state = .erasing ∧ (t.banks[a].state = .eraseSuspended ∨ a ∈ t.queue)
  memory : ∀ a : Fin 4, u.banks[a].state ≠ .erasing → u.nv[a] = { t.nv[a] with marks := u.nv[a].marks }
  activity : t.activity = .idle → u.activity = .idle ∨ u.activity = .erasing

namespace WorkKeeps

variable {t u m : TripStore}

theorem slots (h : WorkKeeps t u) (a : Fin 4) : u.banks[a].slots = t.banks[a].slots := by rw [h.bank a]

theorem validCount (h : WorkKeeps t u) (a : Fin 4) : u.banks[a].validCount = t.banks[a].validCount := by rw [h.bank a]

theorem eraseCount (h : WorkKeeps t u) (a : Fin 4) : u.banks[a].eraseCount = t.banks[a].eraseCount := by rw [h.bank a]

theorem resume {b : Fin 4} (hb : t.banks[b].state = .eraseSuspended) :
    WorkKeeps t (t.resume b) := by
  have hbank := t.resume_bank b
  refine ⟨rfl, fun a => ?_, fun a => ?_, fun a _ => rfl, fun _ => .inr rfl⟩
  · rw [hbank a]
    split
    · next hab => rw [hab]
    · rfl
  · rw [hbank a]
    split
    · next hab => exact .inr ⟨rfl, .inl (hab ▸ hb)⟩
    · exact .inl rfl

/-- An erase begins after a number may have gone to a mark. -/
theorem beginErase {b : Fin 4} {rest : List (Fin 4)} (hq : t.queue = b :: rest)
    (hm : m = t ∨ m = t.markForRetry t.largestUsed) : WorkKeeps t (m.beginErase b rest) := by
  have hbank := m.beginErase_bank b rest
  have hnv := m.beginErase_nv b rest
  have hmark (a : Fin 4) : m.banks[a] = { t.banks[a] with marks := m.banks[a].marks }
      ∧ m.nv[a] = { t.nv[a] with marks := m.nv[a].marks } := by
    obtain rfl | rfl := hm
    · exact ⟨rfl, rfl⟩
    · rw [TripStore.markForRetry_bank, TripStore.markForRetry_nv]
      split <;> exact ⟨rfl, rfl⟩
  have hstate (a : Fin 4) : m.banks[a].state = t.banks[a].state := by rw [(hmark a).1]
  have hframe : ∃ nv banks, m = { t with nv := nv, banks := banks } := by
    obtain rfl | rfl := hm
    · exact ⟨_, _, rfl⟩
    · exact t.markForRetry_frame _
  refine ⟨?_, fun a => ?_, fun a => ?_, fun a ha => ?_, fun _ => .inr rfl⟩
  · obtain ⟨nv, banks, rfl⟩ := hframe
    rfl
  · rw [hbank a]
    split
    · next hab => rw [hab, (hmark b).1]
    · exact (hmark a).1.trans (by rw [hstate a])
  · rw [hbank a]
    split
    · next hab => exact .inr ⟨rfl, .inr (by rw [hq, hab]; exact List.mem_cons_self ..)⟩
    · exact .inl (hstate a)
  · rw [hbank a] at ha
    rw [hnv a]
    split
    · next hab =>
      rw [if_pos hab] at ha
      exact absurd rfl ha
    · exact (hmark a).2

end WorkKeeps

theorem workKeeps_chooseWork (t : TripStore) : WorkKeeps t t.chooseWork := by
  have hmove := workChoice_chooseWork t
  generalize t.chooseWork = u at hmove ⊢
  cases hmove with
  | worksOn hi => exact ⟨rfl, fun _ => rfl, fun _ => .inl rfl, fun _ _ => rfl, fun h => absurd h hi⟩
  | resumes hi b hb => exact .resume hb
  | erases hi hs b rest hq m hm => exact .beginErase hq hm
  | rests hi hs => exact ⟨rfl, fun _ => rfl, fun _ => .inl rfl, fun _ _ => rfl, fun _ => .inl rfl⟩

/-! ### ERASE_COMPLETION (R142) -/

theorem exec_eraseCompletion {s : State} {b : Fin 4} (ha : s.store.activity = .erasing) (hb : s.store.busy = some b)
    (verified : Bool) : exec (.eraseCompletion verified) s = .next (endErase verified b s) := by
  show execEraseCompletion verified s = _
  simp only [execEraseCompletion, ha, hb]

/-- A bank of the index after an erase that verified, with its erase count (R142). -/
def BankIndex.erasedWith (count : Nat) : BankIndex where
  state := .blank
  eraseCount := count
  validCount := 0
  slots := Vector.replicate 8 { state := .blank, number := none }
  marks := []

/-- A bank of the memory after an erase that verified, with its stamp (R142). -/
def NvBank.erasedWith (count : Nat) : NvBank where
  slots := Vector.replicate 8 NvSlot.erased
  stamp := some count
  marks := []

/-- A bank of the index after an erase that failed (R142, assumption 26). -/
def BankIndex.retire (e : BankIndex) : BankIndex :=
  { e with state := .retired, validCount := 0, slots := Vector.replicate 8 { state := .void, number := none } }

/-- The store after an erase that verified (R142). -/
def TripStore.eraseDone (t : TripStore) (b : Fin 4) (count : Nat) : TripStore :=
  { t with
    nv := t.nv.set b (NvBank.erasedWith count), banks := t.banks.set b (BankIndex.erasedWith count)
    activity := .idle, busy := none }

/-- The store after an erase that failed (R142). -/
def TripStore.eraseLost (t : TripStore) (b : Fin 4) : TripStore :=
  { t with
    banks := t.banks.set b t.banks[b].retire, eraseFails := min (t.eraseFails + 1) 65535, eraseFail := true
    activity := .idle, busy := none }

/-- An erase ends with its record, then the offer and the next work (R140, R142). -/
theorem endErase_verified (b : Fin 4) (s : State) :
    endErase true b s = chooseWork (takeOffer { s with
      store := s.store.eraseDone b (min (s.store.banks[b].eraseCount + 1) 65535)
      log := (raise .store (.bank b) 4 (BitVec.ofNat 32 b.val)
        (BitVec.ofNat 32 (min (s.store.banks[b].eraseCount + 1) 65535)) s).log }) := rfl

theorem endErase_failed (b : Fin 4) (s : State) :
    endErase false b s = chooseWork (takeOffer { s with
      store := s.store.eraseLost b
      log := (raise .store (.bank b) 5 (BitVec.ofNat 32 b.val)
        (BitVec.ofNat 32 s.store.banks[b].eraseCount) s).log }) := rfl

/-- A bank that was neither suspended nor queued keeps its state through the choice of work. -/
theorem WorkKeeps.stands {t u : TripStore} (h : WorkKeeps t u) {b : Fin 4} (hs : t.banks[b].state ≠ .eraseSuspended)
    (hq : b ∉ t.queue) : u.banks[b].state = t.banks[b].state :=
  (h.state b).resolve_right fun hor => hor.2.elim hs hq

/-- A bank erased stays BLANK, erased and stamped through the choice of the next work, where it is not queued. -/
theorem TripStore.eraseDone_chosen (t : TripStore) (b : Fin 4) (count : Nat) (hq : b ∉ t.queue) :
    (t.eraseDone b count).chooseWork.banks[b].state = .blank
      ∧ (t.eraseDone b count).chooseWork.banks[b].validCount = 0
      ∧ (t.eraseDone b count).chooseWork.banks[b].eraseCount = count
      ∧ (∀ k : Fin 8, (t.eraseDone b count).chooseWork.banks[b].slots[k] = { state := .blank, number := none })
      ∧ (t.eraseDone b count).chooseWork.nv[b].stamp = some count
      ∧ ∀ (k : Fin 8) (o : Nat), (t.eraseDone b count).chooseWork.nv[b].slots[k].word o = 0xFFFF#16 := by
  have hkeeps := workKeeps_chooseWork (t.eraseDone b count)
  have hbank : (t.eraseDone b count).banks[b] = .erasedWith count := (getElem_set_fin ..).trans (if_pos rfl)
  have hnv : (t.eraseDone b count).nv[b] = .erasedWith count := (getElem_set_fin ..).trans (if_pos rfl)
  have hstate : (t.eraseDone b count).chooseWork.banks[b].state = .blank :=
    (hkeeps.stands (by rw [hbank]; exact nofun) hq).trans (by rw [hbank]; rfl)
  have hmemory := hkeeps.memory b (by rw [hstate]; exact nofun)
  refine ⟨hstate, ?_, ?_, fun k => ?_, ?_, fun k o => ?_⟩
  · rw [hkeeps.validCount, hbank]
    rfl
  · rw [hkeeps.eraseCount, hbank]
    rfl
  · rw [hkeeps.slots, hbank]
    exact replicate_slot _ k
  · rw [hmemory, hnv]
    rfl
  · rw [hmemory, hnv]
    have hword : (NvBank.erasedWith count).slots[k] = NvSlot.erased := Vector.getElem_replicate k.isLt
    exact congrArg (NvSlot.word · o) hword

/-- A bank that failed its erase stays RETIRED through the choice of the next work, where it is not queued. -/
theorem TripStore.eraseLost_chosen (t : TripStore) (b : Fin 4) (hq : b ∉ t.queue) :
    (t.eraseLost b).chooseWork.banks[b].state = .retired
      ∧ (∀ k : Fin 8, (t.eraseLost b).chooseWork.banks[b].slots[k] = { state := .void, number := none })
      ∧ (t.eraseLost b).chooseWork.banks[b].eraseCount = t.banks[b].eraseCount := by
  have hkeeps := workKeeps_chooseWork (t.eraseLost b)
  have hbank : (t.eraseLost b).banks[b] = t.banks[b].retire := (getElem_set_fin ..).trans (if_pos rfl)
  refine ⟨(hkeeps.stands (by rw [hbank]; exact nofun) hq).trans (by rw [hbank]; rfl), fun k => ?_, ?_⟩
  · rw [hkeeps.slots, hbank]
    exact replicate_slot _ k
  · rw [hkeeps.eraseCount, hbank]
    rfl

/-- Settles O47: the bank is BLANK with its stamp, or RETIRED, and stays so through the work taken up. -/
theorem eraseCompletionBlanksOrRetires : Obligations.EraseCompletionBlanksOrRetires := by
  unfold Obligations.EraseCompletionBlanksOrRetires
  refine ⟨fun s b ha hb ho hq hs => ⟨?_, ?_⟩, fun s b ha hb => ?_⟩
  · obtain ⟨hstate, hvalid, hcount, hslots, hstamp, hwords⟩ :=
      s.store.eraseDone_chosen b (min (s.store.banks[b].eraseCount + 1) 65535) hq
    rw [exec_eraseCompletion ha hb, endErase_verified, takeOffer_none (by exact ho)]
    exact ⟨_, rfl, hstate, hvalid, hcount, hslots, hstamp, hwords, rfl⟩
  · obtain ⟨hstate, hslots, hcount⟩ := s.store.eraseLost_chosen b hq
    have hframe := (workKeeps_chooseWork (s.store.eraseLost b)).frame
    rw [exec_eraseCompletion ha hb, endErase_failed, takeOffer_none (by exact ho)]
    exact ⟨_, rfl, hstate, hslots, congrArg TripStore.eraseFail hframe, congrArg TripStore.eraseFails hframe, hcount,
      rfl⟩
  · rw [exec_eraseCompletion ha hb, exec_eraseCompletion ha hb, endErase_verified, endErase_failed]
    exact ⟨rfl, rfl⟩

/-! ### STORE_BLANK_CHECK and its completion (R147) -/

/-- The first place of an ordered list that passes a test is the one found. -/
theorem find?_first {m : Nat} {l : List (Fin m)} (hl : l.Pairwise (· < ·)) {p : Fin m → Bool} {k : Fin m}
    (hmem : k ∈ l) (hk : p k = true) (hbefore : ∀ j < k, p j = false) : l.find? p = some k := by
  induction l with
  | nil => exact absurd hmem List.not_mem_nil
  | cons a l ih =>
    obtain ⟨hlt, hl⟩ := List.pairwise_cons.mp hl
    obtain rfl | hmem := List.mem_cons.mp hmem
    · exact List.find?_cons_of_pos hk
    · rw [List.find?_cons_of_neg (by simp [hbefore a (hlt k hmem)])]
      exact ih hl hmem

/-- No place before the one found passes the test. -/
theorem find?_before {m : Nat} {l : List (Fin m)} (hl : l.Pairwise (· < ·)) (hall : ∀ j, j ∈ l) {p : Fin m → Bool}
    {k : Fin m} (h : l.find? p = some k) {j : Fin m} (hj : j < k) : p j = false := by
  obtain ⟨-, as, bs, rfl, hbefore⟩ := List.find?_eq_some_iff_append.mp h
  have hmem : j ∈ as := by
    have hor := hall j
    simp only [List.mem_append, List.mem_cons] at hor
    obtain hin | rfl | hin := hor
    · exact hin
    · exact absurd hj (lt_irrefl j)
    · have hlt := List.rel_of_pairwise_cons (List.pairwise_append.mp hl).2.1 hin
      exact absurd hj (lt_asymm hlt)
  exact (Bool.not_eq_true' _).mp (hbefore j hmem)

theorem allSlots_sorted : allSlots.Pairwise (· < ·) := by decide

theorem allBanks_sorted : allBanks.Pairwise (· < ·) := by decide

theorem NvBank.firstProgrammed_none {n : NvBank} (h : ∀ k : Fin 8, n.slots[k].firstProgrammed = none) :
    n.firstProgrammed = none := by
  simp only [NvBank.firstProgrammed, List.findSome?_eq_none_iff, Option.map_eq_none_iff]
  exact fun k _ => h k

/-- The first slot with a programmed word is the one found, with its first such word. -/
theorem NvBank.firstProgrammed_some {n : NvBank} {k : Fin 8} {w : Nat} (hk : n.slots[k].firstProgrammed = some w)
    (hbefore : ∀ j : Fin 8, j < k → n.slots[j].firstProgrammed = none) : n.firstProgrammed = some (k, w) := by
  have hfind : allSlots.find? (fun j => (n.slots[j].firstProgrammed).isSome) = some k :=
    find?_first allSlots_sorted (mem_allSlots k) (by simp only [hk, Option.isSome_some]) fun j hj => by
      simp only [hbefore j hj, Option.isSome_none]
  obtain ⟨-, as, bs, hl, has⟩ := List.find?_eq_some_iff_append.mp hfind
  rw [NvBank.firstProgrammed, List.findSome?_eq_some_iff]
  refine ⟨as, k, bs, hl, by rw [hk]; rfl, fun j hj => ?_⟩
  have hno := has j hj
  simp only [Bool.not_eq_true', Option.isSome_eq_false_iff, Option.isNone_iff_eq_none] at hno
  rw [hno]
  rfl

/-- A check ends with its record, its slot marked, then the offer and the next work (R140, R147). -/
theorem endBlankCheck_eq (b : Fin 4) (s : State) :
    endBlankCheck b s = chooseWork (takeOffer { s with
      store := markFound b s.store.nv[b].firstProgrammed { s.store with activity := .idle, busy := none }
      log := (raise .store (.bank b) 6 (BitVec.ofNat 32 b.val) (foundData s.store.nv[b].firstProgrammed) s).log }) :=
  rfl

theorem exec_blankCheckCompletion {s : State} {b : Fin 4} (ha : s.store.activity = .blankChecking)
    (hb : s.store.busy = some b) : exec .blankCheckCompletion s = .next (endBlankCheck b s) := by
  show execBlankCheckCompletion s = _
  simp only [execBlankCheckCompletion, ha, hb]

/-- The slots a check leaves: the one it found VOID where it was BLANK, and no other touched. -/
theorem markFound_slots (b : Fin 4) (found : Option (Fin 8 × Nat)) (t : TripStore) (c : Fin 4) (j : Fin 8) :
    (markFound b found t).banks[c].slots[j]
      = if c = b ∧ found.map Prod.fst = some j ∧ t.banks[c].slots[j].state = .blank
        then { state := .void, number := none } else t.banks[c].slots[j] := by
  unfold markFound
  split
  · next k w =>
    by_cases hk : t.banks[b].slots[k].state = .blank
    · rw [if_pos hk, TripStore.setBank_bank]
      by_cases hcb : c = b
      · subst hcb
        have hset : (t.banks[c].setSlot k { state := .void, number := none }).slots[j]
            = if j = k then { state := .void, number := none } else t.banks[c].slots[j] := by
          rw [BankIndex.setSlot_eq]
          exact getElem_set_fin ..
        rw [if_pos rfl, hset]
        by_cases hjk : j = k
        · subst hjk
          exact (if_pos rfl).trans (if_pos ⟨rfl, rfl, hk⟩).symm
        · exact (if_neg hjk).trans (if_neg fun h => hjk (Option.some.inj h.2.1).symm).symm
      · rw [if_neg hcb, if_neg fun h => hcb h.1]
    · rw [if_neg hk, if_neg]
      rintro ⟨rfl, hj, hblank⟩
      obtain rfl : k = j := Option.some.inj hj
      exact hk hblank
  · rw [if_neg fun h => absurd h.2.1 nofun]

theorem markFound_activity (b : Fin 4) (found : Option (Fin 8 × Nat)) (t : TripStore) :
    (markFound b found t).activity = t.activity ∧ (markFound b found t).offer = t.offer := by
  obtain h | ⟨k, -, h⟩ := markFound_eq b found t <;> rw [h] <;> exact ⟨rfl, rfl⟩

/-- Settles O44: the request's refusals in their order, and the completion with what it found. -/
theorem blankCheckReadsTheBank : Obligations.BlankCheckReadsTheBank := by
  unfold Obligations.BlankCheckReadsTheBank
  refine ⟨?_, ?_, ?_⟩
  · intro r s n b hslot hargs hn u taken
    have hstore : (requestTaken r s).store = s.store := by simp
    have hbusy : s.store.bankBusy b = true ↔ taken := s.store.bankBusy_iff b
    have howner : storeBlankCheck r.args (requestTaken r s) = checkBank b (requestTaken r s) := by
      have hlt : n.toNat < 4 := hn ▸ b.isLt
      have hb : (⟨n.toNat, hlt⟩ : Fin 4) = b := Fin.ext hn
      simp only [hargs, storeBlankCheck, dif_pos hlt, hb]
    have hrefused {a : AnswerCode} (h : checkBank b (requestTaken r s) = refuse a [] (requestTaken r s)) :
        exec (.storeBlankCheck r) s = .next (answerPlaced 15 r a [] u) :=
      congrArg Host.Outcome.next (serve_refused hslot (howner.trans h))
    refine ⟨fun ha => hrefused ?_, fun ha ht => hrefused ?_, fun ha ht hi => hrefused ?_, fun hi ht => ?_⟩
    · rw [checkBank, hstore, if_pos ha]
    · rw [checkBank, hstore, if_neg ha, if_pos (hbusy.mpr ht)]
    · rw [checkBank, hstore, if_neg ha, if_neg (hbusy.not.mpr ht), if_neg hi]
    · have hscan : s.store.activity ≠ .scanning := by simp [hi]
      refine congrArg Host.Outcome.next ?_
      rw [serve_reply _ _ _ hslot, howner, checkBank, hstore, if_neg hscan, if_neg (hbusy.not.mpr ht), if_pos hi]
      rfl
  · intro s b ha hb ho
    obtain ⟨hactivity, hoffer⟩ := markFound_activity b s.store.nv[b].firstProgrammed
      { s.store with activity := .idle, busy := none }
    have hkeeps := workKeeps_chooseWork (markFound b s.store.nv[b].firstProgrammed
      { s.store with activity := .idle, busy := none })
    have hslot (c : Fin 4) (j : Fin 8) := markFound_slots b s.store.nv[b].firstProgrammed
      { s.store with activity := .idle, busy := none } c j
    rw [exec_blankCheckCompletion ha hb, endBlankCheck_eq, takeOffer_none (hoffer.trans ho)]
    refine ⟨_, rfl, ?_, fun c j hc => ?_, fun k hk hbefore => ?_, fun hnone => ?_, rfl⟩
    · intro hcheck
      obtain hidle | her := hkeeps.activity hactivity
      · exact absurd (hcheck.symm.trans hidle) nofun
      · exact absurd (hcheck.symm.trans her) nofun
    · exact (congrArg (·[j]) (hkeeps.slots c)).trans ((hslot c j).trans (if_neg fun h => hc h.1))
    · obtain ⟨w, hw⟩ := Option.ne_none_iff_exists'.mp hk
      have hfound := NvBank.firstProgrammed_some hw hbefore
      refine ⟨(congrArg (·[k]) (hkeeps.slots b)).trans ((hslot b k).trans ?_), fun j hj => ?_⟩
      · rw [hfound]
        simp
      · refine (congrArg (·[j]) (hkeeps.slots b)).trans ((hslot b j).trans (if_neg fun h => hj ?_))
        rw [hfound] at h
        exact (Option.some.inj h.2.1).symm
    · refine (hkeeps.slots b).trans ?_
      rw [NvBank.firstProgrammed_none hnone]
      rfl
  · intro s b ha hb event ended
    rw [exec_blankCheckCompletion ha hb, endBlankCheck_eq]
    refine ⟨fun hnone => ?_, fun k w hw hbefore => ⟨fun hk => ?_, fun hk => ?_⟩⟩
    · rw [NvBank.firstProgrammed_none hnone]
      rfl
    · rw [NvBank.firstProgrammed_some hw hbefore, markFound]
      simp only [if_neg hk]
      rfl
    · rw [NvBank.firstProgrammed_some hw hbefore, markFound]
      simp only [if_pos hk]
      rfl

end Sys2Proof.Machine

/-! The end of a program (O46): the slot it leaves VALID or VOID, the retry offered at once, pre-erase, and what the
work taken up afterwards leaves of it. -/

namespace Sys2Proof.Machine

/-! ### Pre-erase (R141) -/

/-- What pre-erase and the choice of the next work leave of a store (R140, R141): the slots stand, and so does the
memory of every bank but the one erased. -/
structure EndKeeps (t u : TripStore) : Prop where
  frame : u = { t with
    nv := u.nv, nextTag := u.nextTag, banks := u.banks, queue := u.queue, eraseAll := u.eraseAll,
    activity := u.activity, busy := u.busy, overwritten := u.overwritten }
  slots : ∀ a : Fin 4, u.banks[a].slots = t.banks[a].slots
  validCount : ∀ a : Fin 4, u.banks[a].validCount = t.banks[a].validCount
  memory : ∀ a : Fin 4, u.banks[a].state ≠ .erasing → u.nv[a].slots = t.nv[a].slots

theorem WorkKeeps.after_preErased {t m u : TripStore} (hpre : PreErased t m) (hkeeps : WorkKeeps m u) :
    EndKeeps t u := by
  have hframe := hkeeps.frame
  have hmemory (a : Fin 4) (ha : u.banks[a].state ≠ .erasing) : u.nv[a].slots = m.nv[a].slots :=
    by rw [hkeeps.memory a ha]
  cases hpre with
  | stands => exact ⟨by rw [hframe], hkeeps.slots, hkeeps.validCount, hmemory⟩
  | queued b count hq => exact ⟨by rw [hframe], hkeeps.slots, hkeeps.validCount, hmemory⟩

theorem endKeeps_chooseWork_preErase (s : State) : EndKeeps s.store (chooseWork (preErase s)).store :=
  (workKeeps_chooseWork _).after_preErased (preErased_preErase s)

/-- Pre-erase and the choice of work reach the store and the log alone. -/
theorem chooseWork_preErase_blocks (s : State) : chooseWork (preErase s)
    = { s with store := (chooseWork (preErase s)).store, log := (chooseWork (preErase s)).log } := by
  apply State.ext_blocks <;> simp

/-- Pre-erase, case by case (R141). -/
theorem preErase_spec (s : State) :
    (2 ≤ s.store.banks[s.store.current].blankCount → preErase s = s)
    ∧ (s.store.banks[s.store.current].blankCount < 2 →
      (s.store.nextBank = none → preErase s = s)
      ∧ ∀ b, s.store.nextBank = some b →
        (b ∈ s.store.queue ∨ s.store.banks[b].state = .blank ∨ s.store.banks[b].state = .erasing
            ∨ s.store.banks[b].state = .eraseSuspended → preErase s = s)
        ∧ (b ∉ s.store.queue →
          (s.store.banks[b].state = .needsErase →
            preErase s = { s with store := { s.store with queue := s.store.queue ++ [b] } })
          ∧ (s.store.banks[b].state = .full ∨ s.store.banks[b].state = .open →
            (storeMode s = .keep → preErase s = s)
            ∧ (storeMode s = .wrap → preErase s = { s with
                store := { s.store with
                  queue := s.store.queue ++ [b]
                  overwritten := min (s.store.overwritten + s.store.banks[b].validCount) 65535 }
                log := (raise .overwrite (.bank b) 0 (BitVec.ofNat 32 b.val)
                  (BitVec.ofNat 32 s.store.banks[b].validCount) s).log })))) := by
  refine ⟨fun h => ?_, fun h => ⟨fun hn => ?_, fun b hn => ⟨fun hb => ?_, fun hq => ?_⟩⟩⟩
  · rw [preErase, if_neg (by omega)]
  · simp only [preErase, if_pos h, hn]
  · simp only [preErase, if_pos h, hn]
    obtain hin | hst | hst | hst := hb
    · exact if_pos (List.contains_iff_mem.mpr hin)
    all_goals simp only [hst, ite_self]
  · have hfree : s.store.queued b = false := Bool.eq_false_iff.mpr fun hc => hq (List.contains_iff_mem.mp hc)
    have hover : queueOverwrite b s = { s with
        store := { s.store with
          queue := s.store.queue ++ [b]
          overwritten := min (s.store.overwritten + s.store.banks[b].validCount) 65535 }
        log := (raise .overwrite (.bank b) 0 (BitVec.ofNat 32 b.val)
          (BitVec.ofNat 32 s.store.banks[b].validCount) s).log } := by
      rw [queueOverwrite, TripStore.join_of_not_queued hfree]
      rfl
    refine ⟨fun hst => ?_, fun hst => ⟨fun hm => ?_, fun hm => ?_⟩⟩
    · simp only [preErase, if_pos h, hn, hfree, hst, Bool.false_eq_true, if_false, TripStore.join_of_not_queued hfree]
    · obtain hst | hst := hst <;> simp only [preErase, if_pos h, hn, hfree, hst, hm, Bool.false_eq_true, if_false]
    · rw [← hover]
      obtain hst | hst := hst <;> simp only [preErase, if_pos h, hn, hfree, hst, hm, Bool.false_eq_true, if_false]

/-! ### A program that verified (R137) -/

theorem exec_programCompletion {s : State} {p : Program} (ha : s.store.activity = .programming)
    (hp : s.store.program = some p) (took : Bool) :
    exec (.programCompletion took) s = .next (endProgram took p s) := by
  show execProgramCompletion took s = _
  simp only [execProgramCompletion, ha, hp]

/-- Every word of the record but its completion marker asks for no bit of the slot that is 0 already. -/
theorem readsAsProgrammed_iff {p : Program} {s : State} {x : TripRecord} (hx : s.recorder.ramRecord = some x) :
    readsAsProgrammed p s = true ↔ ∀ o < 2160, o ≠ 47 → s.store.nv[p.bank].slots[p.slot].word o
      &&& ({ x with tripNumber := p.number } : TripRecord).word o
        = ({ x with tripNumber := p.number } : TripRecord).word o := by
  rw [readsAsProgrammed, NvSlot.canRead_iff, hx]
  rfl

/-- The store after a program that verified (R137). -/
def TripStore.programLanded (t : TripStore) (p : Program) (n : NvSlot) : TripStore :=
  ({ t with activity := .idle, busy := none, program := none }.setNv p.bank
    { t.nv[p.bank] with slots := t.nv[p.bank].slots.set p.slot n }).settleSlot p .valid

/-- The unit after a program that verified, before the next work (R137). -/
def programLanded (p : Program) (s : State) : State :=
  { s with
    store := s.store.programLanded p (programmedSlot p s)
    log := (raise .store (.bank p.bank) 1 p.number (BitVec.ofNat 32 (p.bank.val * 65536 + p.slot.val)) s).log
    recorder := { s.recorder with state := .done } }

theorem endProgram_verified {p : Program} {s : State} (h : readsAsProgrammed p s = true) :
    endProgram true p s = chooseWork (preErase (programLanded p s)) := by
  have hreads : readsAsProgrammed p { s with store := { s.store.endWork with program := none } } = true := h
  rw [endProgram]
  simp only [hreads, Bool.and_self, if_true]
  rfl

namespace TripStore

variable (t : TripStore) (p : Program) (n : NvSlot)

theorem programLanded_frame : t.programLanded p n = { t with
    nv := (t.programLanded p n).nv, banks := (t.programLanded p n).banks,
    program := none, activity := .idle, busy := none } := rfl

theorem programLanded_nv (a : Fin 4) : (t.programLanded p n).nv[a]
    = if a = p.bank then { t.nv[p.bank] with slots := t.nv[p.bank].slots.set p.slot n } else t.nv[a] :=
  getElem_set_fin ..

theorem programLanded_bank {a : Fin 4} (h : a ≠ p.bank) : (t.programLanded p n).banks[a] = t.banks[a] :=
  (settleSlot_bank ..).trans (if_neg h)

theorem programLanded_slot (a : Fin 4) (j : Fin 8) : (t.programLanded p n).banks[a].slots[j]
    = if a = p.bank ∧ j = p.slot then { state := .valid, number := some p.number } else t.banks[a].slots[j] :=
  settleSlot_slot ..

theorem programLanded_validCount :
    (t.programLanded p n).banks[p.bank].validCount = t.banks[p.bank].validCount + 1 :=
  congrArg BankIndex.validCount ((settleSlot_bank ..).trans (if_pos rfl))

end TripStore

/-! ### A program that failed (R138) -/

/-- The store after a program that failed (R138). -/
def TripStore.programLost (t : TripStore) (p : Program) : TripStore :=
  { ({ t with activity := .idle, busy := none, program := none } : TripStore).settleSlot p .void with
    programFails := min (t.programFails + 1) 65535, programFail := true }

/-- The unit after a first failure, whose record is offered again (R138). -/
def programOffered (p : Program) (s : State) : State :=
  { s with
    store := { s.store.programLost p with offer := .retry p.number }
    log := (raise .store (.bank p.bank) 2 p.number (BitVec.ofNat 32 (p.bank.val * 65536 + p.slot.val)) s).log }

/-- The unit after the second failure of a record, which is missed (R138). -/
def programMissed (p : Program) (s : State) : State :=
  { s with
    store := { s.store.programLost p with missed := min (s.store.missed + 1) 65535 }
    log := (raise .store .none 3 p.number 1
      (raise .store (.bank p.bank) 2 p.number (BitVec.ofNat 32 (p.bank.val * 65536 + p.slot.val)) s)).log
    recorder := { s.recorder with state := .done } }

/-- A first failure is taken through selection again at once (R138). -/
theorem endProgram_failed_first {p : Program} {s : State} {took : Bool}
    (h : (took && readsAsProgrammed p s) = false) (hr : p.retry = false) :
    endProgram took p s = chooseWork (preErase (takeOffer (programOffered p s))) := by
  have hreads : (took && readsAsProgrammed p { s with store := { s.store.endWork with program := none } }) = false := h
  rw [endProgram]
  simp only [hreads, Bool.false_eq_true, if_false, afterFailure, hr]
  rfl

/-- A second failure is missed (R138). -/
theorem endProgram_failed_second {p : Program} {s : State} {took : Bool}
    (h : (took && readsAsProgrammed p s) = false) (hr : p.retry = true) :
    endProgram took p s = chooseWork (preErase (programMissed p s)) := by
  have hreads : (took && readsAsProgrammed p { s with store := { s.store.endWork with program := none } }) = false := h
  rw [endProgram]
  simp only [hreads, Bool.false_eq_true, if_false, afterFailure, hr]
  rfl

theorem TripStore.programLost_slot (t : TripStore) (p : Program) :
    (t.programLost p).banks[p.bank].slots[p.slot] = { state := .void, number := some p.number } :=
  (settleSlot_slot ..).trans (if_pos ⟨rfl, rfl⟩)

/-- A bank with a slot that is not BLANK is not BLANK. -/
theorem BankIndex.setSlot_not_blank (e : BankIndex) (k : Fin 8) {x : SlotIndex} (hx : x.state ≠ .blank) :
    (e.setSlot k x).state ≠ .blank := by
  rw [BankIndex.setSlot_eq]
  dsimp only
  split
  · have hused : (e.slots.set k x)[k].state ≠ .blank := by
      simp only [getElem_set_fin, if_true]
      exact hx
    rw [stateFromSlots_of_used hused]
    split <;> exact nofun
  · next hfrom => exact fun h => hfrom (by rw [h]; rfl)

/-- A retry finds another slot than the one that failed. -/
theorem TripStore.programLost_not_placeable (t : TripStore) (p : Program) :
    ¬Placeable (t.programLost p) p.bank p.slot := by
  rintro ⟨-, hblank | hslot⟩
  · have hbank : (t.programLost p).banks[p.bank] = _ := (settleSlot_bank ..).trans (if_pos rfl)
    rw [hbank] at hblank
    exact BankIndex.setSlot_not_blank t.banks[p.bank] p.slot (x := { state := .void, number := some p.number })
      nofun hblank
  · rw [programLost_slot] at hslot
    exact absurd hslot nofun

/-- A retry taken through selection leaves a slot it cannot be placed in, the next number and the failures. -/
theorem takeOffer_retry_keeps {s : State} {n : DWord} (ho : s.store.offer = .retry n) (hi : s.store.activity = .idle)
    {b : Fin 4} {k : Fin 8} (hbk : ¬Placeable s.store b k) :
    (takeOffer s).store.banks[b].slots[k] = s.store.banks[b].slots[k]
      ∧ (takeOffer s).store.nextNumber = s.store.nextNumber
      ∧ (takeOffer s).store.programFail = s.store.programFail
      ∧ (takeOffer s).store.programFails = s.store.programFails := by
  have hretry {retry : Bool} {m : DWord} (h : Offered retry m s) : retry = true := by
    cases retry with
    | true => rfl
    | false => exact absurd (ho.symm.trans h.1) nofun
  have hmove := offerTaken_takeOffer s
  generalize (takeOffer s).store = u at hmove ⊢
  cases hmove with
  | stands => exact ⟨rfl, rfl, rfl, rfl⟩
  | placed retry m c j hm he hs =>
    have hne : b ≠ c ∨ k ≠ j := by
      by_contra hno
      obtain ⟨rfl, rfl⟩ : b = c ∧ k = j := by simpa only [not_or, not_not] using hno
      exact hbk hs
    have hframe := s.store.placed_frame c j m retry
    refine ⟨(TripStore.placed_other_slot m retry hs.bank (by rw [hi]; exact nofun) hne).1, ?_, ?_, ?_⟩
    · rw [hframe, hretry hm]
      rfl
    · rw [hframe]
    · rw [hframe]
  | queued c count hq => exact ⟨rfl, rfl, rfl, rfl⟩
  | missed retry m next marks hm hn =>
    have hframe := s.store.missedOffer_frame m marks next
    obtain ⟨-, hslots, -⟩ := s.store.missedOffer_same m marks next b
    refine ⟨congrArg (·[k]) hslots, ?_, ?_, ?_⟩
    · rw [hframe]
      exact hn.resolve_right fun h => absurd ((hretry hm).symm.trans h.1) nofun
    · rw [hframe]
    · rw [hframe]

/-! ### The obligation -/

/-- Pre-erase and the choice of work leave the slots, the next number and the failures (R140, R141). -/
theorem chooseWork_preErase_stands (s : State) (b : Fin 4) (k : Fin 8) :
    (chooseWork (preErase s)).store.banks[b].slots[k] = s.store.banks[b].slots[k]
      ∧ (chooseWork (preErase s)).store.programFail = s.store.programFail
      ∧ (chooseWork (preErase s)).store.programFails = s.store.programFails
      ∧ (chooseWork (preErase s)).store.nextNumber = s.store.nextNumber
      ∧ (chooseWork (preErase s)).store.missed = s.store.missed := by
  have hkeeps := endKeeps_chooseWork_preErase s
  refine ⟨congrArg (·[k]) (hkeeps.slots b), ?_, ?_, ?_, ?_⟩ <;> rw [hkeeps.frame]

/-- A failed program, through the retry and the work taken up afterwards. -/
theorem endProgram_failed {p : Program} {s : State} {took : Bool} (h : (took && readsAsProgrammed p s) = false) :
    (endProgram took p s).store.banks[p.bank].slots[p.slot] = { state := .void, number := some p.number }
      ∧ (endProgram took p s).store.programFail = true
      ∧ (endProgram took p s).store.programFails = min (s.store.programFails + 1) 65535
      ∧ (endProgram took p s).store.nextNumber = s.store.nextNumber
      ∧ (p.retry = true → (endProgram took p s).recorder = { s.recorder with state := .done }
          ∧ (endProgram took p s).store.missed = min (s.store.missed + 1) 65535)
      ∧ endProgram took p s = { s with
          store := (endProgram took p s).store, log := (endProgram took p s).log,
          recorder := (endProgram took p s).recorder } := by
  have hslot := s.store.programLost_slot p
  have hplace := s.store.programLost_not_placeable p
  cases hr : p.retry with
  | false =>
    rw [endProgram_failed_first h hr]
    obtain ⟨hkept, hnext, hfail, hfails⟩ := takeOffer_retry_keeps (s := programOffered p s) rfl rfl
      (b := p.bank) (k := p.slot) fun hb => hplace ⟨hb.bank, hb.slot⟩
    obtain ⟨hkept', hfail', hfails', hnext', -⟩ :=
      chooseWork_preErase_stands (takeOffer (programOffered p s)) p.bank p.slot
    refine ⟨hkept'.trans (hkept.trans hslot), hfail'.trans hfail, hfails'.trans hfails, hnext'.trans hnext, nofun, ?_⟩
    apply State.ext_blocks <;> simp [programOffered]
  | true =>
    rw [endProgram_failed_second h hr]
    obtain ⟨hkept, hfail, hfails, hnext, hmissed⟩ := chooseWork_preErase_stands (programMissed p s) p.bank p.slot
    refine ⟨hkept.trans hslot, hfail, hfails, hnext, fun _ => ⟨?_, hmissed⟩, ?_⟩
    · simp [programMissed]
    · apply State.ext_blocks <;> simp [programMissed]

/-- A verified program, through the work taken up afterwards. -/
theorem programLanded_chosen (p : Program) (s : State) :
    ∃ t, chooseWork (preErase (programLanded p s)) = t
      ∧ t.store.banks[p.bank].slots[p.slot] = { state := .valid, number := some p.number }
      ∧ t.store.banks[p.bank].validCount = s.store.banks[p.bank].validCount + 1
      ∧ (∀ (b : Fin 4) (k : Fin 8), b ≠ p.bank ∨ k ≠ p.slot →
          t.store.banks[b].slots[k] = s.store.banks[b].slots[k])
      ∧ (t.store.banks[p.bank].state ≠ .erasing → t.store.nv[p.bank].slots[p.slot] = programmedSlot p s
          ∧ ∀ j : Fin 8, j ≠ p.slot → t.store.nv[p.bank].slots[j] = s.store.nv[p.bank].slots[j])
      ∧ t.store.program = none ∧ t.store.nextNumber = s.store.nextNumber
      ∧ t.recorder = { s.recorder with state := .done }
      ∧ t = { s with store := t.store, log := t.log, recorder := t.recorder } := by
  have hkeeps := endKeeps_chooseWork_preErase (programLanded p s)
  have hblocks := chooseWork_preErase_blocks (programLanded p s)
  generalize chooseWork (preErase (programLanded p s)) = t at hkeeps hblocks
  have hslot (b : Fin 4) (k : Fin 8) : t.store.banks[b].slots[k]
      = if b = p.bank ∧ k = p.slot then { state := .valid, number := some p.number }
        else s.store.banks[b].slots[k] :=
    (congrArg (·[k]) (hkeeps.slots b)).trans (s.store.programLanded_slot p _ b k)
  refine ⟨t, rfl, (hslot _ _).trans (if_pos ⟨rfl, rfl⟩), ?_, fun b k h => ?_, fun ha => ?_, ?_, ?_, ?_, ?_⟩
  · exact (hkeeps.validCount _).trans (s.store.programLanded_validCount p _)
  · exact (hslot b k).trans (if_neg fun ⟨hb, hk⟩ => h.elim (absurd hb) (absurd hk))
  · have hnv : t.store.nv[p.bank].slots = s.store.nv[p.bank].slots.set p.slot (programmedSlot p s) :=
      (hkeeps.memory _ ha).trans
        (congrArg NvBank.slots ((s.store.programLanded_nv p (programmedSlot p s) p.bank).trans (if_pos rfl)))
    refine ⟨(congrArg (·[p.slot]) hnv).trans ?_, fun j hj => (congrArg (·[j]) hnv).trans ?_⟩
    · exact (getElem_set_fin ..).trans (if_pos rfl)
    · exact (getElem_set_fin ..).trans (if_neg hj)
  · rw [hkeeps.frame]
    rfl
  · rw [hkeeps.frame]
    rfl
  · rw [hblocks]
    rfl
  · rw [hblocks]
    rfl

/-- Settles O46: the slot VALID with the record's words, or VOID with its number and the record offered again or
missed; and pre-erase. -/
theorem programCompletionWritesOrVoids : Obligations.ProgramCompletionWritesOrVoids := by
  unfold Obligations.ProgramCompletionWritesOrVoids
  refine ⟨?_, ?_, ?_, ?_⟩
  · intro s p x ha hp hx old r hreads
    obtain ⟨t, ht, hslot, hvalid, hother, hmem, hprogram, hnext, hrec, hblocks⟩ := programLanded_chosen p s
    have hword (o : Nat) : (programmedSlot p s).word o = old.word o &&& r.word o := by
      rw [programmedSlot_word, hx]
      rfl
    refine ⟨t, ?_, hslot, hvalid, hother, fun he => ?_, hrec, hprogram, hnext, hblocks⟩
    · rw [exec_programCompletion ha hp, endProgram_verified ((readsAsProgrammed_iff hx).mpr hreads), ht]
    · obtain ⟨hmem, hkept⟩ := hmem he
      rw [hmem]
      refine ⟨hword, fun o ho hne => (hword o).trans (hreads o ho hne), fun hold => ?_, hkept⟩
      rw [hword, hold, r.word_completion]
      rfl
  · intro s p took ha hp hfail place e failed w
    have hno : (took && readsAsProgrammed p s) = false := by
      obtain rfl | ⟨x, hx, o, ho, hne, hbits⟩ := hfail
      · rfl
      · rw [Bool.and_eq_false_iff]
        exact .inr (Bool.eq_false_iff.mpr fun h => hbits ((readsAsProgrammed_iff hx).mp h o ho hne))
    rw [exec_programCompletion ha hp]
    refine ⟨?_, fun hr => ?_, fun hr => ?_⟩
    · exact ⟨_, rfl, endProgram_failed hno⟩
    · rw [endProgram_failed_first hno hr]
      rfl
    · rw [endProgram_failed_second hno hr]
      rfl
  · intro s p x ha hp hx old r hreads
    refine ⟨programLanded p s, programmedSlot p s, ?_, s.store.programLanded_frame p _, fun b hb => ⟨?_, ?_⟩, ?_,
      fun o => ?_, rfl, rfl⟩
    · rw [exec_programCompletion ha hp, endProgram_verified ((readsAsProgrammed_iff hx).mpr hreads)]
    · exact (s.store.programLanded_nv p _ b).trans (if_neg hb)
    · exact s.store.programLanded_bank p _ hb
    · exact (s.store.programLanded_nv p _ p.bank).trans (if_pos rfl)
    · rw [programmedSlot_word, hx]
      rfl
  · intro s c blanks next
    obtain ⟨htwo, hfew⟩ := preErase_spec s
    refine ⟨htwo, fun h hn => (hfew h).1 hn, ?_⟩
    intro h b hn holding
    obtain ⟨hstands, hqueue⟩ := (hfew h).2 b hn
    exact ⟨hstands, fun hq => (hqueue hq).1, fun hq hh => ((hqueue hq).2 hh).1, fun hq hh => ((hqueue hq).2 hh).2⟩

end Sys2Proof.Machine

/-! The end of the scan (O42): the index it leaves, the numbers and the current bank it takes from it, the work it
takes up, and target selection. -/

namespace Sys2Proof.Machine

/-! ### The classification of a bank (R128) -/

theorem stateFromSlots_eq (v : Vector SlotIndex 8) : stateFromSlots v =
    if ∀ k : Fin 8, v[k].state = .blank then .blank else if ∃ k : Fin 8, v[k].state = .blank then .open else .full := by
  have hall : v.toList.all (fun x => x.state == .blank) = true ↔ ∀ k : Fin 8, v[k].state = .blank := by
    simp only [toList_eq_map_allSlots, List.all_map, List.all_eq_true, mem_allSlots, forall_true_left,
      Function.comp_apply, beq_iff_eq]
  by_cases hblank : ∀ k : Fin 8, v[k].state = .blank
  · rw [stateFromSlots, if_pos (hall.mpr hblank), if_pos hblank]
  · obtain ⟨k, hk⟩ := not_forall.mp hblank
    rw [if_neg hblank]
    exact stateFromSlots_of_used hk

theorem NvSlot.classify_eq (n : NvSlot) : n.classify =
    if n.word 0 = 0xA5C3#16 then
      { state := if n.word 47 = 0x5A3C#16 then .valid else .void, number := some (n.word 1 ++ n.word 2) }
    else { state := if n.firstProgrammed = none then .blank else .void, number := none } := by
  simp only [NvSlot.classify, Option.isNone_iff_eq_none]
  rfl

theorem NvBank.classify_unstamped {n : NvBank} (h : n.stamp = none) : n.classify = .unclassified := by
  rw [NvBank.classify, h]

/-- A stamped bank of the index (R128). -/
theorem NvBank.classify_stamped {n : NvBank} {count : Nat} (h : n.stamp = some count) :
    n.classify.eraseCount = count ∧ n.classify.marks = n.marks
      ∧ n.classify.validCount = (n.classify.slots.toList.filter fun x => x.state == .valid).length
      ∧ n.classify.state = stateFromSlots n.classify.slots := by
  rw [NvBank.classify, h]
  exact ⟨rfl, rfl, rfl, rfl⟩

/-- A bank needs an erase just where it has no stamp (R128). -/
theorem NvBank.classify_needsErase (n : NvBank) : (n.classify.state == .needsErase) = n.stamp.isNone := by
  cases h : n.stamp with
  | none =>
    rw [NvBank.classify_unstamped h]
    rfl
  | some count =>
    obtain ⟨-, -, -, hstate⟩ := NvBank.classify_stamped h
    have hfrom := stateFromSlots_fromSlots n.classify.slots
    rw [← hstate] at hfrom
    rw [Option.isNone_some, beq_eq_false_iff_ne]
    exact fun he => absurd (he ▸ hfrom) nofun

/-- A bank not yet erased holds no number. -/
theorem unclassified_holds (n : DWord) : BankIndex.unclassified.holds n = false := by
  refine Bool.eq_false_iff.mpr fun h => ?_
  obtain ⟨k, hk⟩ | hn := (BankIndex.holds_iff _ n).mp h
  · rw [unclassified_slot] at hk
    exact absurd hk nofun
  · exact absurd hn List.not_mem_nil

/-! ### The next number and the current bank (R130, R131) -/

namespace TripStore

variable {t : TripStore}

theorem validNumbers_empty_iff : t.validNumbers.isEmpty = true
    ↔ ∀ (b : Fin 4) (n : DWord), ¬∃ k : Fin 8, t.banks[b].slots[k] = { state := .valid, number := some n } := by
  rw [List.isEmpty_iff, List.eq_nil_iff_forall_not_mem]
  simp only [mem_validNumbers]
  exact ⟨fun h b n ⟨k, hk⟩ => h n ⟨b, k, hk⟩, fun h n ⟨b, k, hk⟩ => h b n ⟨k, hk⟩⟩

theorem validNumbers_found {n : DWord} (h : n ∈ t.validNumbers) : n ∈ t.foundNumbers := by
  obtain ⟨b, hk⟩ := mem_validNumbers.mp h
  exact mem_foundNumbers.mpr ⟨b, .inl (BankIndex.mem_numbersOf.mpr hk)⟩

/-- With no VALID record the numbers begin at 1, and the current bank is the lowest BLANK one, else bank 0. -/
theorem afterScan_empty (h : t.validNumbers.isEmpty = true) :
    t.numberAfterScan = 1 ∧ ∀ b : Fin 4, t.currentAfterScan = b ↔
      t.banks[b].state = .blank ∧ (∀ c : Fin 4, c < b → t.banks[c].state ≠ .blank)
        ∨ b = 0 ∧ ∀ c : Fin 4, t.banks[c].state ≠ .blank := by
  refine ⟨by rw [numberAfterScan, if_pos h], fun b => ?_⟩
  rw [currentAfterScan, if_pos h]
  cases hf : allBanks.find? fun c => t.banks[c].state == .blank with
  | none =>
    have hnone (c : Fin 4) : t.banks[c].state ≠ .blank := fun hc =>
      List.find?_eq_none.mp hf c (mem_allBanks c) (beq_iff_eq.mpr hc)
    exact ⟨fun hb => .inr ⟨hb.symm, hnone⟩, fun hb => hb.elim (fun h => absurd h.1 (hnone b)) fun h => h.1.symm⟩
  | some a =>
    have ha : t.banks[a].state = .blank := by
      have hp := List.find?_some hf
      rwa [beq_iff_eq] at hp
    constructor
    · rintro rfl
      exact .inl ⟨ha, fun c hc => beq_eq_false_iff_ne.mp (find?_before allBanks_sorted mem_allBanks hf hc)⟩
    · rintro (⟨hb, hbefore⟩ | ⟨-, hnone⟩)
      · have hfirst := find?_first allBanks_sorted (p := fun c => t.banks[c].state == .blank) (mem_allBanks b)
          (beq_iff_eq.mpr hb) fun c hc => beq_eq_false_iff_ne.mpr (hbefore c hc)
        exact Option.some.inj (hf.symm.trans hfirst)
      · exact absurd ha (hnone a)

/-- With one the next number follows the largest found, and the current bank holds the largest VALID number. -/
theorem afterScan_nonempty (h : ¬t.validNumbers.isEmpty = true) :
    (∃ n, n ∈ t.foundNumbers ∧ t.numberAfterScan = n + 1 ∧ ∀ m ∈ t.foundNumbers, m.toNat ≤ n.toNat)
      ∧ ∃ n, n ∈ t.banks[t.currentAfterScan].numbersOf .valid ∧ ∀ m ∈ t.validNumbers, m.toNat ≤ n.toNat := by
  have hne : t.validNumbers ≠ [] := fun he => h (List.isEmpty_iff.mpr he)
  obtain ⟨m, hm⟩ := List.exists_mem_of_ne_nil _ hne
  have hlargest := largestOf_mem hne
  have hcurrent {b : Fin 4} (hb : allBanks.find? (fun b =>
      (t.banks[b].numbersOf .valid).contains (largestOf t.validNumbers)) = some b) : t.currentAfterScan = b := by
    rw [currentAfterScan, if_neg h, hb]
    rfl
  refine ⟨⟨_, largestOf_mem (List.ne_nil_of_mem (validNumbers_found hm)), by rw [numberAfterScan, if_neg h],
    fun m hm => le_largestOf hm⟩, ⟨_, ?_, fun m hm => le_largestOf hm⟩⟩
  cases hf : allBanks.find? fun b => (t.banks[b].numbersOf .valid).contains (largestOf t.validNumbers) with
  | none =>
    obtain ⟨b, hk⟩ := mem_validNumbers.mp hlargest
    exact absurd (List.contains_iff_mem.mpr (BankIndex.mem_numbersOf.mpr hk))
      (List.find?_eq_none.mp hf b (mem_allBanks b))
  | some b =>
    have hp := List.find?_some hf
    obtain rfl := hcurrent hf
    exact List.contains_iff_mem.mp hp

/-! ### The store after the scan (R128, R140) -/

theorem scanned_queue (t : TripStore) : t.scanned.endWork.queue
    = t.queue ++ [0, 1, 2, 3].filter fun b : Fin 4 => t.nv[b].stamp.isNone && !t.queue.contains b := by
  have hfilter : (fun b : Fin 4 => t.scanned.banks[b].state == .needsErase && !t.queue.contains b)
      = fun b : Fin 4 => t.nv[b].stamp.isNone && !t.queue.contains b := by
    funext b
    rw [scanned_bank, NvBank.classify_needsErase]
  exact congrArg (fun f => t.queue ++ allBanks.filter f) hfilter

/-- The VALID slots counted in SCAN_DONE are those of the index (R151). -/
theorem scanned_validTotal (t : TripStore) : t.scanned.validTotal
    = t.scanned.banks[0].validCount + t.scanned.banks[1].validCount + t.scanned.banks[2].validCount
      + t.scanned.banks[3].validCount := by
  have hcount (b : Fin 4) : (allSlots.filter fun k => t.scanned.banks[b].slots[k].state == .valid).length
      = t.scanned.banks[b].validCount := by
    rw [scanned_bank, (NvBank.classify_law _).1.valid, validSlots, toList_eq_map_allSlots, List.filter_map,
      List.length_map]
    rfl
  have htotal : t.scanned.validTotal = ([0, 1, 2, 3].map fun b : Fin 4 => t.scanned.banks[b].validCount).sum :=
    congrArg (fun f => (allBanks.map f).sum) (funext hcount)
  rw [htotal]
  simp [Nat.add_assoc]

/-- The erase of the first unstamped bank begins, if any (R128, R140). -/
theorem scanned_chooseWork (hq : t.queue = []) :
    ((∀ b : Fin 4, t.nv[b].stamp.isSome = true) → t.scanned.endWork.chooseWork.activity = .idle)
    ∧ ∀ b : Fin 4, t.nv[b].stamp = none → (∀ c : Fin 4, c < b → t.nv[c].stamp.isSome = true) →
      t.scanned.endWork.chooseWork.activity = .erasing ∧ t.scanned.endWork.chooseWork.busy = some b := by
  have hs (a : Fin 4) : t.scanned.endWork.banks[a].state ≠ .eraseSuspended := by
    have hbank : t.scanned.endWork.banks[a] = t.nv[a].classify := t.scanned_bank a
    rw [hbank]
    exact (NvBank.classify_law _).2.2.2
  have hqueue : t.scanned.endWork.queue = allBanks.filter fun b => t.nv[b].stamp.isNone := by
    rw [scanned_queue, hq]
    simp only [List.contains_nil, Bool.not_false, Bool.and_true]
    rfl
  refine ⟨fun hall => ?_, fun b hb hbefore => ?_⟩
  · rw [chooseWork_empty rfl hs (hqueue.trans (List.filter_eq_nil_iff.mpr fun a _ => ?_))]
    · rfl
    · rw [Option.isNone_eq_false_iff.mpr (hall a)]
      exact Bool.false_ne_true
  · have hhead : t.scanned.endWork.queue.head? = some b := by
      rw [hqueue, List.head?_filter]
      exact find?_first allBanks_sorted (mem_allBanks b) (Option.isNone_iff_eq_none.mpr hb) fun c hc =>
        Option.isNone_eq_false_iff.mpr (hbefore c hc)
    obtain ⟨rest, hrest⟩ := List.head?_eq_some_iff.mp hhead
    have hbank : t.scanned.endWork.banks[b] = .unclassified :=
      (t.scanned_bank b).trans (NvBank.classify_unstamped hb)
    rw [chooseWork_queue rfl hs hrest, takeHead_plain (by rw [hbank, unclassified_holds])]
    exact ⟨rfl, rfl⟩

/-! ### Target selection (R134, R135) -/

/-- A bank that takes records: OPEN or BLANK, and not in the queue. -/
def TakesRecords (t : TripStore) (b : Fin 4) : Prop :=
  (t.banks[b].state = .open ∨ t.banks[b].state = .blank) ∧ b ∉ t.queue

theorem queued_false {b : Fin 4} (h : b ∉ t.queue) : t.queued b = false :=
  Bool.eq_false_iff.mpr fun hc => h (List.contains_iff_mem.mp hc)

/-- The lowest BLANK slot is the one found. -/
theorem lowestBlank_eq {e : BankIndex} {k : Fin 8} (hk : e.slots[k].state = .blank)
    (hbefore : ∀ j : Fin 8, j < k → e.slots[j].state ≠ .blank) : e.lowestBlank = some k :=
  find?_first allSlots_sorted (mem_allSlots k) (beq_iff_eq.mpr hk) fun j hj => beq_eq_false_iff_ne.mpr (hbefore j hj)

theorem freeSlot_takes {b : Fin 4} (h : t.TakesRecords b) : t.freeSlot b = t.banks[b].lowestBlank := by
  obtain ⟨hstate, hq⟩ := h
  rw [freeSlot, if_pos]
  rw [queued_false hq, Bool.not_false, Bool.and_true, Bool.or_eq_true, beq_iff_eq, beq_iff_eq]
  exact hstate

theorem freeSlot_takes_not {b : Fin 4} (h : ¬t.TakesRecords b) : t.freeSlot b = none := by
  rw [freeSlot, if_neg]
  rw [Bool.and_eq_true, Bool.or_eq_true, beq_iff_eq, beq_iff_eq, Bool.not_eq_true']
  exact fun ⟨hstate, hq⟩ => h ⟨hstate, fun hc => by rw [queued, List.contains_iff_mem.mpr hc] at hq; exact nomatch hq⟩

theorem select_free {mode : StoreMode} {k : Fin 8} (h : t.freeSlot t.current = some k) :
    t.select mode = .slot t.current k := by
  unfold select selectDuringEraseAll selectPlain
  rw [h]
  exact ite_self _

theorem select_plain {mode : StoreMode} (h : t.freeSlot t.current = none) (he : t.eraseAll = false) :
    (t.nextBank = none → t.select mode = .miss)
      ∧ ∀ b, t.nextBank = some b → t.select mode = t.selectNext mode b := by
  have hplain : t.select mode = t.selectPlain mode := by rw [select, he, if_neg Bool.false_ne_true]
  refine ⟨fun hn => ?_, fun b hn => ?_⟩ <;> simp only [hplain, selectPlain, h, hn]

/-- What the next bank answers an offer, by its state (R134). -/
theorem selectNext_spec (t : TripStore) (mode : StoreMode) (b : Fin 4) :
    (b ∈ t.queue ∨ t.banks[b].state = .erasing ∨ t.banks[b].state = .eraseSuspended → t.selectNext mode b = .wait)
    ∧ (b ∉ t.queue →
      (t.banks[b].state = .blank → t.selectNext mode b = .slot b 0)
      ∧ (∀ k, t.banks[b].state = .open → t.banks[b].lowestBlank = some k → t.selectNext mode b = .slot b k)
      ∧ (t.banks[b].state = .needsErase → t.selectNext mode b = .queueErase b)
      ∧ (t.banks[b].state = .full → t.selectNext mode b = if mode = .wrap then .queueOverwrite b else .miss)) := by
  refine ⟨fun h => ?_, fun hq => ?_⟩
  · obtain hin | hst | hst := h
    · exact if_pos (List.contains_iff_mem.mpr hin)
    · simp only [selectNext, hst, ite_self]
    · simp only [selectNext, hst, ite_self]
  · have hfree := queued_false hq
    refine ⟨fun hst => ?_, fun k hst hk => ?_, fun hst => ?_, fun hst => ?_⟩
    · simp only [selectNext, hfree, hst, Bool.false_eq_true, if_false]
    · simp only [selectNext, hfree, hst, hk, Bool.false_eq_true, if_false]
    · simp only [selectNext, hfree, hst, Bool.false_eq_true, if_false]
    · simp only [selectNext, hfree, hst, Bool.false_eq_true, if_false]
      cases mode <;> rfl

/-- Under the erase-all flag another BLANK bank is taken, or the offer waits (R135). -/
theorem select_erasingAll {mode : StoreMode} (h : t.freeSlot t.current = none) (he : t.eraseAll = true)
    {other : Option (Fin 4)}
    (ho : (rotationAfter t.current).find? (fun b => t.banks[b].state == .blank && !t.queued b) = other) :
    (other = none → t.select mode = .wait) ∧ ∀ b, other = some b → t.select mode = .slot b 0 := by
  rw [select, if_pos he, selectDuringEraseAll]
  refine ⟨fun hn => ?_, fun b hb => ?_⟩
  · simp only [h, ho, hn]
  · simp only [h, ho, hb]

end TripStore

/-! ### SCAN_END (R128 to R131, R140) -/

/-- The unit after the scan, before its waiting offer. -/
def scanEnded (s : State) : State :=
  { s with
    store := s.store.scanned.endWork
    log := (raise .store .none 0 (BitVec.ofNat 32 s.store.scanned.validTotal) s.store.scanned.nextNumber s).log }

theorem exec_scanEnd {s : State} (ha : s.store.activity = .scanning) :
    exec .scanEnd s = .next (chooseWork (takeOffer (scanEnded s))) := by
  show execScanEnd s = _
  simp only [execScanEnd, ha]
  rfl

theorem scanEnded_bank (s : State) (b : Fin 4) : (scanEnded s).store.banks[b] = s.store.nv[b].classify :=
  s.store.scanned_bank b

/-- Settles O42: the index, numbers and current bank of the scan, the offer and the work after it; and selection. -/
theorem scanEndFillsTheIndex : Obligations.ScanEndFillsTheIndex := by
  unfold Obligations.ScanEndFillsTheIndex
  refine ⟨fun s ha => ?_, fun t mode => ?_⟩
  · refine ⟨scanEnded s, exec_scanEnd ha, fun b k hb => ?_, fun b hb => ?_, fun b n hn => ?_, ?_, ?_, ?_, rfl,
      fun ho hq => ?_⟩
    · obtain ⟨count, hcount⟩ := Option.isSome_iff_exists.mp hb
      rw [scanEnded_bank, NvBank.classify_slot hcount, NvSlot.classify_eq]
    · exact (scanEnded_bank s b).trans (NvBank.classify_unstamped hb)
    · rw [scanEnded_bank]
      obtain ⟨hcount, hmarks, hvalid, hstate⟩ := NvBank.classify_stamped hn
      exact ⟨hcount, hmarks, hvalid, hstate.trans (stateFromSlots_eq _)⟩
    · intro valid found
      have hnext : (scanEnded s).store.nextNumber = (scanEnded s).store.numberAfterScan := rfl
      have hcurrent : (scanEnded s).store.current = (scanEnded s).store.currentAfterScan := rfl
      have hfound (n : DWord) : n ∈ (scanEnded s).store.foundNumbers ↔ found n := by
        rw [TripStore.mem_foundNumbers]
        simp only [BankIndex.mem_numbersOf]
        exact exists_congr fun b => or_congr_right or_comm
      refine ⟨fun hnone => ?_, fun ⟨b, n, hv⟩ => ?_⟩
      · have hempty := TripStore.validNumbers_empty_iff.mpr hnone
        rw [hnext, hcurrent]
        exact TripStore.afterScan_empty hempty
      · have hempty : ¬(scanEnded s).store.validNumbers.isEmpty = true := fun he =>
          TripStore.validNumbers_empty_iff.mp he b n hv
        obtain ⟨⟨n, hn, hnumber, hall⟩, m, hm, hmost⟩ := TripStore.afterScan_nonempty hempty
        refine ⟨⟨n, (hfound n).mp hn, hnext.trans hnumber, fun m hm => hall m ((hfound m).mpr hm)⟩, m, ?_, ?_⟩
        · rw [hcurrent]
          exact BankIndex.mem_numbersOf.mp hm
        · exact fun b m hv => hmost m (TripStore.mem_validNumbers.mpr ⟨b, hv⟩)
    · have hqueue := s.store.scanned_queue
      exact congrArg (fun q => ({ (scanEnded s).store with queue := q } : TripStore)) hqueue
    · exact congrArg (fun n => (raise .store .none 0 (BitVec.ofNat 32 n) s.store.scanned.nextNumber s).log)
        s.store.scanned_validTotal
    · rw [takeOffer_none (by exact ho)]
      exact s.store.scanned_chooseWork hq
  · intro c free lowest next other
    refine ⟨fun k hf hk => ?_, fun hf he => ?_, fun hf he => ?_⟩
    · exact TripStore.select_free ((TripStore.freeSlot_takes hf).trans (TripStore.lowestBlank_eq hk.1 hk.2))
    · obtain ⟨hmiss, hnext⟩ := TripStore.select_plain (mode := mode) (TripStore.freeSlot_takes_not hf) he
      refine ⟨hmiss, fun b hb => ?_⟩
      rw [hnext b hb]
      obtain ⟨hwait, htakes⟩ := t.selectNext_spec mode b
      refine ⟨hwait, fun hq => ?_⟩
      obtain ⟨hblank, hopen, herase, hfull⟩ := htakes hq
      exact ⟨hblank, fun k ho hk => hopen k ho (TripStore.lowestBlank_eq hk.1 hk.2), herase, hfull⟩
    · exact TripStore.select_erasingAll (TripStore.freeSlot_takes_not hf) he rfl

end Sys2Proof.Machine
